-- ==== Sys2Proof/Word.lean ====
section
/-! DEFINITION. The word types of the module and the plainest arithmetic on counted quantities. -/

namespace Sys2Proof

/-- A 32-bit register word or point value. -/
abbrev Word := BitVec 32
/-- A 16-bit half word. -/
abbrev Half := BitVec 16
/-- One byte. -/
abbrev Byte := BitVec 8

/-- One more, but not above `top`: the saturating counters of the register tables. -/
def satInc (top n : Nat) : Nat := if n < top then n + 1 else top

/-- A sum that stays at `top`. -/
def satAdd (top n k : Nat) : Nat := min top (n + k)

/-- The quotient rounded up; 0 for a divisor of 0. -/
def ceilDiv (n d : Nat) : Nat := (n + (d - 1)) / d

/-- Bits `lo .. lo+w-1` of a natural number. -/
def bitsOf (n lo w : Nat) : Nat := (n / 2 ^ lo) % 2 ^ w

/-- The signed 16-bit reading of a natural number. -/
def sint16 (n : Nat) : Int :=
  let m := n % 65536
  if m < 32768 then (m : Int) else (m : Int) - 65536

/-- An integer kept between two bounds. -/
def clampInt (lo hi x : Int) : Int := if x < lo then lo else if hi < x then hi else x

/-- 1 for true, 0 for false: the value of a one-bit field. -/
def bit (b : Bool) : Nat := if b then 1 else 0

end Sys2Proof
end

