-- ==== Sys2Proof/Syntax/Types.lean ====
section
/-! DEFINITION. The operand types of the commands: who accesses, how a memory answered, and the messages that arrive
from outside with their fields as the spec lays them out. -/

namespace Sys2Proof

/-- The masters of the internal address space (Table 1-3). -/
inductive Master where
  | sup | mill (ch : Fin 16) | cxe | net | plk | hpt | ksu | grn | pdir | mtr
deriving DecidableEq, Repr

/-- What the error-correcting code found in an access (R25). -/
inductive Ecc where
  | clean | corrected | uncorrectable
deriving DecidableEq, Repr

/-- The access a master makes. -/
inductive Access where
  | fetch | read | write
deriving DecidableEq, Repr

/-- The types of a point value (Table 3-1); 5 to 7 are reserved. -/
inductive PType where
  | bool | int32 | uint32 | real32 | time
deriving DecidableEq, Repr

/-- The TYPE field of a type. -/
def PType.code : PType → Nat
  | .bool => 0 | .int32 => 1 | .uint32 => 2 | .real32 => 3 | .time => 4

/-- The type of a TYPE field; none for a reserved value. -/
def PType.ofCode : Nat → Option PType
  | 0 => some .bool | 1 => some .int32 | 2 => some .uint32 | 3 => some .real32 | 4 => some .time
  | _ => none

/-- Visibility (Table 3-4). -/
inductive Vis where
  | priv | opvis | pub
deriving DecidableEq, Repr

/-- The VIS field. -/
def Vis.code : Vis → Nat
  | .priv => 0 | .opvis => 1 | .pub => 2

/-- The visibility of a VIS field; none for the reserved value. -/
def Vis.ofCode : Nat → Option Vis
  | 0 => some .priv | 1 => some .opvis | 2 => some .pub
  | _ => none

/-- The PDIR ports (Table 3-6). -/
abbrev Port := Fin 11
/-- A tenant, 0 the operator. -/
abbrev Tenant := Fin 64

/-- A line-time announcement (Table 2-5). -/
structure Announcement where
  sender : BitVec 12
  rank : BitVec 4
  virt : Bool
  siteOk : Bool
  isMaster : Bool
  siteTime : BitVec 56
  freq : Nat
deriving DecidableEq, Repr

/-- Who sends a command to a block for SUP to carry out (R446): the source of a mailbox command. -/
inductive Source where
  | host | network | service
deriving DecidableEq, Repr

/-- The source number of the GRN registers. -/
def Source.code : Source → Nat
  | .host => 1 | .network => 2 | .service => 3

/-- An item named with an event, by its natural size (R397). -/
inductive Item where
  | n1 (v : Nat) | n2 (v : Nat) | n4 (v : Nat) | n6 (v : Nat) | n8 (v : Nat)
deriving DecidableEq, Repr

/-- Operand B of a Knaec instruction: register form or immediate form (R93). -/
inductive KArg where
  | reg (r : Fin 16)
  | imm (v : Half)
deriving DecidableEq, Repr

/-- What the NAND controller met in a page operation (R28): nothing, 5 to 8 corrected bits so that the block was
retired, or an uncorrectable error. -/
inductive NandOutcome where
  | clean | retired | failed
deriving DecidableEq, Repr

/-- What a field channel's converter found at an update instant (Table 8-4): a contact's open-wire test; a mean of
conversions as REAL32 (V or mA) with the current limiter; a sensor's temperature as REAL32 with its resistance in mΩ; the
count that the channel holds; an output terminal as the readback point shows it. -/
inductive Sensed where
  | contact (open_ : Bool)
  | analogue (v : Word) (limiting : Bool)
  | thermo (t : Word) (milliohm : Nat)
  | counter
  | terminal (v : Word)
deriving DecidableEq, Repr

/-- The output faults that clear when their condition was absent for 10 ms (Table 8-6). -/
inductive OutFault where
  | short | open_
deriving DecidableEq, Repr

/-- A frame that a bus port received: a CAN frame; an RS-485 frame with a character error of it (0 none, 1 framing, 2 parity,
3 oversize); a DALI-2 forward frame of a size in bits, or a framing violation. -/
inductive BusFrame where
  | can (ide fdf remote : Bool) (id : BitVec 29) (data : List Byte)
  | rs485 (bytes : List Byte) (err : Fin 4)
  | dali (bits : Nat) (value : Nat)
  | violation
deriving DecidableEq, Repr

/-- What came in a DALI-2 answer window (R280). -/
inductive DaliAnswer where
  | silence | backward (b : Byte) | violation
deriving DecidableEq, Repr

/-- What a sleeping CAN transceiver saw (R274): a dominant phase in ns, a frame, or its count of frames in error. -/
inductive WakeSeen where
  | dominant (ns : Nat)
  | frame (ide fdf : Bool) (id : BitVec 29) (dlc : Nat) (data : List Byte)
  | errors (count : Nat)
deriving DecidableEq, Repr

/-- What MTR formed of a current channel in one line cycle (Table 7-1), compensated under R205 and before INV. Energies
(quantity times T) stand in 2^-32 mWh, mvarh or mVAh, mean squares in 2^-40 A², φ in degrees as REAL32. -/
structure CurrentCycle where
  ch : Fin 48
  p : Int
  p1 : Int
  q1 : Int
  sa : Nat
  total2 : Nat
  fund2 : Nat
  harm2 : Nat
  phi : Word
  clip : Bool
  fault : Bool
deriving DecidableEq, Repr

/-- What MTR formed of a voltage channel in one line cycle: mean squares in 2^-40 V², the frequency in mHz from its own
zero crossings where it found one, and the phase in degrees as REAL32. -/
structure VoltageCycle where
  vs : Fin 12
  total2 : Nat
  fund2 : Nat
  harm2 : Nat
  freq : Option Nat
  phase : Word
  clip : Bool
  fault : Bool
deriving DecidableEq, Repr

/-- What a power-fail flush, an S3 entry or a fault finds in progress: the partial line cycle that MTR forms, the duration in µs
and the faulty words of the snapshot that runs, whether a COMMIT of the key journal is being written, and the flush's own
duration in µs. -/
structure FlushIn where
  samples : Nat
  currents : List CurrentCycle
  voltages : List VoltageCycle
  snapUs : Nat
  faulty : List Nat
  committing : Bool
  us : Nat
deriving DecidableEq, Repr

/-- What a start-up finds: slot store records that fail their tag (R365) and blocks of the active slot and of the other slot that
NAND cannot read (R391). -/
structure Found where
  lostKeys : List Byte
  badActive : List Nat
  badTarget : List Nat
deriving DecidableEq, Repr

/-- A mailbox for commands (R444, R448): of the host, of the service port, or of a network requester's SRC and KEY. -/
inductive Box where
  | host | service | net (src : Half) (key : Byte)
deriving DecidableEq, Repr

/-- A data block (R128). -/
structure DataInfo where
  id : Nat
  off : Nat
  size : Nat
  mirror : Bool
  ten : Nat
deriving DecidableEq, Repr

/-- A byte offset lies in a block. -/
def DataInfo.holds (d : DataInfo) (off : Nat) : Bool := decide (d.off ≤ off) && decide (off < d.off + d.size)

/-- A map copy (Table 5-2): symbol identifiers by physical cell, and the data block table. -/
structure CellMap where
  timers : List (Nat × Nat)
  edges : List (Nat × Nat)
  datas : List DataInfo
deriving DecidableEq, Repr

/-- A heartbeat of the pair link (Table 11-5). -/
structure Beat where
  state : BitVec 3
  ctrl : Bool
  fault : Bool
  lock : Bool
  swoPend : Bool
  nak : Bool
  lt : BitVec 56
  ack : Word
  imageId : Word
  imageVer : Word
  cfgHash : BitVec 64
deriving DecidableEq, Repr

/-- What a received link frame's envelope shows (R336): CRC and MAC good, the epoch and the count. -/
structure LinkHead where
  good : Bool
  epoch : Word
  count : Word
deriving DecidableEq, Repr

/-- An entry of an OUT batch (Table 11-4). -/
structure OutEntry where
  handle : BitVec 13
  qual : Byte
  value : Word
  ts : Word
deriving DecidableEq, Repr

/-- A loop record of the link (Table 11-4). -/
structure LoopMirror where
  loop : Fin 128
  mode : BitVec 3
  region : Fin 4
  held : BitVec 4
  overruns : BitVec 2
  due : BitVec 56
  i : Word
  d : Word
  qprev : Word
  sp : Word
  man : Word
  pcnt : Word
  pts : Word
deriving DecidableEq, Repr

/-- A meter record of the link (Table 11-6). -/
structure MeterMirror where
  ch : Fin 48
  closed : BitVec 56
  cum : List Nat
  frac : List Nat
  wrap : List Nat
  start : List Nat
  noload : Word
  metered : Word
  flags : Byte
  istart : BitVec 56
  seq : Word
deriving DecidableEq, Repr

/-- A row of the data image on the link. -/
structure RowMirror where
  row : BitVec 13
  bytes : List Byte
deriving DecidableEq, Repr

/-- The snapshot record that ends a DATA batch (Table 5-3), with the map copies, which the rows of 0x1E_1000 on hold. -/
structure SnapMirror where
  seq : Word
  imageId : Word
  imageVer : Word
  mscnt : Word
  mapsel : Fin 2
  time : BitVec 56
  map0 : CellMap
  map1 : CellMap
deriving DecidableEq, Repr

/-- Where a bus error meets a Mill channel (R455): the reading of the descriptor; a read beat after `issued` write beats, of
which the last `out` are outstanding; a write beat, `issued` of which have been issued and the last `out` are outstanding;
the writing back of STATUS or REMAIN. -/
inductive MillErr where
  | fetch
  | read (beat issued : Nat) (out : Fin 5)
  | write (beat issued : Nat) (out : Fin 5)
  | writeBack
deriving DecidableEq, Repr

end Sys2Proof
end

