-- ==== Sys2Proof/Syntax.lean ====
section
/-! DEFINITION. The commands of the module: one constructor per row of the table of operations and events, in the
table's order. -/

namespace Sys2Proof

/-- A command. Operands that the spec's text gives the command stand as arguments; measured quantities that the
hardware hands over are arguments too. -/
inductive Instr where
  /-- REGISTER_WRITE (R11). -/
  | registerWrite (addr : Word) (size : Nat) (value : Word)
  /-- W1C_REGISTER_WRITE (R12). -/
  | w1cRegisterWrite (addr value hwSet : Word)
  /-- RC_REGISTER_READ (R12). -/
  | rcRegisterRead (addr hwSet : Word)
  /-- FABRIC_ACCESS (R22). -/
  | fabricAccess (master : Master) (tag : Tenant) (access : Access) (addr : Word) (size : Nat) (value : Word) (ecc : Ecc)
  /-- SUP_WATCHDOG_EXPIRY (R434). -/
  | supWatchdogExpiry
  /-- SUP_RESTART_COMPLETE (R20). -/
  | supRestartComplete
  /-- HLT_WDOG_KICK (R434). -/
  | hltWdogKick
  /-- REFERENCE_ZERO_CROSSING (R41). -/
  | referenceZeroCrossing (freq rms : Nat) (angle : Half)
  /-- MAINS_LOSS_TIMEOUT (R42). -/
  | mainsLossTimeout
  /-- LINE_CYCLE_BOUNDARY (R49). -/
  | lineCycleBoundary (sec : BitVec 48) (ns : BitVec 30)
  /-- CLOAD (R52). -/
  | cload (arg : BitVec 24)
  /-- SITE_RESYNC (R57). -/
  | siteResync
  /-- ANNOUNCEMENT_RECEIVED (R57). -/
  | announcementReceived (ann : Announcement) (localTime : BitVec 56)
  /-- SITE_LOSS (R57). -/
  | siteLoss
  /-- SITE_MASTER_ELECTION (R56). -/
  | siteMasterElection
  /-- SCHEDULER_ENABLE (R60). -/
  | schedulerEnable
  /-- SCHEDULER_DISABLE (R64). -/
  | schedulerDisable
  /-- SCHEDULER_ENTRY_WRITE (R59). -/
  | schedulerEntryWrite (bank : Fin 2) (index : Fin 512) (word : Fin 4) (value : Word)
  /-- SWAP_ARM (R63). -/
  | swapArm (xHi : BitVec 24)
  /-- BANK_SWAP (R63). -/
  | bankSwap
  /-- SWITCHOVER_ENTRY_ARM (R64). -/
  | switchoverEntryArm (xHi : BitVec 24)
  /-- SWITCHOVER_ENTRY_CANCEL (R64). -/
  | switchoverEntryCancel
  /-- SWITCHOVER_POINT (R335). -/
  | switchoverPoint
  /-- LTU_NOW_LO_READ (R67). -/
  | ltuNowLoRead
  /-- LTU_SOFS_LO_READ (R67). -/
  | ltuSofsLoRead
  /-- POINT_READ (R76). -/
  | pointRead (port : Port) (tag : Tenant) (handle : Half) (elem : Fin 8) (ecc : Ecc)
  /-- TRANSACTION_WRITE (R76). -/
  | transactionWrite (port : Port) (tag : Tenant) (handle : Half) (elem : Fin 8) (type : PType) (value : Word)
  /-- TABLE_WINDOW_READ (R83). -/
  | tableWindowRead (port : Port) (tag : Tenant) (handle : Fin 8192) (word : Fin 8) (ecc : Ecc)
  /-- TABLE_WINDOW_WRITE (R83). -/
  | tableWindowWrite (port : Port) (tag : Tenant) (handle : Fin 8192) (word : Fin 8) (size : Nat) (value : Word)
  /-- FORCE (R85). -/
  | force (tag : Tenant) (handle : BitVec 13)
  /-- RELEASE (R85). -/
  | release (tag : Tenant) (handle : BitVec 13)
  /-- FORCE_RECORD_COMPLETE (R86). -/
  | forceRecordComplete (handle : BitVec 13)
  /-- TASK_ACTIVATION (R138). -/
  | taskActivation (task : Fin 32)
  /-- ACTIVATION_DISPATCH (R139). -/
  | activationDispatch
  /-- OUTPUT_COMMIT (R143). -/
  | outputCommit (task : Fin 32)
  /-- DEADLINE_OVERRUN (R146). -/
  | deadlineOverrun (task : Fin 32)
  /-- CXE_RESTART (R148). -/
  | cxeRestart (ten : Tenant)
  /-- CXE_RESTORE (R156). -/
  | cxeRestore (bank : Fin 2)
  /-- CODE_FETCH_FAULT (R151). -/
  | codeFetchFault (lane : Fin 8)
  /-- SNAPSHOT_COMPLETE (R154). -/
  | snapshotComplete (us : Nat) (faulty : List Nat)
  /-- TIMER_CELL_REFRESH (R117). -/
  | timerCellRefresh
  /-- LOAD_PORT_WRITE (R158). -/
  | loadPortWrite (value : Word)
  /-- VALUE_CHANGE_DATA (R159). -/
  | valueChangeData (ten : Tenant) (n : Fin 16) (wofs : BitVec 19)
  /-- VALUE_CHANGE_PRESET (R159). -/
  | valueChangePreset (ten : Tenant) (cell : BitVec 12)
  /-- VALUE_CHANGE_APPLY (R160). -/
  | valueChangeApply
  /-- EXCHANGE_ARM (R164). -/
  | exchangeArm (twinX : Option (BitVec 56))
  /-- NOP (R105). -/
  | knNop (lane : Fin 8)
  /-- EXT (R96). -/
  | knExt (lane : Fin 8) (hi : Half)
  /-- END (R112). -/
  | knEnd (lane : Fin 8)
  /-- BR (R108). -/
  | knBr (lane : Fin 8) (cond : Fin 16) (imm : Half)
  /-- CALL (R111). -/
  | knCall (lane : Fin 8) (routine : BitVec 12)
  /-- RET (R111). -/
  | knRet (lane : Fin 8)
  /-- LOOP (R109). -/
  | knLoop (lane : Fin 8) (d : Fin 16) (n : Half)
  /-- ENDL (R109). -/
  | knEndl (lane : Fin 8)
  /-- BRK (R109). -/
  | knBrk (lane : Fin 8) (cond : Fin 16)
  /-- CASE (R110). -/
  | knCase (lane : Fin 8) (a : Fin 16) (n : Half)
  /-- SET (R104). -/
  | knSet (lane : Fin 8) (d cond : Fin 16)
  /-- SLEEP (R120). -/
  | knSleep (lane : Fin 8) (a : Fin 16)
  /-- LOG (R121). -/
  | knLog (lane : Fin 8) (a : Fin 16) (event : BitVec 12)
  /-- LTA (R122). -/
  | knLta (lane : Fin 8) (d : Fin 16) (item : Fin 4)
  /-- MOV (R105). -/
  | knMov (lane : Fin 8) (d : Fin 16) (b : KArg)
  /-- LDD (R106). -/
  | knLdd (lane : Fin 8) (d a : Fin 16) (imm : Half) (ecc : Ecc)
  /-- STD (R106). -/
  | knStd (lane : Fin 8) (d a : Fin 16) (imm : Half)
  /-- ADD (R101). -/
  | knAdd (lane : Fin 8) (d a : Fin 16) (b : KArg)
  /-- SUB (R101). -/
  | knSub (lane : Fin 8) (d a : Fin 16) (b : KArg)
  /-- MUL (R101). -/
  | knMul (lane : Fin 8) (d a : Fin 16) (b : KArg)
  /-- MULH (R105). -/
  | knMulh (lane : Fin 8) (d a : Fin 16) (b : KArg)
  /-- DIV (R101). -/
  | knDiv (lane : Fin 8) (d a : Fin 16) (b : KArg)
  /-- DIVU (R101). -/
  | knDivu (lane : Fin 8) (d a : Fin 16) (b : KArg)
  /-- MOD (R101). -/
  | knMod (lane : Fin 8) (d a : Fin 16) (b : KArg)
  /-- MODU (R101). -/
  | knModu (lane : Fin 8) (d a : Fin 16) (b : KArg)
  /-- NEG (R105). -/
  | knNeg (lane : Fin 8) (d : Fin 16) (b : KArg)
  /-- ABS (R105). -/
  | knAbs (lane : Fin 8) (d : Fin 16) (b : KArg)
  /-- MIN (R105). -/
  | knMin (lane : Fin 8) (d a : Fin 16) (b : KArg)
  /-- MAX (R105). -/
  | knMax (lane : Fin 8) (d a : Fin 16) (b : KArg)
  /-- MINU (R105). -/
  | knMinu (lane : Fin 8) (d a : Fin 16) (b : KArg)
  /-- MAXU (R105). -/
  | knMaxu (lane : Fin 8) (d a : Fin 16) (b : KArg)
  /-- LIM (R105). -/
  | knLim (lane : Fin 8) (d a : Fin 16) (b : KArg)
  /-- CMP (R105). -/
  | knCmp (lane : Fin 8) (a : Fin 16) (b : KArg)
  /-- AND (R105). -/
  | knAnd (lane : Fin 8) (d a : Fin 16) (b : KArg)
  /-- OR (R105). -/
  | knOr (lane : Fin 8) (d a : Fin 16) (b : KArg)
  /-- XOR (R105). -/
  | knXor (lane : Fin 8) (d a : Fin 16) (b : KArg)
  /-- NOT (R105). -/
  | knNot (lane : Fin 8) (d : Fin 16) (b : KArg)
  /-- SHL (R101). -/
  | knShl (lane : Fin 8) (d a : Fin 16) (b : KArg)
  /-- SHR (R101). -/
  | knShr (lane : Fin 8) (d a : Fin 16) (b : KArg)
  /-- SAR (R101). -/
  | knSar (lane : Fin 8) (d a : Fin 16) (b : KArg)
  /-- TST (R105). -/
  | knTst (lane : Fin 8) (a : Fin 16) (b : KArg)
  /-- BOOL (R105). -/
  | knBool (lane : Fin 8) (d : Fin 16) (b : KArg)
  /-- FADD (R102). -/
  | knFadd (lane : Fin 8) (d a : Fin 16) (b : KArg)
  /-- FSUB (R102). -/
  | knFsub (lane : Fin 8) (d a : Fin 16) (b : KArg)
  /-- FMUL (R102). -/
  | knFmul (lane : Fin 8) (d a : Fin 16) (b : KArg)
  /-- FDIV (R102). -/
  | knFdiv (lane : Fin 8) (d a : Fin 16) (b : KArg)
  /-- FSQRT (R102). -/
  | knFsqrt (lane : Fin 8) (d : Fin 16) (b : KArg)
  /-- FMA (R102). -/
  | knFma (lane : Fin 8) (d a : Fin 16) (b : KArg)
  /-- FNEG (R102). -/
  | knFneg (lane : Fin 8) (d : Fin 16) (b : KArg)
  /-- FABS (R102). -/
  | knFabs (lane : Fin 8) (d : Fin 16) (b : KArg)
  /-- FMIN (R102). -/
  | knFmin (lane : Fin 8) (d a : Fin 16) (b : KArg)
  /-- FMAX (R102). -/
  | knFmax (lane : Fin 8) (d a : Fin 16) (b : KArg)
  /-- FLIM (R102). -/
  | knFlim (lane : Fin 8) (d a : Fin 16) (b : KArg)
  /-- FCMP (R103). -/
  | knFcmp (lane : Fin 8) (a : Fin 16) (b : KArg)
  /-- ITOF (R105). -/
  | knItof (lane : Fin 8) (d : Fin 16) (b : KArg)
  /-- UTOF (R105). -/
  | knUtof (lane : Fin 8) (d : Fin 16) (b : KArg)
  /-- FTOI (R102). -/
  | knFtoi (lane : Fin 8) (d : Fin 16) (b : KArg)
  /-- FTOU (R102). -/
  | knFtou (lane : Fin 8) (d : Fin 16) (b : KArg)
  /-- FRND (R102). -/
  | knFrnd (lane : Fin 8) (d : Fin 16) (b : KArg)
  /-- PRD (R113). -/
  | knPrd (lane : Fin 8) (d : Fin 16) (elem : Fin 8) (handle : BitVec 13)
  /-- PWR (R114). -/
  | knPwr (lane : Fin 8) (d a : Fin 16) (withQual : Bool) (handle : BitVec 13)
  /-- TMR (R117). -/
  | knTmr (lane : Fin 8) (d a : Fin 16) (kind : Fin 3) (cell : BitVec 12)
  /-- TET (R118). -/
  | knTet (lane : Fin 8) (d : Fin 16) (cell : BitVec 12)
  /-- TPS (R118). -/
  | knTps (lane : Fin 8) (a : Fin 16) (cell : BitVec 12)
  /-- TRS (R118). -/
  | knTrs (lane : Fin 8) (cell : BitVec 12)
  /-- EDG (R119). -/
  | knEdg (lane : Fin 8) (d a : Fin 16) (kind : Fin 3) (cell : BitVec 12)
  /-- LOOP_SAMPLE (R172). -/
  | loopSample (loop : Fin 128) (xtal exec : Nat)
  /-- LOOP_AUTO (R180). -/
  | loopAuto (ten : Tenant) (loop : Fin 128)
  /-- LOOP_MANUAL (R180). -/
  | loopManual (ten : Tenant) (loop : Fin 128) (val : Bool)
  /-- LOOP_MANOUT (R180). -/
  | loopManout (ten : Tenant) (loop : Fin 128)
  /-- LOOP_RESET (R180). -/
  | loopReset (ten : Tenant) (loop : Fin 128)
  /-- LOOP_COEF (R187). -/
  | loopCoef (ten : Tenant) (loop : Fin 128) (region : Fin 4)
  /-- LOOP_REQUEST_APPLY (R181). -/
  | loopRequestApply (loop : Fin 128)
  /-- METER_CYCLE_CLOSE (R207). -/
  | meterCycleClose (samples : Nat) (currents : List CurrentCycle) (voltages : List VoltageCycle)
  /-- METER_INTERVAL_LATCH (R213). -/
  | meterIntervalLatch (ch : Fin 48)
  /-- REPORT_STORE (R227). -/
  | reportStore (orphanAfter : Bool)
  /-- PRESET (R216). -/
  | meterPreset (ten : Tenant) (ch : Fin 64) (k : Fin 16)
  /-- PRESET_APPLY (R216). -/
  | presetApply
  /-- METER_CHECKPOINT (R225). -/
  | meterCheckpoint
  /-- ACCUMULATOR_ECC (R226). -/
  | accumulatorEcc (ch : Fin 48)
  /-- INPUT_UPDATE (R237). -/
  | inputUpdate (ch : Fin 256) (sensed : Sensed) (selfTest : Bool)
  /-- PULSE_EDGE (R239). -/
  | pulseEdge (ch : Fin 256)
  /-- DI_CHANGE (R238). -/
  | diChange (ch : Fin 256) (level : Bool) (sample : BitVec 56)
  /-- CHANGE_WINDOW_END (R238). -/
  | changeWindowEnd (ch : Fin 256)
  /-- OUTPUT_APPLICATION (R241). -/
  | outputApplication (ch : Fin 256)
  /-- DO_SHORT (R245). -/
  | doShort (ch : Fin 256)
  /-- DO_RETRY (R245). -/
  | doRetry (ch : Fin 256)
  /-- DO_OPEN_LOAD (R245). -/
  | doOpenLoad (ch : Fin 256)
  /-- AO_V_SHORT (R245). -/
  | aoVShort (ch : Fin 256)
  /-- AO_I_OPEN (R245). -/
  | aoIOpen (ch : Fin 256)
  /-- OUTPUT_FAULT_CLEAR (R245). -/
  | outputFaultClear (ch : Fin 256) (fault : OutFault)
  /-- VFLD_LOW (R246). -/
  | vfldLow (bank : Fin 8) (mv10 : Nat)
  /-- VFLD_OK (R246). -/
  | vfldOk (bank : Fin 8) (mv10 : Nat)
  /-- FIO_RESET (R248). -/
  | fioReset (ten : Tenant) (ch : Fin 256)
  /-- BUS_WINDOW_OPENING (R261). -/
  | busWindowOpening (win : Fin 224)
  /-- BUS_WINDOW_CLOSE (R264). -/
  | busWindowClose (win : Fin 224)
  /-- FRAME_START (R265). -/
  | frameStart (port : Fin 28) (obj : Fin 4096) (sof : BitVec 56)
  /-- FRAME_SENT (R262). -/
  | frameSent (port : Fin 28) (tec rec_ : Nat)
  /-- ARBITRATION_LOST (R272). -/
  | arbitrationLost (port : Fin 10)
  /-- CAN_ERROR (R272). -/
  | canError (port : Fin 10) (lec : Fin 7) (tec rec_ : Nat)
  /-- BUS_ON (R272). -/
  | busOn (port : Fin 10)
  /-- FRAME_RECEIVED (R266). -/
  | frameReceived (port : Fin 28) (frame : BusFrame) (start : BitVec 56) (full : Bool) (tec rec_ : Nat)
  /-- SILENCE_TIMEOUT (R268). -/
  | silenceTimeout (obj : Fin 4096)
  /-- RS485_COLLISION (R276). -/
  | rs485Collision (port : Fin 28)
  /-- QUERY_REPLY_TIMEOUT (R277). -/
  | queryReplyTimeout (port : Fin 28)
  /-- DALI_ANSWER_WINDOW_END (R280). -/
  | daliAnswerWindowEnd (port : Fin 28) (answer : DaliAnswer)
  /-- DALI_COLLISION (R279). -/
  | daliCollision (port : Fin 28)
  /-- DALI_BUS_DOWN (R281). -/
  | daliBusDown (port : Fin 28)
  /-- DALI_BUS_UP (R281). -/
  | daliBusUp (port : Fin 28)
  /-- CAN_WAKE (R274). -/
  | canWake (port : Fin 10) (seen : WakeSeen)
  /-- FRAME_CANCEL (R284). -/
  | frameCancel (ten : Tenant) (obj : Fin 4096)
  /-- BUS_RECOVER (R284). -/
  | busRecover (ten : Tenant) (target : Fin 4096)
  /-- ETHERNET_FRAME_RECEIVED (R288). -/
  | ethernetFrameReceived (port : Fin 2) (bytes : List Byte) (fcsOk : Bool)
  /-- TRANSMIT_DESCRIPTOR (R299). -/
  | transmitDescriptor (addr : Word)
  /-- ETHERNET_FRAME_SENT (R298). -/
  | ethernetFrameSent (port : Fin 2) (sec : BitVec 48) (ns : BitVec 30)
  /-- LINK_UP (R287). -/
  | linkUp (port : Fin 2) (speed : Fin 3)
  /-- LINK_DOWN (R295). -/
  | linkDown (port : Fin 2)
  /-- DOWNSHIFT (R289). -/
  | downshift (port : Fin 2) (rx tx : Nat)
  /-- UPSHIFT (R289). -/
  | upshift (port : Fin 2) (rx tx : Nat)
  /-- LPI_ENTRY (R290). -/
  | lpiEntry (port : Fin 2)
  /-- RING_TEST_FRAME (R295). -/
  | ringTestFrame
  /-- RING_OPEN (R295). -/
  | ringOpen
  /-- RING_CLOSE (R295). -/
  | ringClose
  /-- RING_CONTROL_FRAME (R295). -/
  | ringControlFrame
  /-- ADDRESS_AGING (R294). -/
  | addressAging
  /-- PTP_SYNC_CHANGE (R304). -/
  | ptpSyncChange (sync : Bool) (p0 p1 : BitVec 4) (ofs : Word)
  /-- UPT_FRAME_RECEIVED (R313). -/
  | uptFrameReceived
  /-- UPT_READ (R316). -/
  | uptRead
  /-- UPT_WRITE (R316). -/
  | uptWrite
  /-- UPT_SUBSCRIBE (R321). -/
  | uptSubscribe
  /-- UPT_NOTICE (R320). -/
  | uptNotice
  /-- UPT_EVENT (R318). -/
  | uptEvent (localTime : BitVec 56)
  /-- UPT_COMMAND (R317). -/
  | uptCommand
  /-- UPT_RESPONSE (R313). -/
  | uptResponse
  /-- REASSEMBLY_TIMEOUT (R317). -/
  | reassemblyTimeout
  /-- SUBSCRIBE_REFRESH (R320). -/
  | subscribeRefresh
  /-- SUBSCRIBE_RETRY (R320). -/
  | subscribeRetry (tid : Half)
  /-- SUBSCRIPTION_STALE (R320). -/
  | subscriptionStale (sub : Fin 2048)
  /-- PERIODIC_NOTICE (R321). -/
  | periodicNotice
  /-- CHANGE_NOTICE (R321). -/
  | changeNotice (addr subno : Half)
  /-- PUBLICATION_DROP (R321). -/
  | publicationDrop
  /-- PAIR_WATCH_CHANGE (R326). -/
  | pairWatchChange (level watch4 : Bool) (ns : Nat)
  /-- COLD_TAKEOVER_TIMEOUT (R328). -/
  | coldTakeoverTimeout (watch4 : Bool)
  /-- OUTGOING_STAGE_DISABLE (R327). -/
  | outgoingStageDisable
  /-- HOLDOFF_EXPIRY (R333). -/
  | holdoffExpiry
  /-- GO_DEADLINE (R335). -/
  | goDeadline
  /-- PAIR_RELEASE (R334). -/
  | pairRelease (ten : Tenant)
  /-- PAIR_RESYNC (R344). -/
  | pairResync (ten : Tenant)
  /-- HEARTBEAT_SEND (R337). -/
  | heartbeatSend
  /-- HEARTBEAT_RECEIVED (R337). -/
  | heartbeatReceived (head : LinkHead) (beat : Beat) (arrival : BitVec 56)
  /-- LINK_FRAME_RETRANSMIT (R336). -/
  | linkFrameRetransmit
  /-- PAIR_LINK_DOWN (R337). -/
  | pairLinkDown
  /-- SYNCED_LINK_GRACE (R337). -/
  | syncedLinkGrace
  /-- PAIR_LINK_UP (R337). -/
  | pairLinkUp (twinEpoch : Word) (delay : Nat)
  /-- CTRL_FAULT (R330). -/
  | ctrlFault (head : LinkHead) (ns : Nat) (watch4 : Bool)
  /-- CTRL_RESYNC (R341). -/
  | ctrlResync (head : LinkHead)
  /-- CTRL_RECLAIM (R335). -/
  | ctrlReclaim (head : LinkHead)
  /-- CTRL_SWO (R335). -/
  | ctrlSwo (head : LinkHead) (x : BitVec 56)
  /-- CTRL_GO (R335). -/
  | ctrlGo (head : LinkHead)
  /-- CTRL_SWO_CANCEL (R335). -/
  | ctrlSwoCancel (head : LinkHead)
  /-- CTRL_IMAGE_REQ (R341). -/
  | ctrlImageReq (head : LinkHead)
  /-- CTRL_IMAGE_RESULT (R343). -/
  | ctrlImageResult (head : LinkHead) (record : List Byte)
  /-- MIRROR_OUT (R338). -/
  | mirrorOut (head : LinkHead) (entries : List OutEntry) (last : Bool)
  /-- MIRROR_FORCE (R338). -/
  | mirrorForce (head : LinkHead) (handle : BitVec 13) (op : Fin 3) (ten : Tenant) (value fts : Word)
  /-- MIRROR_LOOP (R338). -/
  | mirrorLoop (head : LinkHead) (recs : List (LoopMirror × Nat))
  /-- MIRROR_METER (R339). -/
  | mirrorMeter (head : LinkHead) (recs : List MeterMirror)
  /-- MIRROR_GRN (R340). -/
  | mirrorGrn (head : LinkHead) (body : List Byte)
  /-- MIRROR_DATA (R338). -/
  | mirrorData (head : LinkHead) (rows : List RowMirror)
  /-- MIRROR_DATA_END (R338). -/
  | mirrorDataEnd (head : LinkHead) (rec_ : SnapMirror)
  /-- MIRROR_IMG (R341). -/
  | mirrorImg (head : LinkHead) (seg : List Byte) (last : Bool)
  /-- PLK_OFS_LO_READ (R347). -/
  | plkOfsLoRead
  /-- PLK_SWO_LO_READ (R347). -/
  | plkSwoLoRead
  /-- FBE_SOF_LO_READ (R286). -/
  | fbeSofLoRead (port : Fin 28)
  /-- MTR_LO_READ (R232). -/
  | mtrLoRead (ch : Fin 48) (acc : Option (Fin 10))
  /-- GENERATE (R360). -/
  | ksuGenerate (ten : Tenant) (slot : Byte)
  /-- IMPORT (R359). -/
  | ksuImport (ten : Tenant) (slot aux : Byte)
  /-- DERIVE (R360). -/
  | ksuDerive (ten : Tenant) (slot aux : Byte)
  /-- EXPORT (R359). -/
  | ksuExport (ten : Tenant) (slot aux : Byte)
  /-- PUBKEY (R356). -/
  | ksuPubkey (ten : Tenant) (slot : Byte)
  /-- INVALIDATE (R361). -/
  | ksuInvalidate (ten : Tenant) (slot : Byte)
  /-- RECLAIM (R363). -/
  | ksuReclaim (ten : Tenant) (slot : Byte)
  /-- ATTEST (R367). -/
  | ksuAttest (ten : Tenant) (slot : Byte)
  /-- CERT (R367). -/
  | ksuCert (ten : Tenant) (slot : Byte)
  /-- SIGN (R356). -/
  | ksuSign (ten : Tenant) (slot : Byte)
  /-- VERIFY (R356). -/
  | ksuVerify (ten : Tenant) (slot : Byte)
  /-- ENCRYPT (R356). -/
  | ksuEncrypt (ten : Tenant) (slot : Byte)
  /-- DECRYPT (R356). -/
  | ksuDecrypt (ten : Tenant) (slot : Byte)
  /-- MAC (R356). -/
  | ksuMac (ten : Tenant) (slot : Byte)
  /-- MACV (R356). -/
  | ksuMacv (ten : Tenant) (slot : Byte)
  /-- LCSET (R369). -/
  | ksuLcset (ten : Tenant) (test challenge : Bool)
  /-- NONCE (R356). -/
  | ksuNonce (ten : Tenant)
  /-- KEY_OPERATION_COMPLETE (R362). -/
  | keyOperationComplete (n : Nat)
  /-- JOURNAL_WAIT_EXPIRY (R364). -/
  | journalWaitExpiry
  /-- LIFECYCLE_RESET (R369). -/
  | lifecycleReset (found : Found)
  /-- TAMPER_LOCK (R372). -/
  | tamperLock
  /-- UPDATE_OPEN (R380). -/
  | updateOpen (src : Source) (ten : Tenant)
  /-- UPDATE_WRITE (R381). -/
  | updateWrite (src : Source) (ten : Tenant) (pos : BitVec 15)
  /-- UPDATE_FINISH (R384). -/
  | updateFinish (src : Source) (ten : Tenant)
  /-- VERIFICATION_COMPLETE (R384). -/
  | verificationComplete (bad : Bool)
  /-- UPDATE_INSTALL (R385). -/
  | updateInstall (src : Source) (ten : Tenant)
  /-- COMPONENT_RESTART (R385). -/
  | componentRestart (found : Found)
  /-- UPDATE_CONFIRM (R388). -/
  | updateConfirm (src : Source) (ten : Tenant)
  /-- UPDATE_FALLBACK (R389). -/
  | updateFallback (src : Source) (ten : Tenant)
  /-- UPDATE_ABORT (R379). -/
  | updateAbort (src : Source) (ten : Tenant)
  /-- UPDATE_STATUS (R379). -/
  | updateStatus (src : Source) (ten : Tenant)
  /-- LOCK_TIMEOUT (R380). -/
  | lockTimeout
  /-- TRIAL_WINDOW_END (R388). -/
  | trialWindowEnd
  /-- RESTART_ENABLE_TIMEOUT (R388). -/
  | restartEnableTimeout
  /-- EVENT_RECORD (R398). -/
  | eventRecord (src : Fin 18) (code : Half) (ten : Tenant) (lt : Option (BitVec 56)) (items : List Item)
  /-- SRAM_DRAIN (R400). -/
  | sramDrain
  /-- STAGING_PAGE_COPY (R400). -/
  | stagingPageCopy (nand : NandOutcome)
  /-- GRN_READ (R403). -/
  | grnRead (src : Source) (ten : Tenant) (count : BitVec 7) (badPage : Option Nat)
  /-- GRN_FREEZE (R402). -/
  | grnFreeze (src : Source) (ten : Tenant)
  /-- GRN_THAW (R402). -/
  | grnThaw (src : Source) (ten : Tenant)
  /-- GRN_FLUSH (R401). -/
  | grnFlush (ten : Tenant)
  /-- FREEZE_TIMEOUT (R402). -/
  | freezeTimeout
  /-- WELL_SET (R408). -/
  | wellSet (ten : Tenant)
  /-- WELL_ARM (R408). -/
  | wellArm (ten : Tenant) (alarm : Fin 4)
  /-- WELL_DISARM (R409). -/
  | wellDisarm (ten : Tenant) (alarm : Fin 4)
  /-- BACKUP_MEMORY_WRITE (R409). -/
  | backupMemoryWrite (ten : Tenant) (index : Fin 16) (value : Word)
  /-- WELL_COMMAND_COMPLETE (R409). -/
  | wellCommandComplete
  /-- ALARM_FIRE (R410). -/
  | alarmFire (alarm : Fin 4)
  /-- WELL_TIME_WRAP (R406). -/
  | wellTimeWrap
  /-- BACKUP_SWITCHOVER (R411). -/
  | backupSwitchover
  /-- BACKUP_RETURN (R411). -/
  | backupReturn
  /-- WELL_SUBSEC_READ (R415). -/
  | wellSubsecRead
  /-- POWER_ON_RESET (R417). -/
  | powerOnReset (vin : Half) (role : Fin 3) (lost : Bool) (found : Found)
  /-- LOCK_WAIT_END (R421). -/
  | lockWaitEnd
  /-- PIN_RESET (R418). -/
  | pinReset (found : Found)
  /-- PF_ASSERT (R429). -/
  | pfAssert (vin : Half) (flush : FlushIn)
  /-- RECOVERY_RESET (R430). -/
  | recoveryReset (vin : Half) (found : Found)
  /-- SUPPLY_LOSS (R431). -/
  | supplyLoss (vin : Half)
  /-- SETLVL (R423). -/
  | setlvl (ten : Tenant) (level : Fin 4)
  /-- LEVEL_CHANGE_COMPLETE (R422). -/
  | levelChangeComplete
  /-- SLEEP_REQUEST (R425). -/
  | sleepRequest (ten : Tenant) (state : Fin 4)
  /-- SLEEP_ENTRY_COMPLETE (R426). -/
  | sleepEntryComplete (flush : FlushIn)
  /-- WAKE_EVENT (R427). -/
  | wakeEvent (source : Fin 5)
  /-- WAKE_COMPLETE (R428). -/
  | wakeComplete
  /-- MODULE_FAULT (R433). -/
  | moduleFault (cause : Fin 4) (die : Half) (flush : FlushIn) (found : Found)
  /-- MODULE_FAULT_CLEAR (R433). -/
  | moduleFaultClear (cause : Fin 4) (die : Half)
  /-- INDICATOR_UPDATE (R435). -/
  | indicatorUpdate (lossPpm erases writes driftPpb : Nat) (die : Half)
  /-- SPI_WRITE_FRAME (R441). -/
  | spiWriteFrame (opcode : Byte) (addr : BitVec 24) (data : List Byte) (crc : Word)
  /-- SPI_READ_FRAME (R440). -/
  | spiReadFrame (opcode : Byte) (addr : BitVec 24) (len : Nat)
  /-- DOORBELL (R444). -/
  | doorbell (len : BitVec 17)
  /-- COMMAND_RESULT_PRESENT (R445). -/
  | commandResultPresent (box : Box)
  /-- MAILBOX_TIMEOUT (R448). -/
  | mailboxTimeout (box : Box)
  /-- SERVICE_PORT_FRAME (R448). -/
  | servicePortFrame (frame : List Byte)
  /-- USB_DISCONNECT (R442). -/
  | usbDisconnect
  /-- RESULT (R448). -/
  | hpResult (box : Box)
  /-- STATUS (R446). -/
  | hpStatus (box : Box)
  /-- SESSION (R442). -/
  | hpSession (host : Bool)
  /-- PREAD (R446). -/
  | hpPread (box : Box)
  /-- PWRITE (R446). -/
  | hpPwrite (box : Box)
  /-- REGRD (R446). -/
  | hpRegrd (box : Box)
  /-- IMAGE (R446). -/
  | hpImage (box : Box)
  /-- REPORT_READ (R446). -/
  | reportRead (box : Box)
  /-- REPORT_ACK (R446). -/
  | reportAck (box : Box)
  /-- BULK_OPEN (R449). -/
  | bulkOpen (host : Bool)
  /-- BULK_CLOSE (R449). -/
  | bulkClose (host : Bool)
  /-- BLOCK_FORCE (R447). -/
  | blockForce (box : Box)
  /-- BLOCK_CXE_CMD (R447). -/
  | blockCxeCmd (box : Box)
  /-- BLOCK_VALUE_CHANGE (R447). -/
  | blockValueChange (box : Box)
  /-- BLOCK_LOOP (R447). -/
  | blockLoop (box : Box)
  /-- BLOCK_PRESET (R447). -/
  | blockPreset (box : Box)
  /-- BLOCK_FIO (R447). -/
  | blockFio (box : Box)
  /-- BLOCK_FBE (R447). -/
  | blockFbe (box : Box)
  /-- BLOCK_PLK (R447). -/
  | blockPlk (box : Box)
  /-- BLOCK_KSU (R447). -/
  | blockKsu (box : Box)
  /-- BLOCK_GRN (R447). -/
  | blockGrn (box : Box) (badPage : Option Nat)
  /-- BLOCK_WELL (R447). -/
  | blockWell (box : Box)
  /-- BLOCK_BACKUP (R447). -/
  | blockBackup (box : Box)
  /-- BLOCK_PWR (R447). -/
  | blockPwr (box : Box)
  /-- BLOCK_UPD (R447). -/
  | blockUpd (box : Box)
  /-- MILL_START (R451). -/
  | millStart (ch : Fin 16) (desc : BitVec 27)
  /-- MILL_CHANNEL_START (R451). -/
  | millChannelStart
  /-- DESCRIPTOR_END (R453). -/
  | descriptorEnd
  /-- MILL_BUS_ERROR (R455). -/
  | millBusError (err : MillErr) (ecc : Bool)
  /-- BUS_INTEGRATION_COMPLETE (R274). -/
  | busIntegrationComplete (port : Fin 10)
  /-- USB_CONNECT (R476). -/
  | usbConnect
  /-- KEY_BINDING_CHANGE (R312). -/
  | keyBindingChange (n : Fin 128) (en : Bool) (slot : Byte)
  /-- NEG_FAIL (R287). -/
  | negFail (port : Fin 2)
  /-- PTP_MESSAGE_INTERVAL (R303). -/
  | ptpMessageInterval (port : Fin 2) (kind : Fin 4)
  /-- DEBUG_TOKEN (R368). -/
  | debugToken (signed challenge : Bool)
deriving DecidableEq, Repr

end Sys2Proof
end

