-- ==== Sys2Proof/Decode.lean ====
section
/-! DEFINITION. The module is a block: its table of operations and events gives no row any bits, so no word spells a
command. -/

namespace Sys2Proof

/-- The command that a word spells by the table's bits. The table gives no row bits, so no word spells one.
Log entry 24 (DESIGN CHOICE, DEDUCED). -/
def decodeTableWord (_nbits _w : Nat) : Option Instr := none

end Sys2Proof
end

