-- ==== Sys2Proof/Machine/F32.lean ====
section
/-! DEFINITION. REAL32 arithmetic (R102): IEEE 754 binary32 with round-to-nearest-even, subnormal operands read as zero
and subnormal results written as zero, computed exactly on integers and rounded once. -/

namespace Sys2Proof.Machine

/-- The quiet NaN that invalid operations write. -/
def qNaN : Word := 0x7FC00000

/-- The fields of a pattern. -/
def fSign (w : Word) : Bool := w.toNat / 2 ^ 31 == 1
def fExp (w : Word) : Nat := w.toNat / 2 ^ 23 % 256
def fMant (w : Word) : Nat := w.toNat % 2 ^ 23

/-- A NaN, an infinity. -/
def isNaN (w : Word) : Bool := fExp w == 255 && fMant w != 0
def isInf (w : Word) : Bool := fExp w == 255 && fMant w == 0

/-- A zero of a sign, an infinity of a sign. -/
def fZero (s : Bool) : Word := if s then 0x80000000 else 0
def fInf (s : Bool) : Word := if s then 0xFF800000 else 0x7F800000

/-- A subnormal pattern read as the zero of its sign. -/
def fFlush (w : Word) : Word := if fExp w = 0 then fZero (fSign w) else w

/-- A zero or a subnormal, which is read as zero. -/
def isZero (w : Word) : Bool := fExp w == 0

/-- A pattern whose value is zero: +0.0 or −0.0. -/
def zeroPattern (w : Word) : Bool := w.toNat % 2 ^ 31 == 0

/-- The significand and exponent of a finite number: its value is `fNum w * 2 ^ fPow w`. -/
def fNum (w : Word) : Nat := if fExp w = 0 then 0 else fMant w + 2 ^ 23
def fPow (w : Word) : Int := (fExp w : Int) - 150

/-- The signed significand. -/
def fInt (w : Word) : Int := if fSign w then -(fNum w : Int) else (fNum w : Int)

/-- A result and whether its V condition holds. -/
structure FRes where
  w : Word
  v : Bool
deriving DecidableEq, Repr

/-- The quotient by `2 ^ k` rounded to nearest, ties to even; `sticky` says that something lies below `m`. -/
def roundShift (m k : Nat) (sticky : Bool) : Nat :=
  if k = 0 then m
  else
    let q := m / 2 ^ k
    let r := m % 2 ^ k
    let half := 2 ^ (k - 1)
    if half < r ∨ (r = half ∧ (sticky ∨ q % 2 = 1)) then q + 1 else q

/-- A significand of at most 24 bits and its exponent as a pattern; below 2^23 it would be subnormal. -/
def packF (s : Bool) (q : Nat) (ex : Int) : FRes :=
  let q' := if q = 2 ^ 24 then 2 ^ 23 else q
  let ex' := if q = 2 ^ 24 then ex + 1 else ex
  let be := ex' + 150
  if q' < 2 ^ 23 then ⟨fZero s, false⟩
  else if 255 ≤ be then ⟨fInf s, true⟩
  else ⟨BitVec.ofNat 32 ((if s then 2 ^ 31 else 0) + be.toNat * 2 ^ 23 + (q' - 2 ^ 23)), false⟩

/-- The value `(m + something below 1 where sticky) * 2 ^ e` rounded to REAL32. With `sticky`, `m` has 26 bits or more. -/
def roundF (s : Bool) (m : Nat) (e : Int) (sticky : Bool) : FRes :=
  if m = 0 then ⟨fZero s, false⟩
  else
    let len : Int := (Nat.log2 m : Int) + 1
    let ex := max (e + len - 24) (-149)
    let k := ex - e
    if k ≤ 0 then packF s (m * 2 ^ (-k).toNat) ex
    else packF s (roundShift m k.toNat sticky) ex

/-- A signed exact value rounded; an exact zero is +0.0. -/
def roundInt (x : Int) (e : Int) : FRes := roundF (decide (x < 0)) x.natAbs e false

/-- The invalid result. -/
def fInvalid : FRes := ⟨qNaN, true⟩

/-- The sum of two signed significands at their exponents, as a significand at the lower one. -/
def alignAdd (x : Int) (e : Int) (y : Int) (g : Int) : Int × Int :=
  if e ≤ g then (x + y * 2 ^ (g - e).toNat, e) else (x * 2 ^ (e - g).toNat + y, g)

/-- FADD. -/
def fAdd (a b : Word) : FRes :=
  if isNaN a || isNaN b then fInvalid
  else if isInf a then (if isInf b && fSign a != fSign b then fInvalid else ⟨a, false⟩)
  else if isInf b then ⟨b, false⟩
  else if isZero a && isZero b then ⟨if fSign a && fSign b then fZero true else fZero false, false⟩
  else
    let r := alignAdd (fInt a) (fPow a) (fInt b) (fPow b)
    roundInt r.1 r.2

/-- FNEG and FABS act on bit 31 alone. -/
def fNeg (a : Word) : Word := a ^^^ 0x80000000
def fAbs (a : Word) : Word := a &&& 0x7FFFFFFF

/-- FSUB. -/
def fSub (a b : Word) : FRes := if isNaN b then fInvalid else fAdd a (fNeg b)

/-- FMUL. -/
def fMul (a b : Word) : FRes :=
  let s := fSign a != fSign b
  if isNaN a || isNaN b then fInvalid
  else if isInf a || isInf b then (if isZero a || isZero b then fInvalid else ⟨fInf s, false⟩)
  else roundF s (fNum a * fNum b) (fPow a + fPow b) false

/-- FDIV. -/
def fDiv (a b : Word) : FRes :=
  let s := fSign a != fSign b
  if isNaN a || isNaN b then fInvalid
  else if isInf a then (if isInf b then fInvalid else ⟨fInf s, isZero b⟩)
  else if isInf b then ⟨fZero s, false⟩
  else if isZero b then (if isZero a then fInvalid else ⟨fInf s, true⟩)
  else if isZero a then ⟨fZero s, false⟩
  else
    let n := fNum a * 2 ^ 28
    roundF s (n / fNum b) (fPow a - fPow b - 28) (n % fNum b != 0)

/-- The integer square root, bit by bit from bit `k - 1` down. -/
def isqrtFrom : Nat → Nat → Nat → Nat
  | 0, _, r => r
  | k + 1, n, r => if (r + 2 ^ k) * (r + 2 ^ k) ≤ n then isqrtFrom k n (r + 2 ^ k) else isqrtFrom k n r

/-- FSQRT. -/
def fSqrt (a : Word) : FRes :=
  if isNaN a then fInvalid
  else if isZero a then ⟨fZero (fSign a), false⟩
  else if fSign a then fInvalid
  else if isInf a then ⟨a, false⟩
  else
    let odd := fPow a % 2 != 0
    let n := fNum a * (if odd then 2 ^ 29 else 2 ^ 30)
    let e := if odd then fPow a - 29 else fPow a - 30
    let r := isqrtFrom 28 n 0
    roundF false r (e / 2) (r * r != n)

/-- FMA: the product is exact and the sum is rounded once. -/
def fFma (c a b : Word) : FRes :=
  let s := fSign a != fSign b
  if isNaN a || isNaN b || isNaN c then fInvalid
  else if isInf a || isInf b then
    if isZero a || isZero b then fInvalid
    else if isInf c && fSign c != s then fInvalid
    else ⟨fInf s, false⟩
  else if isInf c then ⟨c, false⟩
  else if fNum a * fNum b = 0 && isZero c then ⟨if s && fSign c then fZero true else fZero false, false⟩
  else
    let r := alignAdd (fInt a * fInt b) (fPow a + fPow b) (fInt c) (fPow c)
    roundInt r.1 r.2

/-- The order of two numbers that are not NaN, with zeros of either sign equal. -/
def fLt (a b : Word) : Bool :=
  let a := fFlush a
  let b := fFlush b
  if isZero a && isZero b then false
  else if fSign a != fSign b then fSign a
  else if fSign a then decide (b.toNat < a.toNat)
  else decide (a.toNat < b.toNat)

/-- Equal values that are not NaN. -/
def fEq (a b : Word) : Bool := fFlush a == fFlush b || (isZero a && isZero b)

/-- FMIN. -/
def fMin (a b : Word) : Word :=
  if isNaN a && isNaN b then qNaN
  else if isNaN a then fFlush b
  else if isNaN b then fFlush a
  else if isZero a && isZero b then fZero (fSign a || fSign b)
  else if fLt b a then fFlush b else fFlush a

/-- FMAX. -/
def fMax (a b : Word) : Word :=
  if isNaN a && isNaN b then qNaN
  else if isNaN a then fFlush b
  else if isNaN b then fFlush a
  else if isZero a && isZero b then fZero (fSign a && fSign b)
  else if fLt a b then fFlush b else fFlush a

/-- FLIM: FMIN(FMAX(d, a), b). -/
def fLim (d a b : Word) : Word := fMin (fMax d a) b

/-- A signed number as REAL32 (ITOF), an unsigned one (UTOF). -/
def fOfInt (x : Int) : Word := (roundInt x 0).w
def itof (b : Word) : Word := fOfInt b.toInt
def utof (b : Word) : Word := fOfInt (b.toNat : Int)

/-- The magnitude of a finite number truncated towards zero. -/
def truncMag (w : Word) : Nat :=
  if 0 ≤ fPow w then fNum w * 2 ^ (fPow w).toNat else fNum w / 2 ^ (-fPow w).toNat

/-- A number truncated and saturated to a range (FTOI, FTOU). -/
def ftoRange (lo hi : Int) (b : Word) : FRes :=
  if isNaN b then ⟨0, true⟩
  else if isInf b then ⟨BitVec.ofInt 32 (if fSign b then lo else hi), true⟩
  else
    let t : Int := if fSign b then -(truncMag b : Int) else (truncMag b : Int)
    if t < lo then ⟨BitVec.ofInt 32 lo, true⟩
    else if hi < t then ⟨BitVec.ofInt 32 hi, true⟩
    else ⟨BitVec.ofInt 32 t, false⟩

def ftoi (b : Word) : FRes := ftoRange (-2147483648) 2147483647 b
def ftou (b : Word) : FRes := ftoRange 0 4294967295 b

/-- FRND. -/
def fRnd (b : Word) : FRes :=
  if isNaN b then fInvalid
  else if isInf b then ⟨b, false⟩
  else if 0 ≤ fPow b then ⟨fFlush b, false⟩
  else
    let q := roundShift (fNum b) (-fPow b).toNat false
    ⟨(roundF (fSign b) q 0 false).w, false⟩

/-- A ratio of naturals rounded once; 0 for a denominator of 0. -/
def fOfRatio (n d : Nat) : Word :=
  let k := Nat.log2 d + 64
  (roundF false (n * 2 ^ k / d) (-(k : Int)) (n * 2 ^ k % d != 0)).w

/-- A signed ratio rounded once. -/
def fOfRatioInt (n : Int) (d : Nat) : Word :=
  let w := fOfRatio n.natAbs d
  if n < 0 then fNeg w else w

/-- The integer square root. -/
def isqrt (n : Nat) : Nat := isqrtFrom (Nat.log2 n / 2 + 1) n 0

/-- The square root of a ratio rounded once. -/
def fSqrtRatio (n d : Nat) : Word :=
  let k := Nat.log2 d + 64
  let m := n * 2 ^ (2 * k) / d
  let r := isqrt m
  (roundF false r (-(k : Int)) (r * r != m || n * 2 ^ (2 * k) % d != 0)).w

/-- The operations rounded one by one. -/
def xAdd (a b : Word) : Word := (fAdd a b).w
def xSub (a b : Word) : Word := (fSub a b).w
def xMul (a b : Word) : Word := (fMul a b).w
/-- Log entry 7 (DEDUCED). -/
def xDiv (a b : Word) : Word := (fDiv a b).w

/-- A finite pattern. -/
def isFinite (w : Word) : Bool := fExp w != 255

end Sys2Proof.Machine
end

