-- ==== Sys2Proof/Config.lean ====
section
/-! DEFINITION. What the spec leaves open: values that some run of the hardware has and that no rule states, and the
cryptographic functions that the spec takes from published standards by name. Each is an opaque constant without a body,
so that nothing can be proved of its values. -/

namespace Sys2Proof.Config

/-- A value the spec does not state, for the count of such values taken before it (`State.free`). Log entry 25 (DESIGN CHOICE). -/
opaque freeValue : Nat → Nat

/-- AES-CMAC of a message under a key, AES-GCM under a key, an IV and associated data, and its opening (Table 12-2).
Log entry 26 (DESIGN CHOICE). -/
opaque cmac : List Byte → List Byte → List Byte
opaque gcmSeal : List Byte → List Byte → List Byte → List Byte → List Byte
opaque gcmOpen : List Byte → List Byte → List Byte → List Byte → Option (List Byte)

/-- ECDSA P-256 with SHA-256: a signature of a message by a scalar, with a random draw, and its verification by a
public key; the public key of a scalar, whether a public key is a point of the curve, and the ECDH shared X. Log entry 26 (DESIGN CHOICE). -/
opaque ecdsaSign : List Byte → List Byte → Nat → List Byte
opaque ecdsaVerify : List Byte → List Byte → List Byte → Bool
opaque p256Public : List Byte → List Byte
opaque p256Point : List Byte → Bool
opaque ecdhX : List Byte → List Byte → List Byte

/-- HKDF-SHA-256 of input key material with an empty salt and an info, and SHA-256. Log entry 26 (DESIGN CHOICE). -/
opaque hkdf : List Byte → List Byte → List Byte
opaque sha256 : List Byte → List Byte

/-- The key material of module slot `slot` under the root number `root` of KSU_STAT.ROOT, `draw` the random draw of a
generated key (Table 12-3, R371). Log entry 26 (DESIGN CHOICE). -/
opaque moduleKey : Nat → Nat → Nat → List Byte

/-- What the configuration sets hold is not laid out by the spec: the slot that they name as the image key (R124), and the
registers of LTU, PWR, NET and PLK that SUP programs from them at start-up, as keys and values (R419).
Log entry 15 (DESIGN CHOICE). -/
opaque imageKeySlot : List Byte → Nat
opaque setsRegs : List Byte → List (Nat × Nat)

/-- The cycle that SUP writes into NEXT of a scheduler entry, by image, kind and target; the spec fixes its angle alone.
Log entry 16 (DESIGN CHOICE). -/
opaque entryCycle : Nat → Nat → Nat → Nat

end Sys2Proof.Config
end

