-- ==== Sys2Proof/Machine/Sparse.lean ====
section
/-! DEFINITION. A sparse table: key and value pairs with strictly rising keys, where an unlisted key reads as a
default and no listed value equals that default. Memory, registers, point entries and queue tables use it, so that
equal contents are equal data. -/

namespace Sys2Proof.Machine

/-- The value at a key; `d` where the key is not listed. -/
def sget {β : Type} (d : β) : List (Nat × β) → Nat → β
  | [], _ => d
  | (k, v) :: t, a => if a = k then v else sget d t a

/-- The table without the key `a`. -/
def sdel {β : Type} : List (Nat × β) → Nat → List (Nat × β)
  | [], _ => []
  | (k, v) :: t, a => if a = k then sdel t a else (k, v) :: sdel t a

/-- The table without the keys that satisfy `p`. -/
def sdelIf {β : Type} (p : Nat → Bool) : List (Nat × β) → List (Nat × β)
  | [] => []
  | (k, v) :: t => if p k then sdelIf p t else (k, v) :: sdelIf p t

/-- The table with the pair put before the first greater key. -/
def sins {β : Type} : List (Nat × β) → Nat → β → List (Nat × β)
  | [], a, v => [(a, v)]
  | (k, w) :: t, a, v => if a < k then (a, v) :: (k, w) :: t else (k, w) :: sins t a v

/-- Writing a value at a key; writing the default removes the key. -/
def sput {β : Type} [DecidableEq β] (d : β) (m : List (Nat × β)) (a : Nat) (v : β) : List (Nat × β) :=
  if v = d then sdel m a else sins (sdel m a) a v

/-- All keys lie above `a`. -/
def sabove {β : Type} (a : Nat) : List (Nat × β) → Bool
  | [] => true
  | (k, _) :: _ => decide (a < k)

/-- The canonical form: keys strictly rise and no value is the default. Log entry 1 (DESIGN CHOICE). -/
def swf {β : Type} [DecidableEq β] (d : β) : List (Nat × β) → Bool
  | [] => true
  | (k, v) :: t => sabove k t && decide (v ≠ d) && swf d t

end Sys2Proof.Machine
end

