-- ==== Sys2Proof/Machine/Fields.lean ====
section
/-! DEFINITION. Register fields as the spec's register tables describe them (R8 to R12): where a field lies and what
a software access does to it. -/

namespace Sys2Proof.Machine

/-- A register field: the byte address of its register, its lowest bit and its width. -/
structure Fld where
  addr : Nat
  lo : Nat
  width : Nat
deriving DecidableEq, Repr

/-- The key under which the field's value stands in the register file. -/
def Fld.key (f : Fld) : Nat := f.addr * 32 + f.lo

/-- The access codes of Table 0-4; bits of no field are RSV. -/
inductive Acc where
  | ro | rw | wo | w1c | rc
deriving DecidableEq, Repr

/-- One field of a register row. -/
structure FldRow where
  lo : Nat
  width : Nat
  acc : Acc
deriving DecidableEq, Repr

/-- One register heading of the spec: first address, (stride, count) of each index, fields. -/
structure RegRow where
  base : Nat
  dims : List (Nat × Nat)
  flds : List FldRow
deriving DecidableEq, Repr

/-- An offset falls on an instance of a register with these strides. -/
def dimsHit : List (Nat × Nat) → Nat → Bool
  | [], d => d == 0
  | (s, n) :: [], d => d % s == 0 && decide (d / s < n)
  | (s, n) :: t, d => decide (d / s < n) && dimsHit t (d % s)

/-- An address is that of an instance of the row. -/
def RegRow.hit (r : RegRow) (addr : Nat) : Bool := decide (r.base ≤ addr) && dimsHit r.dims (addr - r.base)

/-- The fields of the register at an address; none where no register lies (R21). -/
def fieldsIn : List RegRow → Nat → List FldRow
  | [], _ => []
  | r :: t, a => if r.hit a then r.flds else fieldsIn t a

end Sys2Proof.Machine
end

