-- ==== Sys2Proof/Machine/Parts.lean ====
section
/-! DEFINITION. What the blocks hold besides their register fields: tables, queues and records, each as plain data. -/

namespace Sys2Proof.Machine

/-- A scheduler entry (Table 2-6), with NEXT as one line time of the entry's frame. -/
structure SchedEntry where
  en : Bool
  site : Bool
  one : Bool
  kind : Nat
  tgt : Nat
  per : Nat
  frac : Nat
  len : Nat
  angle : Nat
  next : Nat
deriving DecidableEq, Repr

/-- An entry whose words are all 0. -/
def SchedEntry.zero : SchedEntry := ⟨false, false, false, 0, 0, 0, 0, 0, 0, 0⟩

/-- An announcer of line time that the module has heard (R56), with the announcement intervals since. -/
structure Heard where
  addr : Nat
  rank : Nat
  age : Nat
deriving DecidableEq, Repr

/-- The line-time unit beyond its registers. -/
structure LtuPart where
  /-- Local line time, c * 65,536 + a (R6). -/
  now : Nat
  /-- Fraction of an angle unit that the oscillator has advanced, in millionths. -/
  frac : Nat
  /-- Frequency that the oscillator runs at, in mHz (R45, R48). -/
  freq : Nat
  /-- Angle units per cycle that a slew adds (R48). -/
  corr : Int
  /-- A frequency that takes effect at the next angle 0x0000 (R45). -/
  pendFreq : Option Nat
  /-- A zero crossing has opened a cycle whose closing crossing has not come. -/
  cycleOpen : Bool
  /-- Consecutive valid cycles towards qualification (R41). -/
  valids : Nat
  /-- Consecutive cycles with a frequency out of range (R42). -/
  outRange : Nat
  /-- The frequencies of the last 16 valid cycles, newest first (R43). -/
  freqs : List Nat
  /-- The frequency of the last cycle measured (R42). -/
  measured : Nat
  /-- A new reference phase waits for its first zero crossing (R40). -/
  refNew : Bool
  /-- The entries of bank 0 and bank 1 (R59). -/
  bank0 : List (Nat × SchedEntry)
  bank1 : List (Nat × SchedEntry)
  /-- The line time of the last issued event and how many events were issued in that angle unit (R62). -/
  issueAt : Nat
  issueCnt : Nat
  /-- The line cycle in which LT_ISSUE_LATE was last recorded. -/
  lateCycle : Option Nat
  /-- The site offset in force, modulo 2^56 (R54). -/
  ofs : Nat
  /-- The next announcement sets the offset in one step (R57). -/
  siteAcq : Bool
  /-- Consecutive announcements within 16 la of the offset (R57). -/
  siteRun : Nat
  /-- The offset is frozen after a site jump (R57). -/
  siteFrozen : Bool
  /-- SITE_OK has been set since start-up or since the last SITE_RESYNC (R61). -/
  siteReady : Bool
  /-- The measured offset that the offset moves towards (R57). -/
  siteTarget : Option Nat
  /-- Announcers heard (R56). -/
  heard : List Heard
  /-- Announcement intervals in which no better-ranked announcer was heard (R56). -/
  quiet : Nat
  /-- Line time kept through S3 (R53). -/
  retained : Nat
deriving DecidableEq, Repr

/-- A point definition: words 0 and 1 of an entry (Table 3-1). -/
structure PointDef where
  vis : Vis
  owner : Nat
  type : PType
  srcKind : Nat
  srcIndex : Nat
  acc : Nat
deriving DecidableEq, Repr

/-- A point entry (Table 3-1); `defn` is none in an undefined entry. -/
structure Point where
  defn : Option PointDef
  value : Word
  ts : Word
  qual : Byte
  upd : Half
  forced : Bool
  fval : Word
  fts : Word
  ften : Nat
deriving DecidableEq, Repr

/-- The undefined entry, all words 0. -/
def Point.undef : Point := ⟨none, 0, 0, 0, 0, false, 0, 0, 0⟩

/-- A force record of the active configuration (R86). -/
structure ForceRec where
  value : Word
  ts : Word
  ten : Nat
deriving DecidableEq, Repr

/-- A force or release whose MRAM record is being written (R86). -/
structure ForceJob where
  handle : Nat
  isForce : Bool
  ten : Nat
deriving DecidableEq, Repr

/-- The point directory beyond its registers. -/
structure PdirPart where
  /-- The entries that are not all 0, by handle. -/
  points : List (Nat × Point)
  /-- The shadow definition array that a loader has filled (R88); none while no image is prepared. -/
  shadow : Option (List (Nat × PointDef))
  /-- Force records being written. -/
  jobs : List ForceJob
deriving DecidableEq, Repr

/-- A Granary record (Table 14-1), with its continuation where it has one. -/
structure Rec where
  seq : Nat
  code : Nat
  ten : Nat
  twin : Bool
  utcInv : Bool
  frz : Bool
  lt : Nat
  src : Nat
  utc : Nat
  rep : Nat
  /-- Data bytes 0 to 5: ARG and VALUE (R397). -/
  data : List Byte
  /-- Data bytes 6 to 29; empty where no continuation record is written. -/
  cont : List Byte
deriving DecidableEq, Repr

/-- How many records of the sequence a record takes: two with a continuation. -/
def Rec.count (r : Rec) : Nat := if r.cont.isEmpty then 1 else 2

/-- Granary beyond its registers: the stores of Table 14-3, oldest record first, and the freeze. -/
structure GrnPart where
  sram : List Rec
  staging : List Rec
  ring : List Rec
  /-- Records lost since the last GR_LOST record, and the line time of the first. -/
  lost : Nat
  lostAt : Nat
  /-- Owner of the freeze (R402), the records lost during it, and the milliseconds of the FREEZE or of the owner's last READ. -/
  frozen : Option Source
  frzLost : Nat
  frzMs : Nat
deriving DecidableEq, Repr

/-- A Well command on its way into the RTC domain (R409). -/
inductive WellCmd where
  | set (sec sub : Nat)
  | arm (n : Fin 4) (sec per : Nat)
  | disarm (n : Fin 4)
deriving DecidableEq, Repr

/-- Well beyond its registers. -/
structure WellPart where
  /-- Seconds since 2000-01-01 and subsecond in 1/32,768 s (R406). -/
  sec : Nat
  sub : Nat
  /-- Fraction of a crystal period counted, in parts of 1,000 * 2^20 (R406). -/
  frac : Nat
  /-- The command that is crossing. -/
  cmd : Option WellCmd
  /-- The domain runs from VBAK (R411). -/
  onBackup : Bool
  /-- Milliseconds that Well counted in S3 (R53). -/
  s3 : Nat
deriving DecidableEq, Repr

/-- The last answer a block gave to the one that asked: a register read, a point access or a request. -/
structure Answer where
  code : Nat
  reason : Nat
  words : List Word
  /-- The access ended with a bus error (R22). -/
  busError : Bool
deriving DecidableEq, Repr

/-- No answer yet. -/
def Answer.none : Answer := ⟨0, 0, [], false⟩

/-- The flags of a lane (R99). -/
structure KFlags where
  z : Bool
  n : Bool
  c : Bool
  v : Bool
  q : Bool
deriving DecidableEq, Repr

/-- An entry of a lane's loop stack (R97, R109): iterations left after the present one, the index, its register, the
body's first word and the call level. -/
structure LoopRec where
  left : Nat
  idx : Nat
  reg : Fin 16
  body : Nat
  level : Nat
deriving DecidableEq, Repr

/-- A lane (R97). -/
structure Lane where
  busy : Bool
  task : Nat
  pc : Nat
  w : Vector Word 16
  fl : KFlags
  calls : List Nat
  loops : List LoopRec
  /-- Bits [31:16] that an EXT supplies to the next instruction (R96). -/
  ext : Option Half
deriving DecidableEq, Repr

/-- A staged point write (R114). -/
structure Staged where
  handle : Nat
  value : Word
  qual : Byte
deriving DecidableEq, Repr

/-- An activation of a task from its due time until it is committed or discarded (R138). -/
structure Act where
  task : Nat
  due : Nat
  /-- The lane it runs or ran on; none while it is pending. -/
  lane : Option (Fin 8)
  ended : Bool
  overrun : Bool
  late : Nat
  /-- The millisecond counter latched at its start (R117). -/
  ms : Nat
  /-- The input image: the eight elements of every handle read (R113). -/
  image : List (Nat × List Word)
  staged : List Staged
  sleep : Option Nat
  /-- KN_DATA_RANGE, KN_QUAL_FIX and CX_MEM_FAULT were recorded in this activation. -/
  rangeNoted : Bool
  qualNoted : Bool
  memNoted : Bool
deriving DecidableEq, Repr

/-- A task of an image (Table 4-11), with the handles that its reachable code reads and writes. -/
structure TaskInfo where
  task : Nat
  tenant : Nat
  per : Nat
  frac : Nat
  site : Bool
  cmt : Bool
  angle : Nat
  cofs : Nat
  lanes : Nat
  prio : Nat
  entry : Nat
  reads : List Nat
  writes : List Nat
deriving DecidableEq, Repr

/-- A cell of an image (R116) and the physical cell it is mapped to. -/
structure CellInfo where
  edge : Bool
  idx : Nat
  id : Nat
  preset : Nat
  phys : Nat
  /-- The task that uses the cell, where one does. -/
  task : Option Nat
deriving DecidableEq, Repr

/-- A setup directive with its parameter words (R125). -/
structure Directive where
  kind : Nat
  at_ : Nat
  params : List Nat
deriving DecidableEq, Repr

/-- A Knaec image after its checks: what SUP built from its setup section and its code. -/
structure Prog where
  id : Nat
  ver : Nat
  mode : Nat
  pdecl : Nat
  tasks : List TaskInfo
  cells : List CellInfo
  datas : List DataInfo
  routines : List (Nat × Nat)
  dirs : List Directive
deriving DecidableEq, Repr

/-- A set of rows of the data image: every row, or the rows listed. -/
structure RowSet where
  all : Bool
  rows : List Nat
deriving DecidableEq, Repr

/-- A value change that waits for the next due time of task 0 (R159). -/
inductive ValueChange where
  | words (wofs : Nat) (vs : List Word)
  | preset (cell : Nat) (ms : Word)
deriving DecidableEq, Repr

/-- The cyclic execution engine beyond its registers. -/
structure CxePart where
  lanes : Vector Lane 8
  acts : List Act
  /-- The image in force and the image prepared for an exchange. -/
  prog : Option Prog
  next : Option Prog
  /-- Map copies 0 and 1, and those that the two MRAM banks hold. -/
  map0 : CellMap
  map1 : CellMap
  bank0 : CellMap × CellMap
  bank1 : CellMap × CellMap
  /-- Dirty rows for each bank, rows pending in the snapshot that runs, rows preserved for it (R153 to R155). -/
  dirty0 : RowSet
  dirty1 : RowSet
  pend : RowSet
  kept : List (Nat × List Host.Cell)
  /-- What the running snapshot latched at its snapshot point (Table 5-3). -/
  snapMs : Nat
  snapAt : Nat
  snapId : Nat
  snapVer : Nat
  snapMap : Nat
  /-- The pending value change and its requester. -/
  change : Option ValueChange
deriving DecidableEq, Repr

/-- The NAND controller (R28): spare blocks left. -/
structure NandPart where
  spare : Nat
deriving DecidableEq, Repr

/-- The power manager beyond its registers. -/
structure PwrPart where
  /-- VIN lies below 7.5 V: only Well is powered (Table 15-1). -/
  unpowered : Bool
  /-- The performance level that a running change goes to, and the last request kept for its end (R423). -/
  levelTo : Option Nat
  levelNext : Option Nat
  /-- The sleep state that an entry in progress leads to (R426). -/
  sleepTo : Nat
  /-- Start-up waits for LOCK since a millisecond of step 5 (R421). -/
  lockWait : Bool
  lockMs : Nat
  /-- Wake sources latched, bit n for the source of that bit (R427). -/
  wakes : Nat
  /-- A latched wake arrived during the entry. -/
  during : Bool
deriving DecidableEq, Repr

/-- The health monitor beyond its registers. -/
structure HltPart where
  /-- Milliseconds of the last kick of the watchdog (R434). -/
  kick : Nat
  /-- SUP restarts from ROM (R20). -/
  supRestart : Bool
  /-- Milliseconds at which the watchdog restarted SUP, newest first (Table 15-8). -/
  restarts : List Nat
  /-- Fault conditions that hold, bit n for FCAUSE n. -/
  conds : Nat
  /-- The values of USED at the last updates of each indicator, newest first (R436). -/
  history : List (List Nat)
deriving DecidableEq, Repr

/-- A loop's declaration: the twelve words of its directive (Table 6-1) and its parameter record (Table 6-2). -/
structure LoopDecl where
  par : List Nat
  record : List Word
deriving DecidableEq, Repr

/-- A declared loop beyond its registers (R172 to R188). -/
structure Loop where
  decl : LoopDecl
  /-- KP, KI, KD and TF in force, by region, and those that wait for MANUAL (R188). -/
  coef : List (List Word)
  coefNext : Option (List (List Word))
  qprev : Word
  /-- The last target of the set-point (R178). -/
  tgt : Option Word
  uApp : Word
  offer : Word
  /-- The 25 MHz count at the last computed sample (R173). -/
  xtal : Nat
  /-- The next sample is a first sample of R173; the next sample is handled as a region change (R187, R188). -/
  first : Bool
  rechg : Bool
  /-- Count, timestamp and pulse frequency of R178. -/
  pcnt : Word
  pts : Word
  pfreq : Word
  /-- The local line time at which the last sample has written its output (R193). -/
  wrote : Nat
deriving DecidableEq, Repr

/-- A loop request on its way (R180, R181): 1 AUTO, 2 MANUAL, 3 MANOUT, 4 RESET, 5 COEF. -/
structure LoopJob where
  loop : Nat
  op : Nat
  ten : Nat
  region : Nat
  hasVal : Bool
  vals : List Word
  accepted : Bool
deriving DecidableEq, Repr

/-- What the active configuration keeps of a loop (R181, R194). -/
structure LoopSaved where
  mode : Nat
  man : Word
  coef : List (List Word)
  trip : Nat
deriving DecidableEq, Repr

/-- The closed-loop engine beyond its registers. -/
structure ClePart where
  loops : List (Nat × Loop)
  jobs : List LoopJob
  /-- The declarations of the image prepared for an exchange. -/
  next : List (Nat × LoopDecl)
deriving DecidableEq, Repr

/-- A channel's declaration: the eight words of its directive (Tables 7-5, 7-7) and its compensation record (R221). -/
structure MeterDecl where
  par : List Nat
  record : List Word
deriving DecidableEq, Repr

/-- An accumulator (R210): whole part, fraction in 2^-32, wrap counter, and the whole part at the interval's start. -/
structure MeterAcc where
  cum : Nat
  frac : Nat
  wrap : Nat
  start : Nat
deriving DecidableEq, Repr

/-- A temperature in use and the correction formed from it (R205, R206). -/
structure Compensation where
  temp : Word
  gain : Word
  phase : Word
  outside : Bool
  hold : Bool
deriving DecidableEq, Repr

/-- What one cycle added to a channel (R339): the cycle, energies by accumulator, counts and marks. -/
structure MeterAdd where
  cycle : Nat
  adds : List (Nat × Nat)
  noload : Nat
  metered : Nat
  marks : Nat
deriving DecidableEq, Repr

/-- A current channel beyond its registers; `decl` is none in a channel that the image no longer declares (R215). -/
structure MeterCh where
  decl : Option MeterDecl
  tenant : Nat
  acc : List MeterAcc
  noload : Nat
  metered : Nat
  /-- Line times of the interval's start, of the last latch, and up to which energy was accumulated. -/
  start : Nat
  latch : Nat
  done : Nat
  /-- A latch whose last cycle is not closed yet (R213). -/
  pend : Option Nat
  /-- The interval comes from a checkpoint and is closed when metering restarts (R215). -/
  restored : Bool
  window : List (Nat × CurrentCycle)
  marks : Nat
  faultRun : Bool
  holdRun : Bool
  obtained : Option Word
  comp : Compensation
  compNext : Option Compensation
  readTemp : Bool
  recent : List MeterAdd
deriving DecidableEq, Repr

/-- A voltage channel beyond its registers. -/
structure MeterVs where
  decl : MeterDecl
  window : List VoltageCycle
  freqs : List (Option Nat)
deriving DecidableEq, Repr

/-- A preset that waits for a cycle boundary (R216), with the cycle of its request. -/
structure PresetJob where
  ch : Nat
  k : Nat
  value : Nat
  cycle : Nat
deriving DecidableEq, Repr

/-- A channel record of a report (Table 7-9). -/
structure ChanRec where
  ch : Nat
  flags : Nat
  noload : Nat
  metered : Nat
  ints : List Nat
  cums : List Nat
  wraps : List Nat
  start : Nat
  stop : Nat
deriving DecidableEq, Repr

/-- A report that waits for signing (Table 7-8). -/
structure Report where
  tenant : Nat
  seq : Nat
  imageId : Nat
  stop : Nat
  utc : Nat
  slot : Nat
  chans : List ChanRec
deriving DecidableEq, Repr

/-- A report in the NAND area (R230). -/
structure StoredReport where
  tenant : Nat
  seq : Nat
  bytes : List Byte
  acked : Bool
deriving DecidableEq, Repr

/-- A channel in a meter checkpoint (R225). -/
structure MeterSaved where
  tenant : Nat
  acc : List MeterAcc
  noload : Nat
  metered : Nat
  flags : Nat
  start : Nat
  done : Nat
deriving DecidableEq, Repr

/-- A complete copy of the meter checkpoint (R225), with each tenant's report sequence. Log entry 9 (DESIGN CHOICE, DEDUCED). -/
structure MeterCkpt where
  seq : Nat
  time : Nat
  chans : List (Nat × MeterSaved)
  seqs : List (Nat × Nat)
deriving DecidableEq, Repr

/-- The metering engine beyond its registers. -/
structure MtrPart where
  chans : List (Nat × MeterCh)
  volts : List (Nat × MeterVs)
  /-- The first cycle not yet closed. -/
  open_ : Nat
  /-- The cycle in progress ends as a partial cycle and metering stops (R224). -/
  stopping : Bool
  presets : List PresetJob
  queue : List Report
  seqs : List (Nat × Nat)
  store : List StoredReport
  ckpt0 : Option MeterCkpt
  ckpt1 : Option MeterCkpt
  /-- An image has been accepted since reset (R201). -/
  accepted : Bool
  next : List MeterDecl
  /-- Interval points of latches passed in S2, written at wake (R424). -/
  deferred : List (Nat × Word × Byte)
deriving DecidableEq, Repr

/-- A declared field channel beyond its registers: the four words of its directive (Table 8-2). -/
structure FioCh where
  par : List Nat
  /-- The filtered level of a DI channel. -/
  level : Bool
  /-- The 50 µs window after a change write, and a change that fell in it with its sample instant (R238). -/
  window : Bool
  change : Option (Nat)
  /-- The next update instant in local line time (R237). -/
  nextAt : Nat
  /-- What the terminal is driven with; none while it is high-impedance or off without a drive. -/
  drive : Option Word
  /-- A DO switched off by a short waits for its retry; the retry runs (R245). -/
  waits : Bool
  retrying : Bool
deriving DecidableEq, Repr

/-- Universal field I/O beyond its registers. -/
structure FioPart where
  chans : List (Nat × FioCh)
  /-- LTU_SCHED.EN has been set since reset (R247). -/
  started : Bool
  next : List (Nat × List Nat)
deriving DecidableEq, Repr

/-- A transmit window (R256): its number, the words of its directive, and while it is open its opening and its close. -/
structure BusWin where
  win : Nat
  par : List Nat
  opened : Option (Nat × Nat)
deriving DecidableEq, Repr

/-- A queued frame (R261, R262): its object, the first unsent opening, whether openings have passed since, the value it
carries, its bytes, collisions met, and the start of the frame once it has started. An opening that falls while the frame is
on the bus is kept beside it: its time, its value and its bytes. A started frame whose object an exchange ended carries 4096. -/
structure BusTx where
  obj : Nat
  first : Nat
  passed : Bool
  value : Word
  bytes : List Byte
  tries : Nat
  start : Option Nat
  again : Option (Nat × Word × List Byte)
deriving DecidableEq, Repr

/-- A declared bus port beyond its registers: the six words of its directive (Table 9-3), its wake record, its windows
and queue, the QUERY whose answer it awaits with the line time of driver release, and the start of the last frame
received. -/
structure BusPort where
  par : List Nat
  wrec : List Byte
  wins : List BusWin
  queue : List BusTx
  awaits : Option (Nat × Nat)
  sof : Nat
  ovrRun : Bool
  recovering : Bool
deriving DecidableEq, Repr

/-- A node object (Tables 9-4 and 9-5) with the value last sent, its openings since a refresh, the cycle of its last
match and its run of silence. -/
structure BusObj where
  par : List Nat
  record : List Byte
  last : Option Word
  refresh : Nat
  matchCyc : Nat
  silent : Bool
deriving DecidableEq, Repr

/-- What an image declares for the field buses, prepared for an exchange: ports and objects. -/
structure BusDecl where
  ports : List (Nat × BusPort)
  objs : List (Nat × BusObj)
deriving DecidableEq, Repr

/-- The field-bus engine beyond its registers. -/
structure FbePart where
  ports : List (Nat × BusPort)
  objs : List (Nat × BusObj)
  next : BusDecl
deriving DecidableEq, Repr

/-- A frame of the pair link (Table 11-4). -/
inductive LinkFrame where
  | hb (b : Beat)
  | ctrl (code arg : Nat)
  | force (handle op ten : Nat) (value fts : Word)
  | out (l : List OutEntry) (last : Bool)
  | loop (m : LoopMirror)
  | meter (m : MeterMirror)
  | grn (r : Rec)
  | data (rows : List RowMirror)
  | dataEnd (e : SnapMirror)
  | img (seg : List Byte) (last : Bool)
deriving DecidableEq, Repr

/-- The pair logic beyond its registers. -/
structure PlkPart where
  /-- Own epoch and count of the link (R336), frames sent and not acknowledged, frames that wait for a place among them. -/
  epoch : Nat
  count : Nat
  unacked : List (Nat × LinkFrame)
  waiting : List LinkFrame
  /-- The twin's epoch and its highest count received in order. -/
  rxEpoch : Nat
  rxCount : Nat
  /-- A gap has been found since the last heartbeat sent. -/
  nak : Bool
  /-- The last heartbeat sent and received; the link delay in la measured at link start (R342). -/
  beat : Option Beat
  twin : Option Beat
  delay : Nat
  /-- The pair offset O modulo 2^56 (R342) and the line time of the last change of control. -/
  ofs : Nat
  changed : Nat
  /-- Rows held until DATA_END, the OUT entries of a batch whose LAST has not come, and the twin tail (R340). -/
  rows : List RowMirror
  outs : List OutEntry
  tail : List Rec
  /-- RESYNC was sent and the mirror is applied; DATA_END frames applied since (R341). -/
  asked : Bool
  ends : Nat
  /-- The differences of R341 and R342 noted since RESYNC was entered: image, configuration, phase. -/
  imgNoted : Bool
  cfgNoted : Bool
  phaseNoted : Bool
  /-- The module released for dual control (R328). -/
  dualOff : Bool
  /-- Milliseconds at which LTU_SCHED.EN was first set and since when PAIR_WATCH is inactive. -/
  enMs : Option Nat
  quietMs : Nat
  /-- The planned switch-over: X, moves made, GO sent or received; X passed in the incoming and in the outgoing. -/
  swoX : Nat
  moves : Nat
  go : Bool
  atX : Bool
  leaving : Bool
  /-- The line time of the last snapshot point whose DATA batch the twin has acknowledged. -/
  ackedSnap : Option Nat
  /-- RECLAIM was sent; LTU was in LOCK at the last cycle boundary (R333). -/
  reclaimed : Bool
  wasLock : Bool
  /-- Every DATA row goes with the next snapshot, with the one that runs (R341). -/
  fullNext : Bool
  fullNow : Bool
  /-- Forces and releases whose success waits for the twin (R338). -/
  forces : List Nat
  /-- Image segments received; an image submitted waits for the twin's result (R343). -/
  image : List Byte
  imgAwait : Bool
deriving DecidableEq, Repr

/-- A frame in a receive queue (R301, R302): its port, queue and bytes without FCS, and the tenant its rule demands.
Log entry 13 (DESIGN CHOICE, DEDUCED, PRESUMED). -/
structure RxFrame where
  port : Nat
  queue : Nat
  bytes : List Byte
  tenchk : Option Nat
deriving DecidableEq, Repr

/-- A frame in a transmit queue or a transit buffer, with the line time and millisecond of its entry, and the
descriptor to write back. -/
structure TxFrame where
  port : Nat
  queue : Nat
  transit : Bool
  bytes : List Byte
  entered : Nat
  ms : Nat
  desc : Option Nat
  stamp : Bool
deriving DecidableEq, Repr

/-- A UPT header (Table 10-6b). -/
structure UptHdr where
  type : Nat
  resp : Bool
  last : Bool
  ten : Nat
  dst : Nat
  src : Nat
  key : Nat
  tid : Nat
  seg : Nat
  len : Nat
  epoch : Nat
  count : Nat
deriving DecidableEq, Repr

/-- The way back to a requester (R306, R308): port, MAC address, tag, and over UDP its IP address and port. -/
structure UptPath where
  port : Nat
  mac : Nat
  tag : Option Nat
  udp : Option (Nat × Nat)
deriving DecidableEq, Repr

/-- An accepted transaction. -/
structure UptMsg where
  hdr : UptHdr
  body : List Byte
  path : UptPath
deriving DecidableEq, Repr

/-- A replay entry (R312). -/
structure ReplayEntry where
  src : Nat
  key : Nat
  epoch : Nat
  high : Nat
  bitmap : Nat
  synced : Bool
deriving DecidableEq, Repr

/-- A kept response (R314): its request's source, key, type and TID, its body, and when it was sent. -/
structure KeptResponse where
  src : Nat
  key : Nat
  type : Nat
  tid : Nat
  body : List Byte
  ms : Nat
deriving DecidableEq, Repr

/-- A segmented COMMAND under reassembly (R317). -/
structure Reassembly where
  hdr : UptHdr
  path : UptPath
  segs : List (Nat × List Byte × Bool)
  ms : Nat
deriving DecidableEq, Repr

/-- A subscription (Table 10-8): its four words, SUBSCRIBE requests without response in a row, and the cycle of its
last notice. -/
structure Subscr where
  par : List Nat
  tries : Nat
  notice : Nat
deriving DecidableEq, Repr

/-- A SUBSCRIBE request that has no response yet. -/
structure SubRequest where
  addr : Nat
  pair : Bool
  key : Nat
  tid : Nat
  subs : List Nat
  sent : Nat
deriving DecidableEq, Repr

/-- A publication (R321). -/
structure Publication where
  addr : Nat
  /-- The address under which the subscriber named this module, and which its notices carry. -/
  src : Nat
  subno : Nat
  ten : Nat
  key : Nat
  mac : Nat
  handle : Nat
  mode : Nat
  per : Nat
  tmo : Nat
  refreshed : Nat
  sent : Nat
  value : Word
  qual : Byte
deriving DecidableEq, Repr

/-- A learned source address (R294). -/
structure Learned where
  mac : Nat
  port : Nat
  ms : Nat
deriving DecidableEq, Repr

/-- The network part beyond its registers. -/
structure NetPart where
  rx : List RxFrame
  /-- Ring control frames for the ring logic. -/
  ring : List RxFrame
  tx : List TxFrame
  /-- The last frame that each port sent. -/
  sent : List (Nat × List Byte)
  learned : List Learned
  /-- Milliseconds of the last speed shift of each port (R289). -/
  shifts : List (Nat × Nat)
  /-- The ring manager's test (R295): sequence number, test frames seen at the ports since the last one was sent, tests
  missed in a row at each port, milliseconds in a row with both, a LINK_DOWN heard. -/
  testSeq : Nat
  seen : List Nat
  miss0 : Nat
  miss1 : Nat
  okRun : Nat
  linkDown : Bool
  /-- The module's own counter (R311). -/
  epoch : Nat
  count : Nat
  replay : List ReplayEntry
  /-- Milliseconds of the last REPLAY_SYNC sent to an address. -/
  syncs : List (Nat × Nat)
  queue : List UptMsg
  kept : List KeptResponse
  reasm : List Reassembly
  /-- Requests accepted from a tenant in a second (R313). -/
  rates : List (Nat × Nat × Nat)
  subs : List (Nat × Subscr)
  subNext : List (List Nat)
  requests : List SubRequest
  nextTid : Nat
  nextRefresh : Nat
  pubs : List Publication
  /-- Every publication is due a notice at the next zero crossing (R322). -/
  noticeAll : Bool
deriving DecidableEq, Repr

/-- A key of Hearth (Table 12-1): attributes, parent slot where PKIND is 2, material, and operations since reset. -/
structure KeySlot where
  invalid : Bool
  exportable : Bool
  origin : Nat
  type : Nat
  usage : Nat
  tenant : Nat
  lcmask : Nat
  pkind : Nat
  parent : Nat
  material : List Byte
  uses : Nat
deriving DecidableEq, Repr

/-- An operation of Hearth from its request to its result: its number in Table 12-4, its operands and input; the units it
needs (0 none, 1 AES, 2 P-256); the keys it started with; a journal entry awaited. -/
structure KeyOp where
  op : Nat
  ten : Nat
  slot : Nat
  aux : Nat
  attr : Nat
  auxlen : Nat
  input : List Byte
  unit : Nat
  started : Bool
  waits : Bool
  key : Option KeySlot
  wrap : Option KeySlot
deriving DecidableEq, Repr

/-- A live journal entry pair (R364): the slot, its new record and whether the COMMIT is written. -/
structure KeyEntry where
  seq : Nat
  slot : Nat
  new : Option KeySlot
  commit : Bool
deriving DecidableEq, Repr

/-- Hearth beyond its registers. -/
structure KsuPart where
  /-- Slots that hold a key, by number, and the slot store in MRAM. -/
  slots : List (Nat × KeySlot)
  store : List (Nat × KeySlot)
  journal : List KeyEntry
  /-- The next sequence number of the journal control. -/
  jseq : Nat
  ops : List KeyOp
  /-- A transition that LCSET programs (R369). -/
  lcTo : Option Nat
  /-- The five life-cycle words of the OTP (R368). -/
  otp : List Word
  /-- The state whose effects on keys carry the completion mark (R369). -/
  mark : Nat
  /-- The nonce of the last NONCE since reset (R370). -/
  nonce : Option (List Byte)
  /-- The provisioning certificate (R367). -/
  cert : List Byte
  /-- The OTP's module serial number. -/
  serial : Nat
deriving DecidableEq, Repr

/-- The update manager beyond its registers (R375 to R393). -/
structure UpdPart where
  /-- The blocks that slots A and B hold, by position. -/
  slot0 : List (Nat × List Byte)
  slot1 : List (Nat × List Byte)
  /-- The session has decided what to keep of the target slot (R382). -/
  wrote : Bool
  /-- Slots of the key-encryption key and of the content key while a session needs them (R378). -/
  keys : Option (Nat × Nat)
  /-- Milliseconds of the owner's last command (R380). -/
  heard : Nat
  /-- ALONE of INSTALL; W of OPEN; the line time at which the trial window ends. -/
  alone : Bool
  window : Nat
  trialEnd : Nat
  /-- Components done, by ORDER, the last one first, each with whether it was skipped; the pending one (R385). -/
  done : List (Nat × Bool)
  pending : Option Nat
  /-- Milliseconds of a restart of the update after which LTU_SCHED.EN is awaited (Table 13-6). -/
  enableMs : Option Nat
  /-- The cause of the fall-back that runs, the ORDER in progress at its start, and components undone. -/
  cause : Nat
  failOrder : Nat
  undone : Nat
  /-- The former sets, the former image, the former versions in force and the former set's version (R387, R389). -/
  formerSets : List Byte
  formerImage : List Byte
  formerVers : List Nat
  formerSet : Nat
  /-- The version of the configuration set in force. -/
  setVer : Nat
  /-- Kinds 1 to 4 that start-up left without firmware or microcode (R391). -/
  bare : List Nat
  /-- SUP watchdog restarts during installation or trial (Table 13-6). -/
  supRestarts : Nat
  /-- Module and silicon revision (0 A, 1 B), as OTP holds them. -/
  mrev : Nat
  srev : Nat
deriving DecidableEq, Repr

/-- A command record with the UPT transaction that brought it, where one did. -/
structure HostCmd where
  bytes : List Byte
  msg : Option UptMsg
deriving DecidableEq, Repr

/-- A command mailbox (R444, R445, R448). -/
structure Mailbox where
  /-- The pending command, its requester's tenant, and the millisecond it came. -/
  cmd : Option HostCmd
  tenant : Option Nat
  since : Nat
  /-- It has been carried out or begun; its result, not present yet; NOT_READY was sent in its place. -/
  begun : Bool
  done : Option (List Byte)
  late : Bool
  /-- The result present, its result reads, and the millisecond of the last use. -/
  held : Option (List Byte)
  reads : Nat
  used : Nat
deriving DecidableEq, Repr

/-- A mailbox that nothing has used. -/
def Mailbox.empty : Mailbox := ⟨none, none, 0, false, none, false, none, 0, 0⟩

/-- A session, its nonce, staging area and bulk window of the host port or the service port (R442, R446, R449). -/
structure PortState where
  session : Option Nat
  nonce : List Byte
  staging : List Host.Cell
  /-- Base and size. -/
  bulk : Option (Nat × Nat)
  box : Mailbox
deriving DecidableEq, Repr

/-- A port without session. -/
def PortState.empty : PortState := ⟨none, [], [], none, Mailbox.empty⟩

/-- The host port and SUP's command service beyond their registers. -/
structure HptPart where
  host : PortState
  service : PortState
  /-- The mailboxes of network requesters, by SRC and KEY, and the staging area of the network. -/
  boxes : List ((Nat × Nat) × Mailbox)
  staging : List Host.Cell
  /-- RESULT commands that wait, of the network and the service port. -/
  asks : List HostCmd
  /-- The command buffer (Table 16-2). -/
  cmdBuf : List Host.Cell
  /-- The last record sent on the service port; its D+ pull-up is connected (R476). -/
  usbOut : List Byte
  usb : Bool
deriving DecidableEq, Repr

/-- Mill beyond its registers. -/
structure MillPart where
  /-- The channel that runs. -/
  running : Option Nat
deriving DecidableEq, Repr

/-- What SUP keeps in the active configuration of the MRAM (Table 1-4). -/
structure CfgPart where
  /-- SUP's copy of the cycle checkpoint plus one (R51). -/
  ckptCopy : Nat
  /-- Force records by handle (R86). -/
  forces : List (Nat × ForceRec)
  /-- Mode, MAN, coefficients and trip state by loop (R181). -/
  loops : List (Nat × LoopSaved)
  /-- The module's UPT epoch (R311) and the epochs of the replay entries, by source and key (R312). -/
  epoch : Nat
  epochs : List (Nat × Nat × Nat)
  /-- The content of the configuration sets, the stored Knaec image, and one accepted that is stored at X. -/
  sets : List Byte
  image : List Byte
  imageNext : List Byte
  /-- Presets of the CELL directives of the images accepted, by IMAGE_ID and IMAGE_VER: identifier and preset (R163). -/
  presets : List (Nat × Nat × List (Nat × Nat))
deriving DecidableEq, Repr

end Sys2Proof.Machine
end

