-- ==== Sys2Proof/Machine/RegCle.lean ====
section
/-! DEFINITION. The register fields of block CLE: address, lowest bit and width of each, as the register
tables of spec/06_loop_engine.md (R197) give them, and the rows of the block for access by address. -/

namespace Sys2Proof.Machine

/-! CLE_STAT (engine status): Offset 0x000. -/
def CLE_STAT_DECL : Fld := ⟨0x40030000, 24, 8⟩
def CLE_STAT_AUTO : Fld := ⟨0x40030000, 16, 8⟩
def CLE_STAT_MANUAL : Fld := ⟨0x40030000, 8, 8⟩
def CLE_STAT_TRIPPED : Fld := ⟨0x40030000, 0, 8⟩
/-! CLE_EVT (engine events): Offset 0x004. -/
def CLE_EVT_LATE : Fld := ⟨0x40030004, 3, 1⟩
def CLE_EVT_HOLD : Fld := ⟨0x40030004, 2, 1⟩
def CLE_EVT_OVERRUN : Fld := ⟨0x40030004, 1, 1⟩
def CLE_EVT_TRIP : Fld := ⟨0x40030004, 0, 1⟩
/-! CLE_CMD (loop request): Offset 0x008. -/
def CLE_CMD_OP : Fld := ⟨0x40030008, 28, 4⟩
def CLE_CMD_VAL : Fld := ⟨0x40030008, 27, 1⟩
def CLE_CMD_REGION : Fld := ⟨0x40030008, 24, 2⟩
def CLE_CMD_TEN : Fld := ⟨0x40030008, 16, 6⟩
def CLE_CMD_LOOP : Fld := ⟨0x40030008, 0, 7⟩
/-! CLE_CVALn (request values): Offset 0x010 + 4 × n for n = 0 to 3. -/
def CLE_CVAL_VAL (n : Nat) : Fld := ⟨0x40030010 + 4 * n, 0, 32⟩
/-! CLE_CRES (request result): Offset 0x020. -/
def CLE_CRES_DONE : Fld := ⟨0x40030020, 31, 1⟩
def CLE_CRES_CODE : Fld := ⟨0x40030020, 0, 16⟩
/-! CLE_LOOPn_CFG (loop configuration): Offset 0x400 + 0x40 × n for n = 0 to 127. -/
def CLE_LOOP_CFG_EN (n : Nat) : Fld := ⟨0x40030400 + 64 * n, 31, 1⟩
def CLE_LOOP_CFG_ACT (n : Nat) : Fld := ⟨0x40030400 + 64 * n, 30, 1⟩
def CLE_LOOP_CFG_SPSRC (n : Nat) : Fld := ⟨0x40030400 + 64 * n, 28, 2⟩
def CLE_LOOP_CFG_SVSEL (n : Nat) : Fld := ⟨0x40030400 + 64 * n, 26, 2⟩
def CLE_LOOP_CFG_GEN (n : Nat) : Fld := ⟨0x40030400 + 64 * n, 25, 1⟩
def CLE_LOOP_CFG_HEAD (n : Nat) : Fld := ⟨0x40030400 + 64 * n, 24, 1⟩
def CLE_LOOP_CFG_GROUP (n : Nat) : Fld := ⟨0x40030400 + 64 * n, 20, 4⟩
def CLE_LOOP_CFG_PVTRIP (n : Nat) : Fld := ⟨0x40030400 + 64 * n, 16, 4⟩
def CLE_LOOP_CFG_TENANT (n : Nat) : Fld := ⟨0x40030400 + 64 * n, 0, 6⟩
/-! CLE_LOOPn_STAT (loop status): Offset 0x404 + 0x40 × n. -/
def CLE_LOOP_STAT_MODE (n : Nat) : Fld := ⟨0x40030404 + 64 * n, 30, 2⟩
def CLE_LOOP_STAT_REGION (n : Nat) : Fld := ⟨0x40030404 + 64 * n, 28, 2⟩
def CLE_LOOP_STAT_COEF_PEND (n : Nat) : Fld := ⟨0x40030404 + 64 * n, 27, 1⟩
def CLE_LOOP_STAT_OVR (n : Nat) : Fld := ⟨0x40030404 + 64 * n, 26, 1⟩
def CLE_LOOP_STAT_HELD (n : Nat) : Fld := ⟨0x40030404 + 64 * n, 25, 1⟩
def CLE_LOOP_STAT_WINNER (n : Nat) : Fld := ⟨0x40030404 + 64 * n, 24, 1⟩
def CLE_LOOP_STAT_TRIPSRC (n : Nat) : Fld := ⟨0x40030404 + 64 * n, 22, 2⟩
def CLE_LOOP_STAT_OVRCONS (n : Nat) : Fld := ⟨0x40030404 + 64 * n, 20, 2⟩
def CLE_LOOP_STAT_HOLDCONS (n : Nat) : Fld := ⟨0x40030404 + 64 * n, 16, 4⟩
/-! CLE_LOOP_U (loop values): Offsets 0x408, 0x40C, 0x410, 0x414 and 0x418 + 0x40 × n. -/
def CLE_LOOP_U_VAL (n : Nat) : Fld := ⟨0x40030408 + 64 * n, 0, 32⟩
/-! CLE_LOOP_I (loop values): Offsets 0x408, 0x40C, 0x410, 0x414 and 0x418 + 0x40 × n. -/
def CLE_LOOP_I_VAL (n : Nat) : Fld := ⟨0x4003040C + 64 * n, 0, 32⟩
/-! CLE_LOOP_D (loop values): Offsets 0x408, 0x40C, 0x410, 0x414 and 0x418 + 0x40 × n. -/
def CLE_LOOP_D_VAL (n : Nat) : Fld := ⟨0x40030410 + 64 * n, 0, 32⟩
/-! CLE_LOOP_SP (loop values): Offsets 0x408, 0x40C, 0x410, 0x414 and 0x418 + 0x40 × n. -/
def CLE_LOOP_SP_VAL (n : Nat) : Fld := ⟨0x40030414 + 64 * n, 0, 32⟩
/-! CLE_LOOP_MAN (loop values): Offsets 0x408, 0x40C, 0x410, 0x414 and 0x418 + 0x40 × n. -/
def CLE_LOOP_MAN_VAL (n : Nat) : Fld := ⟨0x40030418 + 64 * n, 0, 32⟩
/-! CLE_LOOPn_DLY (output delay): Offset 0x41C + 0x40 × n. -/
def CLE_LOOP_DLY_LAST (n : Nat) : Fld := ⟨0x4003041C + 64 * n, 16, 16⟩
def CLE_LOOP_DLY_MAX (n : Nat) : Fld := ⟨0x4003041C + 64 * n, 0, 16⟩
/-! CLE_LOOPn_BOUND (delay bound): Offset 0x420 + 0x40 × n. -/
def CLE_LOOP_BOUND_BOUND (n : Nat) : Fld := ⟨0x40030420 + 64 * n, 0, 16⟩
/-! CLE_LOOPn_CNT (loop counts): Offset 0x424 + 0x40 × n. -/
def CLE_LOOP_CNT_HELD (n : Nat) : Fld := ⟨0x40030424 + 64 * n, 16, 16⟩
def CLE_LOOP_CNT_OVERRUN (n : Nat) : Fld := ⟨0x40030424 + 64 * n, 8, 8⟩
def CLE_LOOP_CNT_LATE (n : Nat) : Fld := ⟨0x40030424 + 64 * n, 4, 4⟩
def CLE_LOOP_CNT_REGCHG (n : Nat) : Fld := ⟨0x40030424 + 64 * n, 0, 4⟩
/-! CLE_LOOP_KP (coefficients in force): Offsets 0x428, 0x42C, 0x430 and 0x434 + 0x40 × n. -/
def CLE_LOOP_KP_VAL (n : Nat) : Fld := ⟨0x40030428 + 64 * n, 0, 32⟩
/-! CLE_LOOP_KI (coefficients in force): Offsets 0x428, 0x42C, 0x430 and 0x434 + 0x40 × n. -/
def CLE_LOOP_KI_VAL (n : Nat) : Fld := ⟨0x4003042C + 64 * n, 0, 32⟩
/-! CLE_LOOP_KD (coefficients in force): Offsets 0x428, 0x42C, 0x430 and 0x434 + 0x40 × n. -/
def CLE_LOOP_KD_VAL (n : Nat) : Fld := ⟨0x40030430 + 64 * n, 0, 32⟩
/-! CLE_LOOP_TF (coefficients in force): Offsets 0x428, 0x42C, 0x430 and 0x434 + 0x40 × n. -/
def CLE_LOOP_TF_VAL (n : Nat) : Fld := ⟨0x40030434 + 64 * n, 0, 32⟩
/-! CLE_GRPn_STAT (group status): Offset 0x2400 + 8 × n for n = 0 to 15. -/
def CLE_GRP_STAT_EN (n : Nat) : Fld := ⟨0x40032400 + 8 * n, 31, 1⟩
def CLE_GRP_STAT_HEAD (n : Nat) : Fld := ⟨0x40032400 + 8 * n, 16, 7⟩
def CLE_GRP_STAT_WINNER (n : Nat) : Fld := ⟨0x40032400 + 8 * n, 8, 7⟩
def CLE_GRP_STAT_COUNT (n : Nat) : Fld := ⟨0x40032400 + 8 * n, 0, 4⟩
/-! CLE_GRPn_OUT (group output): Offset 0x2404 + 8 × n. -/
def CLE_GRP_OUT_G (n : Nat) : Fld := ⟨0x40032404 + 8 * n, 0, 32⟩

/-- The rows of block CLE (R197). -/
def rowsCle0 : List RegRow := [
  ⟨0x40030000, [], [⟨24, 8, .ro⟩, ⟨16, 8, .ro⟩, ⟨8, 8, .ro⟩, ⟨0, 8, .ro⟩]⟩,
  ⟨0x40030004, [], [⟨3, 1, .w1c⟩, ⟨2, 1, .w1c⟩, ⟨1, 1, .w1c⟩, ⟨0, 1, .w1c⟩]⟩,
  ⟨0x40030008, [], [⟨28, 4, .wo⟩, ⟨27, 1, .wo⟩, ⟨24, 2, .wo⟩, ⟨16, 6, .wo⟩, ⟨0, 7, .wo⟩]⟩,
  ⟨0x40030010, [(4, 4)], [⟨0, 32, .rw⟩]⟩,
  ⟨0x40030020, [], [⟨31, 1, .ro⟩, ⟨0, 16, .ro⟩]⟩,
  ⟨0x40030400, [(64, 128)], [⟨31, 1, .ro⟩, ⟨30, 1, .ro⟩, ⟨28, 2, .ro⟩, ⟨26, 2, .ro⟩, ⟨25, 1, .ro⟩, ⟨24, 1, .ro⟩, ⟨20, 4, .ro⟩, ⟨16, 4, .ro⟩, ⟨0, 6, .ro⟩]⟩,
  ⟨0x40030404, [(64, 128)], [⟨30, 2, .ro⟩, ⟨28, 2, .ro⟩, ⟨27, 1, .ro⟩, ⟨26, 1, .ro⟩, ⟨25, 1, .ro⟩, ⟨24, 1, .ro⟩, ⟨22, 2, .ro⟩, ⟨20, 2, .ro⟩, ⟨16, 4, .ro⟩]⟩,
  ⟨0x40030408, [(64, 128)], [⟨0, 32, .ro⟩]⟩,
  ⟨0x4003040C, [(64, 128)], [⟨0, 32, .ro⟩]⟩,
  ⟨0x40030410, [(64, 128)], [⟨0, 32, .ro⟩]⟩,
  ⟨0x40030414, [(64, 128)], [⟨0, 32, .ro⟩]⟩,
  ⟨0x40030418, [(64, 128)], [⟨0, 32, .ro⟩]⟩]
def rowsCle1 : List RegRow := [
  ⟨0x4003041C, [(64, 128)], [⟨16, 16, .ro⟩, ⟨0, 16, .rc⟩]⟩,
  ⟨0x40030420, [(64, 128)], [⟨0, 16, .ro⟩]⟩,
  ⟨0x40030424, [(64, 128)], [⟨16, 16, .rc⟩, ⟨8, 8, .rc⟩, ⟨4, 4, .rc⟩, ⟨0, 4, .rc⟩]⟩,
  ⟨0x40030428, [(64, 128)], [⟨0, 32, .ro⟩]⟩,
  ⟨0x4003042C, [(64, 128)], [⟨0, 32, .ro⟩]⟩,
  ⟨0x40030430, [(64, 128)], [⟨0, 32, .ro⟩]⟩,
  ⟨0x40030434, [(64, 128)], [⟨0, 32, .ro⟩]⟩,
  ⟨0x40032400, [(8, 16)], [⟨31, 1, .ro⟩, ⟨16, 7, .ro⟩, ⟨8, 7, .ro⟩, ⟨0, 4, .ro⟩]⟩,
  ⟨0x40032404, [(8, 16)], [⟨0, 32, .ro⟩]⟩]
def rowsCle : List RegRow := rowsCle0 ++ rowsCle1

end Sys2Proof.Machine
end

