-- ==== Sys2Proof/Machine/RegCxe.lean ====
section
/-! DEFINITION. The register fields of block CXE: address, lowest bit and width of each, as the register
tables of spec/05_cyclic_execution.md (R167) give them, and the rows of the block for access by address. -/

namespace Sys2Proof.Machine

/-! CXE_STAT (engine status): Offset 0x000. -/
def CXE_STAT_LOADED : Fld := ⟨0x40020000, 31, 1⟩
def CXE_STAT_STOPPED : Fld := ⟨0x40020000, 30, 1⟩
def CXE_STAT_MODE : Fld := ⟨0x40020000, 29, 1⟩
def CXE_STAT_EXCH_PEND : Fld := ⟨0x40020000, 28, 1⟩
def CXE_STAT_SNAP_BUSY : Fld := ⟨0x40020000, 27, 1⟩
def CXE_STAT_SNAP_BANK : Fld := ⟨0x40020000, 26, 1⟩
def CXE_STAT_CODE_BANK : Fld := ⟨0x40020000, 25, 1⟩
def CXE_STAT_MAPSEL : Fld := ⟨0x40020000, 24, 1⟩
def CXE_STAT_PDECL : Fld := ⟨0x40020000, 22, 2⟩
def CXE_STAT_LANE_BUSY : Fld := ⟨0x40020000, 0, 8⟩
/-! CXE_EVT (engine events): Offset 0x004. -/
def CXE_EVT_MEM_FAULT : Fld := ⟨0x40020004, 7, 1⟩
def CXE_EVT_VCHG_DONE : Fld := ⟨0x40020004, 6, 1⟩
def CXE_EVT_RESTORED : Fld := ⟨0x40020004, 5, 1⟩
def CXE_EVT_SNAP_FAIL : Fld := ⟨0x40020004, 4, 1⟩
def CXE_EVT_EXCHANGED : Fld := ⟨0x40020004, 3, 1⟩
def CXE_EVT_ABANDONED : Fld := ⟨0x40020004, 2, 1⟩
def CXE_EVT_STOP : Fld := ⟨0x40020004, 1, 1⟩
def CXE_EVT_OVERRUN : Fld := ⟨0x40020004, 0, 1⟩
/-! CXE_CMD (engine commands): Offset 0x008. -/
def CXE_CMD_CMD : Fld := ⟨0x40020008, 28, 4⟩
def CXE_CMD_ARG : Fld := ⟨0x40020008, 0, 1⟩
/-! CXE_SNAP_SEQ (snapshot sequence): Offset 0x00C. -/
def CXE_SNAP_SEQ_SEQ : Fld := ⟨0x4002000C, 0, 32⟩
/-! CXE_SNAP_TIME (snapshot durations): Offset 0x010. -/
def CXE_SNAP_TIME_LAST : Fld := ⟨0x40020010, 16, 16⟩
def CXE_SNAP_TIME_MAX : Fld := ⟨0x40020010, 0, 16⟩
/-! CXE_SNAP_CNT (snapshot losses): Offset 0x014. -/
def CXE_SNAP_CNT_FAIL : Fld := ⟨0x40020014, 16, 16⟩
def CXE_SNAP_CNT_SKIP : Fld := ⟨0x40020014, 0, 16⟩
/-! CXE_MSCNT (millisecond counter): Offset 0x018. -/
def CXE_MSCNT_MS : Fld := ⟨0x40020018, 0, 32⟩
/-! CXE_LDP_ADDR (load port address): Offset 0x040. -/
def CXE_LDP_ADDR_WADDR : Fld := ⟨0x40020040, 2, 19⟩
/-! CXE_LDP_DATA (load port data): Offset 0x044. -/
def CXE_LDP_DATA_DATA : Fld := ⟨0x40020044, 0, 32⟩
/-! CXE_VCHG_CTL (value change control): Offset 0x080. -/
def CXE_VCHG_CTL_OP : Fld := ⟨0x40020080, 30, 2⟩
def CXE_VCHG_CTL_TEN : Fld := ⟨0x40020080, 24, 6⟩
def CXE_VCHG_CTL_N : Fld := ⟨0x40020080, 20, 4⟩
def CXE_VCHG_CTL_WOFS : Fld := ⟨0x40020080, 0, 19⟩
/-! CXE_VCHG_RES (value change result): Offset 0x084. -/
def CXE_VCHG_RES_DONE : Fld := ⟨0x40020084, 31, 1⟩
def CXE_VCHG_RES_PEND : Fld := ⟨0x40020084, 30, 1⟩
def CXE_VCHG_RES_CODE : Fld := ⟨0x40020084, 0, 16⟩
/-! CXE_VCHG_DATAn (value change data): Offset 0x0C0 + 4 × n for n = 0 to 15. -/
def CXE_VCHG_DATA_DATA (n : Nat) : Fld := ⟨0x400200C0 + 4 * n, 0, 32⟩
/-! CXE_TASKn_CFG (task configuration): Offset 0x400 + 0x20 × n for n = 0 to 31. -/
def CXE_TASK_CFG_EN (n : Nat) : Fld := ⟨0x40020400 + 32 * n, 31, 1⟩
def CXE_TASK_CFG_FRAME (n : Nat) : Fld := ⟨0x40020400 + 32 * n, 30, 1⟩
def CXE_TASK_CFG_CMT (n : Nat) : Fld := ⟨0x40020400 + 32 * n, 29, 1⟩
def CXE_TASK_CFG_DIS (n : Nat) : Fld := ⟨0x40020400 + 32 * n, 28, 1⟩
def CXE_TASK_CFG_FRAC (n : Nat) : Fld := ⟨0x40020400 + 32 * n, 26, 2⟩
def CXE_TASK_CFG_LANES (n : Nat) : Fld := ⟨0x40020400 + 32 * n, 16, 8⟩
def CXE_TASK_CFG_PRIO (n : Nat) : Fld := ⟨0x40020400 + 32 * n, 8, 5⟩
def CXE_TASK_CFG_TENANT (n : Nat) : Fld := ⟨0x40020400 + 32 * n, 0, 6⟩
/-! CXE_TASKn_WC (worst-case cycles): Offset 0x404 + 0x20 × n. -/
def CXE_TASK_WC_C (n : Nat) : Fld := ⟨0x40020404 + 32 * n, 0, 32⟩
/-! CXE_TASKn_TWC (worst-case time): Offset 0x408 + 0x20 × n. -/
def CXE_TASK_TWC_TWC (n : Nat) : Fld := ⟨0x40020408 + 32 * n, 0, 32⟩
/-! CXE_TASKn_BUDGET (budget): Offset 0x40C + 0x20 × n. -/
def CXE_TASK_BUDGET_BUDGET (n : Nat) : Fld := ⟨0x4002040C + 32 * n, 0, 32⟩
/-! CXE_TASKn_DEMAND (lane-load demand): Offset 0x410 + 0x20 × n. -/
def CXE_TASK_DEMAND_DEMAND (n : Nat) : Fld := ⟨0x40020410 + 32 * n, 0, 32⟩
/-! CXE_TASKn_LAST (last activation): Offset 0x414 + 0x20 × n. -/
def CXE_TASK_LAST_OUTCOME (n : Nat) : Fld := ⟨0x40020414 + 32 * n, 29, 3⟩
def CXE_TASK_LAST_LANE (n : Nat) : Fld := ⟨0x40020414 + 32 * n, 26, 3⟩
def CXE_TASK_LAST_LATE (n : Nat) : Fld := ⟨0x40020414 + 32 * n, 0, 16⟩
/-! CXE_TASKn_CNT (delay and skip counts): Offset 0x418 + 0x20 × n. -/
def CXE_TASK_CNT_DELAYED (n : Nat) : Fld := ⟨0x40020418 + 32 * n, 16, 16⟩
def CXE_TASK_CNT_SKIPPED (n : Nat) : Fld := ⟨0x40020418 + 32 * n, 0, 16⟩
/-! CXE_TASKn_FLT (overrun and fault counts): Offset 0x41C + 0x20 × n. -/
def CXE_TASK_FLT_OVERRUN (n : Nat) : Fld := ⟨0x4002041C + 32 * n, 24, 8⟩
def CXE_TASK_FLT_FAULT (n : Nat) : Fld := ⟨0x4002041C + 32 * n, 16, 8⟩
def CXE_TASK_FLT_MAXLATE (n : Nat) : Fld := ⟨0x4002041C + 32 * n, 0, 16⟩

/-- The rows of block CXE (R167). -/
def rowsCxe0 : List RegRow := [
  ⟨0x40020000, [], [⟨31, 1, .ro⟩, ⟨30, 1, .ro⟩, ⟨29, 1, .ro⟩, ⟨28, 1, .ro⟩, ⟨27, 1, .ro⟩, ⟨26, 1, .ro⟩, ⟨25, 1, .ro⟩, ⟨24, 1, .ro⟩, ⟨22, 2, .ro⟩, ⟨0, 8, .ro⟩]⟩,
  ⟨0x40020004, [], [⟨7, 1, .w1c⟩, ⟨6, 1, .w1c⟩, ⟨5, 1, .w1c⟩, ⟨4, 1, .w1c⟩, ⟨3, 1, .w1c⟩, ⟨2, 1, .w1c⟩, ⟨1, 1, .w1c⟩, ⟨0, 1, .w1c⟩]⟩,
  ⟨0x40020008, [], [⟨28, 4, .wo⟩, ⟨0, 1, .wo⟩]⟩,
  ⟨0x4002000C, [], [⟨0, 32, .ro⟩]⟩,
  ⟨0x40020010, [], [⟨16, 16, .ro⟩, ⟨0, 16, .rc⟩]⟩,
  ⟨0x40020014, [], [⟨16, 16, .rc⟩, ⟨0, 16, .rc⟩]⟩,
  ⟨0x40020018, [], [⟨0, 32, .ro⟩]⟩,
  ⟨0x40020040, [], [⟨2, 19, .rw⟩]⟩,
  ⟨0x40020044, [], [⟨0, 32, .wo⟩]⟩,
  ⟨0x40020080, [], [⟨30, 2, .wo⟩, ⟨24, 6, .wo⟩, ⟨20, 4, .wo⟩, ⟨0, 19, .wo⟩]⟩,
  ⟨0x40020084, [], [⟨31, 1, .ro⟩, ⟨30, 1, .ro⟩, ⟨0, 16, .ro⟩]⟩,
  ⟨0x400200C0, [(4, 16)], [⟨0, 32, .rw⟩]⟩]
def rowsCxe1 : List RegRow := [
  ⟨0x40020400, [(32, 32)], [⟨31, 1, .ro⟩, ⟨30, 1, .ro⟩, ⟨29, 1, .ro⟩, ⟨28, 1, .ro⟩, ⟨26, 2, .ro⟩, ⟨16, 8, .ro⟩, ⟨8, 5, .ro⟩, ⟨0, 6, .ro⟩]⟩,
  ⟨0x40020404, [(32, 32)], [⟨0, 32, .ro⟩]⟩,
  ⟨0x40020408, [(32, 32)], [⟨0, 32, .ro⟩]⟩,
  ⟨0x4002040C, [(32, 32)], [⟨0, 32, .ro⟩]⟩,
  ⟨0x40020410, [(32, 32)], [⟨0, 32, .ro⟩]⟩,
  ⟨0x40020414, [(32, 32)], [⟨29, 3, .ro⟩, ⟨26, 3, .ro⟩, ⟨0, 16, .ro⟩]⟩,
  ⟨0x40020418, [(32, 32)], [⟨16, 16, .rc⟩, ⟨0, 16, .rc⟩]⟩,
  ⟨0x4002041C, [(32, 32)], [⟨24, 8, .rc⟩, ⟨16, 8, .rc⟩, ⟨0, 16, .rc⟩]⟩]
def rowsCxe : List RegRow := rowsCxe0 ++ rowsCxe1

end Sys2Proof.Machine
end

