-- ==== Sys2Proof/Machine/RegFbe.lean ====
section
/-! DEFINITION. The register fields of block FBE: address, lowest bit and width of each, as the register
tables of spec/09_field_buses.md (R286) give them, and the rows of the block for access by address. -/

namespace Sys2Proof.Machine

/-! FBE_STAT (engine status): Offset 0x000. -/
def FBE_STAT_OBJ : Fld := ⟨0x40060000, 16, 13⟩
def FBE_STAT_PORTS : Fld := ⟨0x40060000, 0, 5⟩
/-! FBE_EVT (engine events): Offset 0x004. -/
def FBE_EVT_DELAYED : Fld := ⟨0x40060004, 7, 1⟩
def FBE_EVT_RETRY_OUT : Fld := ⟨0x40060004, 6, 1⟩
def FBE_EVT_DALI_DOWN : Fld := ⟨0x40060004, 5, 1⟩
def FBE_EVT_WAKE : Fld := ⟨0x40060004, 4, 1⟩
def FBE_EVT_RX_OVR : Fld := ⟨0x40060004, 3, 1⟩
def FBE_EVT_SILENT : Fld := ⟨0x40060004, 2, 1⟩
def FBE_EVT_ERR_PASSIVE : Fld := ⟨0x40060004, 1, 1⟩
def FBE_EVT_BUS_OFF : Fld := ⟨0x40060004, 0, 1⟩
/-! FBE_CMD (field bus request): Offset 0x008. -/
def FBE_CMD_OP : Fld := ⟨0x40060008, 28, 4⟩
def FBE_CMD_TEN : Fld := ⟨0x40060008, 16, 6⟩
def FBE_CMD_TARGET : Fld := ⟨0x40060008, 0, 12⟩
/-! FBE_CRES (request result): Offset 0x00C. -/
def FBE_CRES_DONE : Fld := ⟨0x4006000C, 31, 1⟩
def FBE_CRES_CODE : Fld := ⟨0x4006000C, 0, 16⟩
/-! FBE_UCVER (microcode versions): Offset 0x010. -/
def FBE_UCVER_CAN : Fld := ⟨0x40060010, 24, 8⟩
def FBE_UCVER_RS485 : Fld := ⟨0x40060010, 16, 8⟩
def FBE_UCVER_DALI : Fld := ⟨0x40060010, 8, 8⟩
/-! FBE_Pnn_CFG (port configuration): Offset 0x1000 + 0x40 × nn. -/
def FBE_P_CFG_EN (n : Nat) : Fld := ⟨0x40061000 + 64 * n, 31, 1⟩
def FBE_P_CFG_TYPE (n : Nat) : Fld := ⟨0x40061000 + 64 * n, 29, 2⟩
def FBE_P_CFG_MODE (n : Nat) : Fld := ⟨0x40061000 + 64 * n, 27, 2⟩
def FBE_P_CFG_TXEN (n : Nat) : Fld := ⟨0x40061000 + 64 * n, 26, 1⟩
def FBE_P_CFG_WAKE (n : Nat) : Fld := ⟨0x40061000 + 64 * n, 24, 2⟩
def FBE_P_CFG_TERM (n : Nat) : Fld := ⟨0x40061000 + 64 * n, 23, 1⟩
def FBE_P_CFG_BOREC (n : Nat) : Fld := ⟨0x40061000 + 64 * n, 22, 1⟩
def FBE_P_CFG_TENANT (n : Nat) : Fld := ⟨0x40061000 + 64 * n, 16, 6⟩
def FBE_P_CFG_WINS (n : Nat) : Fld := ⟨0x40061000 + 64 * n, 8, 8⟩
/-! FBE_Pnn_STAT (port status): Offset 0x1004 + 0x40 × nn. -/
def FBE_P_STAT_STATE (n : Nat) : Fld := ⟨0x40061004 + 64 * n, 29, 3⟩
def FBE_P_STAT_TEC (n : Nat) : Fld := ⟨0x40061004 + 64 * n, 21, 8⟩
def FBE_P_STAT_REC (n : Nat) : Fld := ⟨0x40061004 + 64 * n, 13, 8⟩
def FBE_P_STAT_LEC (n : Nat) : Fld := ⟨0x40061004 + 64 * n, 10, 3⟩
def FBE_P_STAT_QUEUED (n : Nat) : Fld := ⟨0x40061004 + 64 * n, 0, 10⟩
/-! FBE_P_RXCNT (frame counts): Offsets 0x1008 and 0x100C + 0x40 × nn. -/
def FBE_P_RXCNT_CNT (n : Nat) : Fld := ⟨0x40061008 + 64 * n, 0, 32⟩
/-! FBE_P_TXCNT (frame counts): Offsets 0x1008 and 0x100C + 0x40 × nn. -/
def FBE_P_TXCNT_CNT (n : Nat) : Fld := ⟨0x4006100C + 64 * n, 0, 32⟩
/-! FBE_Pnn_ERRCNT (error counts): Offset 0x1010 + 0x40 × nn. -/
def FBE_P_ERRCNT_E0 (n : Nat) : Fld := ⟨0x40061010 + 64 * n, 24, 8⟩
def FBE_P_ERRCNT_E1 (n : Nat) : Fld := ⟨0x40061010 + 64 * n, 16, 8⟩
def FBE_P_ERRCNT_E2 (n : Nat) : Fld := ⟨0x40061010 + 64 * n, 8, 8⟩
def FBE_P_ERRCNT_E3 (n : Nat) : Fld := ⟨0x40061010 + 64 * n, 0, 8⟩
/-! FBE_Pnn_ARB (arbitration and recovery): Offset 0x1014 + 0x40 × nn. -/
def FBE_P_ARB_ARBLOST (n : Nat) : Fld := ⟨0x40061014 + 64 * n, 16, 16⟩
def FBE_P_ARB_BUSOFF (n : Nat) : Fld := ⟨0x40061014 + 64 * n, 0, 16⟩
/-! FBE_Pnn_LATE (transmit lateness): Offset 0x1018 + 0x40 × nn. -/
def FBE_P_LATE_MAXLATE (n : Nat) : Fld := ⟨0x40061018 + 64 * n, 16, 16⟩
def FBE_P_LATE_DELAYED (n : Nat) : Fld := ⟨0x40061018 + 64 * n, 0, 16⟩
/-! FBE_Pnn_DROP (drops): Offset 0x101C + 0x40 × nn. -/
def FBE_P_DROP_RXOVR (n : Nat) : Fld := ⟨0x4006101C + 64 * n, 16, 16⟩
def FBE_P_DROP_SUPPRESSED (n : Nat) : Fld := ⟨0x4006101C + 64 * n, 0, 16⟩
/-! FBE_P_SOF_LO (last received start, low word): Offset 0x1020 + 0x40 × nn. -/
def FBE_P_SOF_LO_T_LO (n : Nat) : Fld := ⟨0x40061020 + 64 * n, 0, 32⟩
/-! FBE_P_SOF_HI (last received start, high word): Offset 0x1024 + 0x40 × nn. -/
def FBE_P_SOF_HI_T_HI (n : Nat) : Fld := ⟨0x40061024 + 64 * n, 0, 24⟩
/-! FBE_Pnn_MISS (unusable frames): Offset 0x1028 + 0x40 × nn. -/
def FBE_P_MISS_SHORTFRM (n : Nat) : Fld := ⟨0x40061028 + 64 * n, 16, 16⟩
def FBE_P_MISS_FDIGN (n : Nat) : Fld := ⟨0x40061028 + 64 * n, 0, 16⟩
/-! FBE_OBJnnnn_STAT (object status): Offset 0x8000 + 4 × nnnn for nnnn = 0 to 4,095. -/
def FBE_OBJ_STAT_STATE (n : Nat) : Fld := ⟨0x40068000 + 4 * n, 29, 3⟩
def FBE_OBJ_STAT_PORT (n : Nat) : Fld := ⟨0x40068000 + 4 * n, 24, 5⟩
def FBE_OBJ_STAT_LATE (n : Nat) : Fld := ⟨0x40068000 + 4 * n, 0, 16⟩

/-- The rows of block FBE (R286). -/
def rowsFbe0 : List RegRow := [
  ⟨0x40060000, [], [⟨16, 13, .ro⟩, ⟨0, 5, .ro⟩]⟩,
  ⟨0x40060004, [], [⟨7, 1, .w1c⟩, ⟨6, 1, .w1c⟩, ⟨5, 1, .w1c⟩, ⟨4, 1, .w1c⟩, ⟨3, 1, .w1c⟩, ⟨2, 1, .w1c⟩, ⟨1, 1, .w1c⟩, ⟨0, 1, .w1c⟩]⟩,
  ⟨0x40060008, [], [⟨28, 4, .wo⟩, ⟨16, 6, .wo⟩, ⟨0, 12, .wo⟩]⟩,
  ⟨0x4006000C, [], [⟨31, 1, .ro⟩, ⟨0, 16, .ro⟩]⟩,
  ⟨0x40060010, [], [⟨24, 8, .ro⟩, ⟨16, 8, .ro⟩, ⟨8, 8, .ro⟩]⟩,
  ⟨0x40061000, [(64, 28)], [⟨31, 1, .ro⟩, ⟨29, 2, .ro⟩, ⟨27, 2, .ro⟩, ⟨26, 1, .ro⟩, ⟨24, 2, .ro⟩, ⟨23, 1, .ro⟩, ⟨22, 1, .ro⟩, ⟨16, 6, .ro⟩, ⟨8, 8, .ro⟩]⟩,
  ⟨0x40061004, [(64, 28)], [⟨29, 3, .ro⟩, ⟨21, 8, .ro⟩, ⟨13, 8, .ro⟩, ⟨10, 3, .ro⟩, ⟨0, 10, .ro⟩]⟩,
  ⟨0x40061008, [(64, 28)], [⟨0, 32, .ro⟩]⟩,
  ⟨0x4006100C, [(64, 28)], [⟨0, 32, .ro⟩]⟩,
  ⟨0x40061010, [(64, 28)], [⟨24, 8, .rc⟩, ⟨16, 8, .rc⟩, ⟨8, 8, .rc⟩, ⟨0, 8, .rc⟩]⟩,
  ⟨0x40061014, [(64, 28)], [⟨16, 16, .rc⟩, ⟨0, 16, .rc⟩]⟩,
  ⟨0x40061018, [(64, 28)], [⟨16, 16, .rc⟩, ⟨0, 16, .rc⟩]⟩]
def rowsFbe1 : List RegRow := [
  ⟨0x4006101C, [(64, 28)], [⟨16, 16, .rc⟩, ⟨0, 16, .rc⟩]⟩,
  ⟨0x40061020, [(64, 28)], [⟨0, 32, .ro⟩]⟩,
  ⟨0x40061024, [(64, 28)], [⟨0, 24, .ro⟩]⟩,
  ⟨0x40061028, [(64, 28)], [⟨16, 16, .rc⟩, ⟨0, 16, .rc⟩]⟩,
  ⟨0x40068000, [(4, 4096)], [⟨29, 3, .ro⟩, ⟨24, 5, .ro⟩, ⟨0, 16, .ro⟩]⟩]
def rowsFbe : List RegRow := rowsFbe0 ++ rowsFbe1

end Sys2Proof.Machine
end

