-- ==== Sys2Proof/Machine/RegFio.lean ====
section
/-! DEFINITION. The register fields of block FIO: address, lowest bit and width of each, as the register
tables of spec/08_field_io.md (R251) give them, and the rows of the block for access by address. -/

namespace Sys2Proof.Machine

/-! FIO_STAT (field I/O status): Offset 0x000. -/
def FIO_STAT_OUT_EN : Fld := ⟨0x40050000, 31, 1⟩
def FIO_STAT_PFSAFE : Fld := ⟨0x40050000, 30, 1⟩
def FIO_STAT_LATCHED : Fld := ⟨0x40050000, 8, 9⟩
def FIO_STAT_VLOW : Fld := ⟨0x40050000, 0, 8⟩
/-! FIO_EVT (field I/O events): Offset 0x004. -/
def FIO_EVT_WAKE : Fld := ⟨0x40050004, 4, 1⟩
def FIO_EVT_VFLD : Fld := ⟨0x40050004, 3, 1⟩
def FIO_EVT_OPEN : Fld := ⟨0x40050004, 2, 1⟩
def FIO_EVT_SHORT : Fld := ⟨0x40050004, 1, 1⟩
def FIO_EVT_INPUT_BAD : Fld := ⟨0x40050004, 0, 1⟩
/-! FIO_CMD (field I/O request): Offset 0x008. -/
def FIO_CMD_OP : Fld := ⟨0x40050008, 28, 4⟩
def FIO_CMD_TEN : Fld := ⟨0x40050008, 16, 6⟩
def FIO_CMD_CH : Fld := ⟨0x40050008, 0, 8⟩
/-! FIO_CRES (request result): Offset 0x00C. -/
def FIO_CRES_DONE : Fld := ⟨0x4005000C, 31, 1⟩
def FIO_CRES_CODE : Fld := ⟨0x4005000C, 0, 16⟩
/-! FIO_BANKn_STAT (bank status): Offset 0x040 + 4 × n for n = 0 to 7. -/
def FIO_BANK_STAT_VLOW (n : Nat) : Fld := ⟨0x40050040 + 4 * n, 31, 1⟩
def FIO_BANK_STAT_VFLD (n : Nat) : Fld := ⟨0x40050040 + 4 * n, 0, 16⟩
/-! FIO_CHnnn_CFG (channel configuration): Offset 0x1000 + 0x10 × nnn for nnn = 0 to 255. -/
def FIO_CH_CFG_MODE (n : Nat) : Fld := ⟨0x40051000 + 16 * n, 28, 4⟩
def FIO_CH_CFG_SRC (n : Nat) : Fld := ⟨0x40051000 + 16 * n, 27, 1⟩
def FIO_CH_CFG_FOL (n : Nat) : Fld := ⟨0x40051000 + 16 * n, 26, 1⟩
def FIO_CH_CFG_CHG (n : Nat) : Fld := ⟨0x40051000 + 16 * n, 25, 1⟩
def FIO_CH_CFG_WAKE (n : Nat) : Fld := ⟨0x40051000 + 16 * n, 24, 1⟩
def FIO_CH_CFG_FILT (n : Nat) : Fld := ⟨0x40051000 + 16 * n, 20, 4⟩
def FIO_CH_CFG_TENANT (n : Nat) : Fld := ⟨0x40051000 + 16 * n, 14, 6⟩
def FIO_CH_CFG_OPH (n : Nat) : Fld := ⟨0x40051000 + 16 * n, 0, 13⟩
/-! FIO_CHnnn_DIAG (channel diagnostics): Offset 0x1004 + 0x10 × nnn. -/
def FIO_CH_DIAG_DRIVEN (n : Nat) : Fld := ⟨0x40051004 + 16 * n, 31, 1⟩
def FIO_CH_DIAG_SAFE_ACT (n : Nat) : Fld := ⟨0x40051004 + 16 * n, 30, 1⟩
def FIO_CH_DIAG_LATCH (n : Nat) : Fld := ⟨0x40051004 + 16 * n, 29, 1⟩
def FIO_CH_DIAG_SHORT (n : Nat) : Fld := ⟨0x40051004 + 16 * n, 28, 1⟩
def FIO_CH_DIAG_OPEN (n : Nat) : Fld := ⟨0x40051004 + 16 * n, 27, 1⟩
def FIO_CH_DIAG_VAL_ERR (n : Nat) : Fld := ⟨0x40051004 + 16 * n, 26, 1⟩
def FIO_CH_DIAG_RETRY (n : Nat) : Fld := ⟨0x40051004 + 16 * n, 24, 2⟩
def FIO_CH_DIAG_QUAL (n : Nat) : Fld := ⟨0x40051004 + 16 * n, 0, 8⟩
/-! FIO_CHnnn_VAL (measured value): Offset 0x1008 + 0x10 × nnn. -/
def FIO_CH_VAL_VAL (n : Nat) : Fld := ⟨0x40051008 + 16 * n, 0, 32⟩
/-! FIO_CHnnn_CNT (switching count): Offset 0x100C + 0x10 × nnn. -/
def FIO_CH_CNT_SW (n : Nat) : Fld := ⟨0x4005100C + 16 * n, 0, 32⟩

/-- The rows of block FIO (R251). -/
def rowsFio0 : List RegRow := [
  ⟨0x40050000, [], [⟨31, 1, .ro⟩, ⟨30, 1, .ro⟩, ⟨8, 9, .ro⟩, ⟨0, 8, .ro⟩]⟩,
  ⟨0x40050004, [], [⟨4, 1, .w1c⟩, ⟨3, 1, .w1c⟩, ⟨2, 1, .w1c⟩, ⟨1, 1, .w1c⟩, ⟨0, 1, .w1c⟩]⟩,
  ⟨0x40050008, [], [⟨28, 4, .wo⟩, ⟨16, 6, .wo⟩, ⟨0, 8, .wo⟩]⟩,
  ⟨0x4005000C, [], [⟨31, 1, .ro⟩, ⟨0, 16, .ro⟩]⟩,
  ⟨0x40050040, [(4, 8)], [⟨31, 1, .ro⟩, ⟨0, 16, .ro⟩]⟩,
  ⟨0x40051000, [(16, 256)], [⟨28, 4, .ro⟩, ⟨27, 1, .ro⟩, ⟨26, 1, .ro⟩, ⟨25, 1, .ro⟩, ⟨24, 1, .ro⟩, ⟨20, 4, .ro⟩, ⟨14, 6, .ro⟩, ⟨0, 13, .ro⟩]⟩,
  ⟨0x40051004, [(16, 256)], [⟨31, 1, .ro⟩, ⟨30, 1, .ro⟩, ⟨29, 1, .ro⟩, ⟨28, 1, .ro⟩, ⟨27, 1, .ro⟩, ⟨26, 1, .w1c⟩, ⟨24, 2, .ro⟩, ⟨0, 8, .ro⟩]⟩,
  ⟨0x40051008, [(16, 256)], [⟨0, 32, .ro⟩]⟩,
  ⟨0x4005100C, [(16, 256)], [⟨0, 32, .ro⟩]⟩]
def rowsFio : List RegRow := rowsFio0

end Sys2Proof.Machine
end

