-- ==== Sys2Proof/Machine/RegGrn.lean ====
section
/-! DEFINITION. The register fields of block GRN: address, lowest bit and width of each, as the register
tables of spec/14_granary_and_well.md (R415) give them, and the rows of the block for access by address. -/

namespace Sys2Proof.Machine

/-! GRN_STAT (recorder status): Offset 0x000. -/
def GRN_STAT_FROZEN : Fld := ⟨0x400A0000, 31, 1⟩
def GRN_STAT_FSRC : Fld := ⟨0x400A0000, 29, 2⟩
def GRN_STAT_SRAM : Fld := ⟨0x400A0000, 16, 12⟩
def GRN_STAT_STAGE : Fld := ⟨0x400A0000, 0, 16⟩
/-! GRN_EVT (recorder events): Offset 0x004. -/
def GRN_EVT_FLUSH : Fld := ⟨0x400A0004, 2, 1⟩
def GRN_EVT_THAWED : Fld := ⟨0x400A0004, 1, 1⟩
def GRN_EVT_LOST : Fld := ⟨0x400A0004, 0, 1⟩
/-! GRN_CFG (recorder configuration): Offset 0x008. -/
def GRN_CFG_RWIN : Fld := ⟨0x400A0008, 0, 16⟩
/-! GRN_SEQ (sequence bounds): Offsets 0x00C and 0x010. -/
def GRN_SEQ_SEQ : Fld := ⟨0x400A000C, 0, 32⟩
/-! GRN_OLDEST (sequence bounds): Offsets 0x00C and 0x010. -/
def GRN_OLDEST_SEQ : Fld := ⟨0x400A0010, 0, 32⟩
/-! GRN_LOST (lost records): Offset 0x014. -/
def GRN_LOST_CNT : Fld := ⟨0x400A0014, 0, 32⟩
/-! GRN_CMD (recorder request): Offset 0x018. -/
def GRN_CMD_OP : Fld := ⟨0x400A0018, 28, 4⟩
def GRN_CMD_SRC : Fld := ⟨0x400A0018, 26, 2⟩
def GRN_CMD_TEN : Fld := ⟨0x400A0018, 20, 6⟩
def GRN_CMD_COUNT : Fld := ⟨0x400A0018, 0, 7⟩
/-! GRN_RSEQ (read start): Offset 0x01C. -/
def GRN_RSEQ_S : Fld := ⟨0x400A001C, 0, 32⟩
/-! GRN_RRES (request result): Offset 0x020. -/
def GRN_RRES_DONE : Fld := ⟨0x400A0020, 31, 1⟩
def GRN_RRES_END : Fld := ⟨0x400A0020, 30, 1⟩
def GRN_RRES_NREC : Fld := ⟨0x400A0020, 23, 7⟩
def GRN_RRES_CODE : Fld := ⟨0x400A0020, 0, 16⟩
/-! GRN_RNEXT (read continuation): Offset 0x024. -/
def GRN_RNEXT_NEXT : Fld := ⟨0x400A0024, 0, 32⟩
/-! GRN_RBUF (read buffer): Offsets 0x1000 to 0x17FF. -/
def GRN_RBUF_W (n : Nat) : Fld := ⟨0x400A1000 + 4 * n, 0, 32⟩

/-- The rows of block GRN (R415). -/
def rowsGrn0 : List RegRow := [
  ⟨0x400A0000, [], [⟨31, 1, .ro⟩, ⟨29, 2, .ro⟩, ⟨16, 12, .ro⟩, ⟨0, 16, .ro⟩]⟩,
  ⟨0x400A0004, [], [⟨2, 1, .w1c⟩, ⟨1, 1, .w1c⟩, ⟨0, 1, .w1c⟩]⟩,
  ⟨0x400A0008, [], [⟨0, 16, .rw⟩]⟩,
  ⟨0x400A000C, [], [⟨0, 32, .ro⟩]⟩,
  ⟨0x400A0010, [], [⟨0, 32, .ro⟩]⟩,
  ⟨0x400A0014, [], [⟨0, 32, .rc⟩]⟩,
  ⟨0x400A0018, [], [⟨28, 4, .wo⟩, ⟨26, 2, .wo⟩, ⟨20, 6, .wo⟩, ⟨0, 7, .wo⟩]⟩,
  ⟨0x400A001C, [], [⟨0, 32, .rw⟩]⟩,
  ⟨0x400A0020, [], [⟨31, 1, .ro⟩, ⟨30, 1, .ro⟩, ⟨23, 7, .ro⟩, ⟨0, 16, .ro⟩]⟩,
  ⟨0x400A0024, [], [⟨0, 32, .ro⟩]⟩,
  ⟨0x400A1000, [(4, 512)], [⟨0, 32, .ro⟩]⟩]
def rowsGrn : List RegRow := rowsGrn0

end Sys2Proof.Machine
end

