-- ==== Sys2Proof/Machine/RegHlt.lean ====
section
/-! DEFINITION. The register fields of block HLT: address, lowest bit and width of each, as the register
tables of spec/15_power_startup_health.md (R438) give them, and the rows of the block for access by address. -/

namespace Sys2Proof.Machine

/-! HLT_STAT (health status): Offset 0x000. -/
def HLT_STAT_MFAULT : Fld := ⟨0x400D0000, 31, 1⟩
def HLT_STAT_FCAUSE : Fld := ⟨0x400D0000, 28, 3⟩
/-! HLT_EVT (health events): Offset 0x004. -/
def HLT_EVT_EOL : Fld := ⟨0x400D0004, 3, 1⟩
def HLT_EVT_WEAR : Fld := ⟨0x400D0004, 2, 1⟩
def HLT_EVT_SUPRST : Fld := ⟨0x400D0004, 1, 1⟩
def HLT_EVT_FAULT : Fld := ⟨0x400D0004, 0, 1⟩
/-! HLT_WDOG (SUP watchdog): Offset 0x008. -/
def HLT_WDOG_KICK : Fld := ⟨0x400D0008, 31, 1⟩
def HLT_WDOG_RESTARTS : Fld := ⟨0x400D0008, 0, 8⟩
/-! HLT_TEMP (die temperature): Offset 0x00C. -/
def HLT_TEMP_NOW : Fld := ⟨0x400D000C, 16, 16⟩
def HLT_TEMP_MAX : Fld := ⟨0x400D000C, 0, 16⟩
/-! HLT_ERR_A (error counts): Offsets 0x010 and 0x014. -/
def HLT_ERR_A_FABRIC : Fld := ⟨0x400D0010, 24, 8⟩
def HLT_ERR_A_ECC : Fld := ⟨0x400D0010, 8, 16⟩
def HLT_ERR_A_UNCORR : Fld := ⟨0x400D0010, 0, 8⟩
/-! HLT_ERR_B (error counts): Offsets 0x010 and 0x014. -/
def HLT_ERR_B_LDP : Fld := ⟨0x400D0014, 24, 8⟩
def HLT_ERR_B_NANDSKIP : Fld := ⟨0x400D0014, 16, 8⟩
def HLT_ERR_B_SNAP : Fld := ⟨0x400D0014, 8, 8⟩
/-! HLT_IND_VAL (indicator n): Offsets 0x100 and 0x104 + 8 × n for n = 0 to 4. -/
def HLT_IND_VAL_ARG (n : Nat) : Fld := ⟨0x400D0100 + 8 * n, 24, 8⟩
def HLT_IND_VAL_USED (n : Nat) : Fld := ⟨0x400D0100 + 8 * n, 0, 16⟩
/-! HLT_IND_EOL (indicator n): Offsets 0x100 and 0x104 + 8 × n for n = 0 to 4. -/
def HLT_IND_EOL_DAYS (n : Nat) : Fld := ⟨0x400D0104 + 8 * n, 0, 16⟩
/-! HLT_SWLIM (switching limit): Offset 0x140. -/
def HLT_SWLIM_LIM : Fld := ⟨0x400D0140, 0, 32⟩

/-- The rows of block HLT (R438). -/
def rowsHlt0 : List RegRow := [
  ⟨0x400D0000, [], [⟨31, 1, .ro⟩, ⟨28, 3, .ro⟩]⟩,
  ⟨0x400D0004, [], [⟨3, 1, .w1c⟩, ⟨2, 1, .w1c⟩, ⟨1, 1, .w1c⟩, ⟨0, 1, .w1c⟩]⟩,
  ⟨0x400D0008, [], [⟨31, 1, .wo⟩, ⟨0, 8, .rc⟩]⟩,
  ⟨0x400D000C, [], [⟨16, 16, .ro⟩, ⟨0, 16, .rc⟩]⟩,
  ⟨0x400D0010, [], [⟨24, 8, .rc⟩, ⟨8, 16, .rc⟩, ⟨0, 8, .rc⟩]⟩,
  ⟨0x400D0014, [], [⟨24, 8, .rc⟩, ⟨16, 8, .rc⟩, ⟨8, 8, .rc⟩]⟩,
  ⟨0x400D0100, [(8, 5)], [⟨24, 8, .ro⟩, ⟨0, 16, .ro⟩]⟩,
  ⟨0x400D0104, [(8, 5)], [⟨0, 16, .ro⟩]⟩,
  ⟨0x400D0140, [], [⟨0, 32, .rw⟩]⟩]
def rowsHlt : List RegRow := rowsHlt0

end Sys2Proof.Machine
end

