-- ==== Sys2Proof/Machine/RegHpt.lean ====
section
/-! DEFINITION. The register fields of block HPT: address, lowest bit and width of each, as the register
tables of spec/16_host_port_mill_crossings.md (R461) give them, and the rows of the block for access by address. -/

namespace Sys2Proof.Machine

/-! HPT_STAT (host port status): Offset 0x000. -/
def HPT_STAT_SUPRDY : Fld := ⟨0x400E0000, 31, 1⟩
def HPT_STAT_PEND : Fld := ⟨0x400E0000, 30, 1⟩
def HPT_STAT_RES : Fld := ⟨0x400E0000, 29, 1⟩
def HPT_STAT_SESS : Fld := ⟨0x400E0000, 28, 1⟩
def HPT_STAT_TEN : Fld := ⟨0x400E0000, 22, 6⟩
def HPT_STAT_LSEQ : Fld := ⟨0x400E0000, 0, 16⟩
/-! HPT_IRQ (host interrupt flags): Offset 0x004. -/
def HPT_IRQ_PF : Fld := ⟨0x400E0004, 3, 1⟩
def HPT_IRQ_CRCERR : Fld := ⟨0x400E0004, 2, 1⟩
def HPT_IRQ_SUPRDY : Fld := ⟨0x400E0004, 1, 1⟩
def HPT_IRQ_RESULT : Fld := ⟨0x400E0004, 0, 1⟩
/-! HPT_IRQEN (host interrupt enables): Offset 0x008. -/
def HPT_IRQEN_EN : Fld := ⟨0x400E0008, 0, 4⟩
/-! HPT_DOORBELL (command submission): Offset 0x00C. -/
def HPT_DOORBELL_LEN : Fld := ⟨0x400E000C, 0, 17⟩
/-! HPT_BWPAGE (bulk aperture page): Offset 0x010. -/
def HPT_BWPAGE_PAGE : Fld := ⟨0x400E0010, 0, 4⟩
/-! HPT_LASTREJ (last rejection): Offset 0x014. -/
def HPT_LASTREJ_REASON : Fld := ⟨0x400E0014, 24, 8⟩
def HPT_LASTREJ_CODE : Fld := ⟨0x400E0014, 0, 16⟩
/-! HPT_ERRCNT (host port errors): Offset 0x018. -/
def HPT_ERRCNT_CRC : Fld := ⟨0x400E0018, 16, 16⟩
def HPT_ERRCNT_FRAME : Fld := ⟨0x400E0018, 8, 8⟩
def HPT_ERRCNT_BULK : Fld := ⟨0x400E0018, 0, 8⟩

/-- The rows of block HPT (R461). -/
def rowsHpt0 : List RegRow := [
  ⟨0x400E0000, [], [⟨31, 1, .ro⟩, ⟨30, 1, .ro⟩, ⟨29, 1, .ro⟩, ⟨28, 1, .ro⟩, ⟨22, 6, .ro⟩, ⟨0, 16, .ro⟩]⟩,
  ⟨0x400E0004, [], [⟨3, 1, .w1c⟩, ⟨2, 1, .w1c⟩, ⟨1, 1, .w1c⟩, ⟨0, 1, .w1c⟩]⟩,
  ⟨0x400E0008, [], [⟨0, 4, .rw⟩]⟩,
  ⟨0x400E000C, [], [⟨0, 17, .wo⟩]⟩,
  ⟨0x400E0010, [], [⟨0, 4, .rw⟩]⟩,
  ⟨0x400E0014, [], [⟨24, 8, .ro⟩, ⟨0, 16, .ro⟩]⟩,
  ⟨0x400E0018, [], [⟨16, 16, .rc⟩, ⟨8, 8, .rc⟩, ⟨0, 8, .rc⟩]⟩]
def rowsHpt : List RegRow := rowsHpt0

end Sys2Proof.Machine
end

