-- ==== Sys2Proof/Machine/RegKsu.lean ====
section
/-! DEFINITION. The register fields of block KSU: address, lowest bit and width of each, as the register
tables of spec/12_keys_and_life_cycle.md (R374) give them, and the rows of the block for access by address. -/

namespace Sys2Proof.Machine

/-! KSU_STAT (key store status): Offset 0x000. -/
def KSU_STAT_LC : Fld := ⟨0x40090000, 29, 3⟩
def KSU_STAT_ROOT : Fld := ⟨0x40090000, 27, 2⟩
def KSU_STAT_LOCK : Fld := ⟨0x40090000, 26, 1⟩
def KSU_STAT_JCLOSED : Fld := ⟨0x40090000, 25, 1⟩
def KSU_STAT_FREE : Fld := ⟨0x40090000, 16, 9⟩
def KSU_STAT_PQUEUE : Fld := ⟨0x40090000, 8, 8⟩
/-! KSU_EVT (key store events): Offset 0x004. -/
def KSU_EVT_STORE_LOST : Fld := ⟨0x40090004, 5, 1⟩
def KSU_EVT_TAMPER : Fld := ⟨0x40090004, 4, 1⟩
def KSU_EVT_INVALIDATED : Fld := ⟨0x40090004, 3, 1⟩
def KSU_EVT_ROLLFWD : Fld := ⟨0x40090004, 2, 1⟩
def KSU_EVT_ROLLBACK : Fld := ⟨0x40090004, 1, 1⟩
def KSU_EVT_DONE : Fld := ⟨0x40090004, 0, 1⟩
/-! KSU_CMD (key request): Offset 0x008. -/
def KSU_CMD_OP : Fld := ⟨0x40090008, 27, 5⟩
def KSU_CMD_TEN : Fld := ⟨0x40090008, 20, 6⟩
def KSU_CMD_AUX : Fld := ⟨0x40090008, 8, 8⟩
def KSU_CMD_SLOT : Fld := ⟨0x40090008, 0, 8⟩
/-! KSU_CARG0 (request attributes): Offset 0x00C. -/
def KSU_CARG0_ARG : Fld := ⟨0x4009000C, 0, 32⟩
/-! KSU_CARG1 (request lengths): Offset 0x010. -/
def KSU_CARG1_INLEN : Fld := ⟨0x40090010, 16, 12⟩
def KSU_CARG1_AUXLEN : Fld := ⟨0x40090010, 0, 12⟩
/-! KSU_CRES (request result): Offset 0x014. -/
def KSU_CRES_DONE : Fld := ⟨0x40090014, 31, 1⟩
def KSU_CRES_ORPHAN_AFTER : Fld := ⟨0x40090014, 30, 1⟩
def KSU_CRES_OUTLEN : Fld := ⟨0x40090014, 16, 12⟩
def KSU_CRES_CODE : Fld := ⟨0x40090014, 0, 16⟩
/-! KSU_JRNL (journal status): Offset 0x018. -/
def KSU_JRNL_SEQ : Fld := ⟨0x40090018, 12, 20⟩
def KSU_JRNL_LIVE : Fld := ⟨0x40090018, 0, 12⟩
/-! KSU_CNT (key store counts): Offset 0x01C. -/
def KSU_CNT_ORPHANED : Fld := ⟨0x4009001C, 16, 16⟩
def KSU_CNT_AUTHFAIL : Fld := ⟨0x4009001C, 8, 8⟩
def KSU_CNT_QFULL : Fld := ⟨0x4009001C, 0, 8⟩
/-! KSU_DBG (debug and test access): Offset 0x020. -/
def KSU_DBG_DBG_OPEN : Fld := ⟨0x40090020, 31, 1⟩
def KSU_DBG_TOKEN : Fld := ⟨0x40090020, 30, 1⟩
def KSU_DBG_SCAN_OPEN : Fld := ⟨0x40090020, 29, 1⟩
/-! KSU_SERIAL_LO (module serial number): Offsets 0x024 and 0x028. -/
def KSU_SERIAL_LO_SER : Fld := ⟨0x40090024, 0, 32⟩
/-! KSU_SERIAL_HI (module serial number): Offsets 0x024 and 0x028. -/
def KSU_SERIAL_HI_SER : Fld := ⟨0x40090028, 0, 32⟩
/-! KSU_SLOTnnn_ATTR (slot attributes): Offset 0x400 + 8 × nnn for nnn = 0 to 255. -/
def KSU_SLOT_ATTR_ATTR (n : Nat) : Fld := ⟨0x40090400 + 8 * n, 0, 32⟩
/-! KSU_SLOTnnn_STAT (slot status): Offset 0x404 + 8 × nnn. -/
def KSU_SLOT_STAT_PARENT (n : Nat) : Fld := ⟨0x40090404 + 8 * n, 24, 8⟩
def KSU_SLOT_STAT_ORPHAN (n : Nat) : Fld := ⟨0x40090404 + 8 * n, 23, 1⟩
def KSU_SLOT_STAT_BUSY (n : Nat) : Fld := ⟨0x40090404 + 8 * n, 22, 1⟩
def KSU_SLOT_STAT_DEPTH (n : Nat) : Fld := ⟨0x40090404 + 8 * n, 19, 3⟩
def KSU_SLOT_STAT_USES (n : Nat) : Fld := ⟨0x40090404 + 8 * n, 0, 16⟩
/-! KSU_TENn_CFG (tenant slot quota): Offset 0xC00 + 4 × n for n = 0 to 63. -/
def KSU_TEN_CFG_QUOTA (n : Nat) : Fld := ⟨0x40090C00 + 4 * n, 0, 8⟩
/-! KSU_IBUF (operand buffers): Offsets 0x1000 to 0x17FF (KSU_IBUF) and 0x1800 to 0x1FFF (KSU_OBUF). -/
def KSU_IBUF_W (n : Nat) : Fld := ⟨0x40091000 + 4 * n, 0, 32⟩
/-! KSU_OBUF (operand buffers): Offsets 0x1000 to 0x17FF (KSU_IBUF) and 0x1800 to 0x1FFF (KSU_OBUF). -/
def KSU_OBUF_W (n : Nat) : Fld := ⟨0x40091800 + 4 * n, 0, 32⟩

/-- The rows of block KSU (R374). -/
def rowsKsu0 : List RegRow := [
  ⟨0x40090000, [], [⟨29, 3, .ro⟩, ⟨27, 2, .ro⟩, ⟨26, 1, .ro⟩, ⟨25, 1, .ro⟩, ⟨16, 9, .ro⟩, ⟨8, 8, .ro⟩]⟩,
  ⟨0x40090004, [], [⟨5, 1, .w1c⟩, ⟨4, 1, .w1c⟩, ⟨3, 1, .w1c⟩, ⟨2, 1, .w1c⟩, ⟨1, 1, .w1c⟩, ⟨0, 1, .w1c⟩]⟩,
  ⟨0x40090008, [], [⟨27, 5, .wo⟩, ⟨20, 6, .wo⟩, ⟨8, 8, .wo⟩, ⟨0, 8, .wo⟩]⟩,
  ⟨0x4009000C, [], [⟨0, 32, .rw⟩]⟩,
  ⟨0x40090010, [], [⟨16, 12, .rw⟩, ⟨0, 12, .rw⟩]⟩,
  ⟨0x40090014, [], [⟨31, 1, .ro⟩, ⟨30, 1, .ro⟩, ⟨16, 12, .ro⟩, ⟨0, 16, .ro⟩]⟩,
  ⟨0x40090018, [], [⟨12, 20, .ro⟩, ⟨0, 12, .ro⟩]⟩,
  ⟨0x4009001C, [], [⟨16, 16, .rc⟩, ⟨8, 8, .rc⟩, ⟨0, 8, .rc⟩]⟩,
  ⟨0x40090020, [], [⟨31, 1, .ro⟩, ⟨30, 1, .ro⟩, ⟨29, 1, .ro⟩]⟩,
  ⟨0x40090024, [], [⟨0, 32, .ro⟩]⟩,
  ⟨0x40090028, [], [⟨0, 32, .ro⟩]⟩,
  ⟨0x40090400, [(8, 256)], [⟨0, 32, .ro⟩]⟩]
def rowsKsu1 : List RegRow := [
  ⟨0x40090404, [(8, 256)], [⟨24, 8, .ro⟩, ⟨23, 1, .ro⟩, ⟨22, 1, .ro⟩, ⟨19, 3, .ro⟩, ⟨0, 16, .ro⟩]⟩,
  ⟨0x40090C00, [(4, 64)], [⟨0, 8, .rw⟩]⟩,
  ⟨0x40091000, [(4, 512)], [⟨0, 32, .rw⟩]⟩,
  ⟨0x40091800, [(4, 512)], [⟨0, 32, .ro⟩]⟩]
def rowsKsu : List RegRow := rowsKsu0 ++ rowsKsu1

end Sys2Proof.Machine
end

