-- ==== Sys2Proof/Machine/RegLtu.lean ====
section
/-! DEFINITION. The register fields of block LTU: address, lowest bit and width of each, as the register
tables of spec/02_line_time.md (R67) give them, and the rows of the block for access by address. -/

namespace Sys2Proof.Machine

/-! LTU_CFG (line-time configuration): Offset 0x000. -/
def LTU_CFG_PJ_LIM : Fld := ⟨0x40000000, 24, 4⟩
def LTU_CFG_BW : Fld := ⟨0x40000000, 22, 2⟩
def LTU_CFG_VSRC : Fld := ⟨0x40000000, 21, 1⟩
def LTU_CFG_NOM : Fld := ⟨0x40000000, 20, 1⟩
def LTU_CFG_REF : Fld := ⟨0x40000000, 16, 4⟩
/-! LTU_QUAL (mains qualification): Offset 0x004. -/
def LTU_QUAL_QUAL_N : Fld := ⟨0x40000004, 16, 6⟩
def LTU_QUAL_VMIN : Fld := ⟨0x40000004, 0, 16⟩
/-! LTU_STAT (line-time status): Offset 0x008. -/
def LTU_STAT_LT_VIRT : Fld := ⟨0x40000008, 31, 1⟩
def LTU_STAT_SITE_OK : Fld := ⟨0x40000008, 30, 1⟩
def LTU_STAT_STATE : Fld := ⟨0x40000008, 27, 3⟩
def LTU_STAT_CK_LOST : Fld := ⟨0x40000008, 26, 1⟩
def LTU_STAT_SLEW_DIR : Fld := ⟨0x40000008, 25, 1⟩
def LTU_STAT_SLEW_REM : Fld := ⟨0x40000008, 0, 16⟩
/-! LTU_EVT (line-time events): Offset 0x00C. -/
def LTU_EVT_CKPT : Fld := ⟨0x4000000C, 7, 1⟩
def LTU_EVT_ISSUE_LATE : Fld := ⟨0x4000000C, 6, 1⟩
def LTU_EVT_SITE_JUMP : Fld := ⟨0x4000000C, 5, 1⟩
def LTU_EVT_SITE_LOSS : Fld := ⟨0x4000000C, 4, 1⟩
def LTU_EVT_SITE_GAIN : Fld := ⟨0x4000000C, 3, 1⟩
def LTU_EVT_PHASE_JUMP : Fld := ⟨0x4000000C, 2, 1⟩
def LTU_EVT_LOSS : Fld := ⟨0x4000000C, 1, 1⟩
def LTU_EVT_LOCK : Fld := ⟨0x4000000C, 0, 1⟩
/-! LTU_NOW_LO (present line time, low word): Offset 0x010. -/
def LTU_NOW_LO_C_LO : Fld := ⟨0x40000010, 16, 16⟩
def LTU_NOW_LO_A : Fld := ⟨0x40000010, 0, 16⟩
/-! LTU_NOW_HI (present line time, high word): Offset 0x014. -/
def LTU_NOW_HI_C_HI : Fld := ⟨0x40000014, 0, 24⟩
/-! LTU_FREQ (measured line frequency): Offset 0x018. -/
def LTU_FREQ_FREQ : Fld := ⟨0x40000018, 0, 17⟩
/-! LTU_PHERR (phase error): Offset 0x01C. -/
def LTU_PHERR_E : Fld := ⟨0x4000001C, 0, 16⟩
/-! LTU_CKPT (cycle checkpoint): Offset 0x020. -/
def LTU_CKPT_CKPT : Fld := ⟨0x40000020, 0, 24⟩
/-! LTU_CMD (line-time commands): Offset 0x024. -/
def LTU_CMD_CMD : Fld := ⟨0x40000024, 28, 4⟩
def LTU_CMD_ARG : Fld := ⟨0x40000024, 0, 24⟩
/-! LTU_SITE_CFG (site alignment configuration): Offset 0x040. -/
def LTU_SITE_CFG_EN : Fld := ⟨0x40000040, 31, 1⟩
def LTU_SITE_CFG_RANK : Fld := ⟨0x40000040, 24, 4⟩
def LTU_SITE_CFG_ANN_INT : Fld := ⟨0x40000040, 16, 3⟩
def LTU_SITE_CFG_TMO : Fld := ⟨0x40000040, 8, 8⟩
/-! LTU_SITE_STAT (site alignment status): Offset 0x044. -/
def LTU_SITE_STAT_ROLE : Fld := ⟨0x40000044, 30, 2⟩
def LTU_SITE_STAT_MRANK : Fld := ⟨0x40000044, 12, 4⟩
def LTU_SITE_STAT_MADDR : Fld := ⟨0x40000044, 0, 12⟩
/-! LTU_SOFS_LO (site offset, low word): Offset 0x048. -/
def LTU_SOFS_LO_OFS_LO : Fld := ⟨0x40000048, 0, 32⟩
/-! LTU_SOFS_HI (site offset, high word): Offset 0x04C. -/
def LTU_SOFS_HI_OFS_HI : Fld := ⟨0x4000004C, 0, 24⟩
/-! LTU_SCHED (scheduler control): Offset 0x060. -/
def LTU_SCHED_EN : Fld := ⟨0x40000060, 31, 1⟩
def LTU_SCHED_BANK : Fld := ⟨0x40000060, 30, 1⟩
def LTU_SCHED_SWAP_PEND : Fld := ⟨0x40000060, 29, 1⟩
def LTU_SCHED_SWO_ARM : Fld := ⟨0x40000060, 28, 1⟩
def LTU_SCHED_COUNT : Fld := ⟨0x40000060, 0, 10⟩
/-! LTU_SWAP_LO (swap time, low word): Offset 0x064. -/
def LTU_SWAP_LO_X_LO : Fld := ⟨0x40000064, 0, 32⟩
/-! LTU_SWAP_HI (swap time, high word): Offset 0x068. -/
def LTU_SWAP_HI_X_HI : Fld := ⟨0x40000068, 0, 24⟩
/-! LTU_LATE (issue lateness): Offset 0x06C. -/
def LTU_LATE_MAXLATE : Fld := ⟨0x4000006C, 16, 16⟩
def LTU_LATE_LATE_CNT : Fld := ⟨0x4000006C, 0, 16⟩
/-! LTU_SWO_LO (switch-over time, low word): Offset 0x070. -/
def LTU_SWO_LO_X_LO : Fld := ⟨0x40000070, 0, 32⟩
/-! LTU_SWO_HI (switch-over time, high word): Offset 0x074. -/
def LTU_SWO_HI_CANCEL : Fld := ⟨0x40000074, 31, 1⟩
def LTU_SWO_HI_X_HI : Fld := ⟨0x40000074, 0, 24⟩

/-- The rows of block LTU (R67). -/
def rowsLtu0 : List RegRow := [
  ⟨0x40000000, [], [⟨24, 4, .rw⟩, ⟨22, 2, .rw⟩, ⟨21, 1, .rw⟩, ⟨20, 1, .rw⟩, ⟨16, 4, .rw⟩]⟩,
  ⟨0x40000004, [], [⟨16, 6, .rw⟩, ⟨0, 16, .rw⟩]⟩,
  ⟨0x40000008, [], [⟨31, 1, .ro⟩, ⟨30, 1, .ro⟩, ⟨27, 3, .ro⟩, ⟨26, 1, .ro⟩, ⟨25, 1, .ro⟩, ⟨0, 16, .ro⟩]⟩,
  ⟨0x4000000C, [], [⟨7, 1, .w1c⟩, ⟨6, 1, .w1c⟩, ⟨5, 1, .w1c⟩, ⟨4, 1, .w1c⟩, ⟨3, 1, .w1c⟩, ⟨2, 1, .w1c⟩, ⟨1, 1, .w1c⟩, ⟨0, 1, .w1c⟩]⟩,
  ⟨0x40000010, [], [⟨16, 16, .ro⟩, ⟨0, 16, .ro⟩]⟩,
  ⟨0x40000014, [], [⟨0, 24, .ro⟩]⟩,
  ⟨0x40000018, [], [⟨0, 17, .ro⟩]⟩,
  ⟨0x4000001C, [], [⟨0, 16, .ro⟩]⟩,
  ⟨0x40000020, [], [⟨0, 24, .ro⟩]⟩,
  ⟨0x40000024, [], [⟨28, 4, .wo⟩, ⟨0, 24, .wo⟩]⟩,
  ⟨0x40000040, [], [⟨31, 1, .rw⟩, ⟨24, 4, .rw⟩, ⟨16, 3, .rw⟩, ⟨8, 8, .rw⟩]⟩,
  ⟨0x40000044, [], [⟨30, 2, .ro⟩, ⟨12, 4, .ro⟩, ⟨0, 12, .ro⟩]⟩]
def rowsLtu1 : List RegRow := [
  ⟨0x40000048, [], [⟨0, 32, .ro⟩]⟩,
  ⟨0x4000004C, [], [⟨0, 24, .ro⟩]⟩,
  ⟨0x40000060, [], [⟨31, 1, .rw⟩, ⟨30, 1, .ro⟩, ⟨29, 1, .ro⟩, ⟨28, 1, .ro⟩, ⟨0, 10, .ro⟩]⟩,
  ⟨0x40000064, [], [⟨0, 32, .rw⟩]⟩,
  ⟨0x40000068, [], [⟨0, 24, .rw⟩]⟩,
  ⟨0x4000006C, [], [⟨16, 16, .rc⟩, ⟨0, 16, .rc⟩]⟩,
  ⟨0x40000070, [], [⟨0, 32, .rw⟩]⟩,
  ⟨0x40000074, [], [⟨31, 1, .wo⟩, ⟨0, 24, .rw⟩]⟩]
def rowsLtu : List RegRow := rowsLtu0 ++ rowsLtu1

end Sys2Proof.Machine
end

