-- ==== Sys2Proof/Machine/RegMill.lean ====
section
/-! DEFINITION. The register fields of block MILL: address, lowest bit and width of each, as the register
tables of spec/16_host_port_mill_crossings.md (R461) give them, and the rows of the block for access by address. -/

namespace Sys2Proof.Machine

/-! MILL_STAT (Mill status): Offset 0x000. -/
def MILL_STAT_BUSY : Fld := ⟨0x400F0000, 31, 1⟩
def MILL_STAT_ACT : Fld := ⟨0x400F0000, 16, 4⟩
def MILL_STAT_PEND : Fld := ⟨0x400F0000, 0, 16⟩
/-! MILL_EVT (Mill events): Offset 0x004. -/
def MILL_EVT_ERR : Fld := ⟨0x400F0004, 16, 16⟩
def MILL_EVT_DONE : Fld := ⟨0x400F0004, 0, 16⟩
/-! MILL_CHn_CFG (channel configuration): Offset 0x100 + 0x20 × n for n = 0 to 15. -/
def MILL_CH_CFG_EN (n : Nat) : Fld := ⟨0x400F0100 + 32 * n, 31, 1⟩
def MILL_CH_CFG_TEN (n : Nat) : Fld := ⟨0x400F0100 + 32 * n, 0, 6⟩
/-! MILL_CHn_START (chain start): Offset 0x104 + 0x20 × n. -/
def MILL_CH_START_DESC (n : Nat) : Fld := ⟨0x400F0104 + 32 * n, 5, 27⟩
/-! MILL_CHn_STAT (channel status): Offset 0x108 + 0x20 × n. -/
def MILL_CH_STAT_STATE (n : Nat) : Fld := ⟨0x400F0108 + 32 * n, 30, 2⟩
def MILL_CH_STAT_CODE (n : Nat) : Fld := ⟨0x400F0108 + 32 * n, 0, 16⟩
/-! MILL_CHn_CUR (current descriptor): Offset 0x10C + 0x20 × n. -/
def MILL_CH_CUR_ADDR (n : Nat) : Fld := ⟨0x400F010C + 32 * n, 0, 32⟩
/-! MILL_CHn_CNT (remaining count): Offset 0x110 + 0x20 × n. -/
def MILL_CH_CNT_CNT (n : Nat) : Fld := ⟨0x400F0110 + 32 * n, 0, 24⟩
/-! MILL_CHn_BYTES (bytes moved): Offset 0x114 + 0x20 × n. -/
def MILL_CH_BYTES_BYTES (n : Nat) : Fld := ⟨0x400F0114 + 32 * n, 0, 32⟩

/-- The rows of block MILL (R461). -/
def rowsMill0 : List RegRow := [
  ⟨0x400F0000, [], [⟨31, 1, .ro⟩, ⟨16, 4, .ro⟩, ⟨0, 16, .ro⟩]⟩,
  ⟨0x400F0004, [], [⟨16, 16, .w1c⟩, ⟨0, 16, .w1c⟩]⟩,
  ⟨0x400F0100, [(32, 16)], [⟨31, 1, .rw⟩, ⟨0, 6, .rw⟩]⟩,
  ⟨0x400F0104, [(32, 16)], [⟨5, 27, .wo⟩]⟩,
  ⟨0x400F0108, [(32, 16)], [⟨30, 2, .ro⟩, ⟨0, 16, .ro⟩]⟩,
  ⟨0x400F010C, [(32, 16)], [⟨0, 32, .ro⟩]⟩,
  ⟨0x400F0110, [(32, 16)], [⟨0, 24, .ro⟩]⟩,
  ⟨0x400F0114, [(32, 16)], [⟨0, 32, .ro⟩]⟩]
def rowsMill : List RegRow := rowsMill0

end Sys2Proof.Machine
end

