-- ==== Sys2Proof/Machine/RegMtr.lean ====
section
/-! DEFINITION. The register fields of block MTR: address, lowest bit and width of each, as the register
tables of spec/07_metering.md (R232) give them, and the rows of the block for access by address. -/

namespace Sys2Proof.Machine

/-! MTR_STAT (engine status): Offset 0x000. -/
def MTR_STAT_DECL_CS : Fld := ⟨0x40040000, 26, 6⟩
def MTR_STAT_DECL_VS : Fld := ⟨0x40040000, 22, 4⟩
def MTR_STAT_RUN : Fld := ⟨0x40040000, 21, 1⟩
def MTR_STAT_CYC : Fld := ⟨0x40040000, 0, 16⟩
/-! MTR_EVT (engine events): Offset 0x004. -/
def MTR_EVT_PRESET : Fld := ⟨0x40040004, 7, 1⟩
def MTR_EVT_ECC : Fld := ⟨0x40040004, 6, 1⟩
def MTR_EVT_REPORT_LOST : Fld := ⟨0x40040004, 5, 1⟩
def MTR_EVT_SIGN_FAIL : Fld := ⟨0x40040004, 4, 1⟩
def MTR_EVT_INT_SAT : Fld := ⟨0x40040004, 3, 1⟩
def MTR_EVT_FAULT : Fld := ⟨0x40040004, 2, 1⟩
def MTR_EVT_CLIP : Fld := ⟨0x40040004, 1, 1⟩
def MTR_EVT_WRAP : Fld := ⟨0x40040004, 0, 1⟩
/-! MTR_CMD (preset request): Offset 0x008. -/
def MTR_CMD_OP : Fld := ⟨0x40040008, 28, 4⟩
def MTR_CMD_K : Fld := ⟨0x40040008, 24, 4⟩
def MTR_CMD_TEN : Fld := ⟨0x40040008, 16, 6⟩
def MTR_CMD_CH : Fld := ⟨0x40040008, 0, 6⟩
/-! MTR_CVAL_LO (preset value, low word): Offset 0x00C. -/
def MTR_CVAL_LO_VAL_LO : Fld := ⟨0x4004000C, 0, 32⟩
/-! MTR_CVAL_HI (preset value, high word): Offset 0x010. -/
def MTR_CVAL_HI_VAL_X : Fld := ⟨0x40040010, 16, 16⟩
def MTR_CVAL_HI_VAL_HI : Fld := ⟨0x40040010, 0, 16⟩
/-! MTR_CRES (preset result): Offset 0x014. -/
def MTR_CRES_DONE : Fld := ⟨0x40040014, 31, 1⟩
def MTR_CRES_CODE : Fld := ⟨0x40040014, 0, 16⟩
/-! MTR_REPQ (report queue): Offset 0x018. -/
def MTR_REPQ_PEND : Fld := ⟨0x40040018, 16, 9⟩
def MTR_REPQ_LOST : Fld := ⟨0x40040018, 0, 16⟩
/-! MTR_CHnn_CFG (current channel configuration): Offset 0x1000 + 0x100 × nn for nn = 0 to 47. -/
def MTR_CH_CFG_EN (n : Nat) : Fld := ⟨0x40041000 + 256 * n, 31, 1⟩
def MTR_CH_CFG_INV (n : Nat) : Fld := ⟨0x40041000 + 256 * n, 30, 1⟩
def MTR_CH_CFG_REP (n : Nat) : Fld := ⟨0x40041000 + 256 * n, 29, 1⟩
def MTR_CH_CFG_TSEL (n : Nat) : Fld := ⟨0x40041000 + 256 * n, 27, 2⟩
def MTR_CH_CFG_AVG (n : Nat) : Fld := ⟨0x40041000 + 256 * n, 24, 3⟩
def MTR_CH_CFG_VCH (n : Nat) : Fld := ⟨0x40041000 + 256 * n, 20, 4⟩
def MTR_CH_CFG_RSLOT (n : Nat) : Fld := ⟨0x40041000 + 256 * n, 8, 8⟩
def MTR_CH_CFG_TENANT (n : Nat) : Fld := ⟨0x40041000 + 256 * n, 0, 6⟩
/-! MTR_CHnn_STAT (current channel status): Offset 0x1004 + 0x100 × nn. -/
def MTR_CH_STAT_FLAGS (n : Nat) : Fld := ⟨0x40041004 + 256 * n, 24, 8⟩
def MTR_CH_STAT_CYC (n : Nat) : Fld := ⟨0x40041004 + 256 * n, 0, 16⟩
/-! MTR_CHnn_N (interval length): Offset 0x1008 + 0x100 × nn. -/
def MTR_CH_N_N (n : Nat) : Fld := ⟨0x40041008 + 256 * n, 0, 16⟩
/-! MTR_CH_LATCH_LO (last latch, low word): Offset 0x100C + 0x100 × nn. -/
def MTR_CH_LATCH_LO_X_LO (n : Nat) : Fld := ⟨0x4004100C + 256 * n, 0, 32⟩
/-! MTR_CH_LATCH_HI (last latch, high word): Offset 0x1010 + 0x100 × nn. -/
def MTR_CH_LATCH_HI_X_HI (n : Nat) : Fld := ⟨0x40041010 + 256 * n, 0, 24⟩
/-! MTR_CHnn_NOLOAD (no-load count): Offset 0x1014 + 0x100 × nn. -/
def MTR_CH_NOLOAD_CNT (n : Nat) : Fld := ⟨0x40041014 + 256 * n, 0, 32⟩
/-! MTR_CHnn_METERED (metered count): Offset 0x1018 + 0x100 × nn. -/
def MTR_CH_METERED_CNT (n : Nat) : Fld := ⟨0x40041018 + 256 * n, 0, 32⟩
/-! MTR_CHnn_TEMP (sensor temperature): Offset 0x101C + 0x100 × nn. -/
def MTR_CH_TEMP_T (n : Nat) : Fld := ⟨0x4004101C + 256 * n, 0, 32⟩
/-! MTR_CH_ACC_LO (cumulative register, low word): Offset 0x1020 + 0x100 × nn + 8 × k for k = 0 to 9. -/
def MTR_CH_ACC_LO_CUM_LO (n k : Nat) : Fld := ⟨0x40041020 + 256 * n + 8 * k, 0, 32⟩
/-! MTR_CH_ACC_HI (cumulative register, high word): Offset 0x1024 + 0x100 × nn + 8 × k for k = 0 to 9. -/
def MTR_CH_ACC_HI_WRAP (n k : Nat) : Fld := ⟨0x40041024 + 256 * n + 8 * k, 24, 8⟩
def MTR_CH_ACC_HI_CUM_HI (n k : Nat) : Fld := ⟨0x40041024 + 256 * n + 8 * k, 0, 16⟩
/-! MTR_CHnn_INTk (interval register): Offset 0x1080 + 0x100 × nn + 4 × k for k = 0 to 9. -/
def MTR_CH_INT_INT (n k : Nat) : Fld := ⟨0x40041080 + 256 * n + 4 * k, 0, 32⟩
/-! MTR_CH_GAIN (compensation in force): Offsets 0x10B0 and 0x10B4 + 0x100 × nn. -/
def MTR_CH_GAIN_VAL (n : Nat) : Fld := ⟨0x400410B0 + 256 * n, 0, 32⟩
/-! MTR_CH_PHASE (compensation in force): Offsets 0x10B0 and 0x10B4 + 0x100 × nn. -/
def MTR_CH_PHASE_VAL (n : Nat) : Fld := ⟨0x400410B4 + 256 * n, 0, 32⟩
/-! MTR_VSk_CFG (voltage channel configuration): Offset 0x4000 + 0x20 × k for k = 0 to 11. -/
def MTR_VS_CFG_EN (k : Nat) : Fld := ⟨0x40044000 + 32 * k, 31, 1⟩
def MTR_VS_CFG_REF (k : Nat) : Fld := ⟨0x40044000 + 32 * k, 30, 1⟩
def MTR_VS_CFG_AVG (k : Nat) : Fld := ⟨0x40044000 + 32 * k, 0, 3⟩
/-! MTR_VSk_STAT (voltage channel status): Offset 0x4004 + 0x20 × k. -/
def MTR_VS_STAT_CLIP (k : Nat) : Fld := ⟨0x40044004 + 32 * k, 31, 1⟩
def MTR_VS_STAT_FAULT (k : Nat) : Fld := ⟨0x40044004 + 32 * k, 30, 1⟩
def MTR_VS_STAT_CYC (k : Nat) : Fld := ⟨0x40044004 + 32 * k, 0, 16⟩
/-! MTR_VSk_RMS (voltage RMS): Offset 0x4008 + 0x20 × k. -/
def MTR_VS_RMS_VRMS (k : Nat) : Fld := ⟨0x40044008 + 32 * k, 0, 32⟩
/-! MTR_VSk_FREQ (voltage frequency): Offset 0x400C + 0x20 × k. -/
def MTR_VS_FREQ_F (k : Nat) : Fld := ⟨0x4004400C + 32 * k, 0, 32⟩

/-- The rows of block MTR (R232). -/
def rowsMtr0 : List RegRow := [
  ⟨0x40040000, [], [⟨26, 6, .ro⟩, ⟨22, 4, .ro⟩, ⟨21, 1, .ro⟩, ⟨0, 16, .ro⟩]⟩,
  ⟨0x40040004, [], [⟨7, 1, .w1c⟩, ⟨6, 1, .w1c⟩, ⟨5, 1, .w1c⟩, ⟨4, 1, .w1c⟩, ⟨3, 1, .w1c⟩, ⟨2, 1, .w1c⟩, ⟨1, 1, .w1c⟩, ⟨0, 1, .w1c⟩]⟩,
  ⟨0x40040008, [], [⟨28, 4, .wo⟩, ⟨24, 4, .wo⟩, ⟨16, 6, .wo⟩, ⟨0, 6, .wo⟩]⟩,
  ⟨0x4004000C, [], [⟨0, 32, .rw⟩]⟩,
  ⟨0x40040010, [], [⟨16, 16, .rw⟩, ⟨0, 16, .rw⟩]⟩,
  ⟨0x40040014, [], [⟨31, 1, .ro⟩, ⟨0, 16, .ro⟩]⟩,
  ⟨0x40040018, [], [⟨16, 9, .ro⟩, ⟨0, 16, .rc⟩]⟩,
  ⟨0x40041000, [(256, 48)], [⟨31, 1, .ro⟩, ⟨30, 1, .ro⟩, ⟨29, 1, .ro⟩, ⟨27, 2, .ro⟩, ⟨24, 3, .ro⟩, ⟨20, 4, .ro⟩, ⟨8, 8, .ro⟩, ⟨0, 6, .ro⟩]⟩,
  ⟨0x40041004, [(256, 48)], [⟨24, 8, .ro⟩, ⟨0, 16, .ro⟩]⟩,
  ⟨0x40041008, [(256, 48)], [⟨0, 16, .ro⟩]⟩,
  ⟨0x4004100C, [(256, 48)], [⟨0, 32, .ro⟩]⟩,
  ⟨0x40041010, [(256, 48)], [⟨0, 24, .ro⟩]⟩]
def rowsMtr1 : List RegRow := [
  ⟨0x40041014, [(256, 48)], [⟨0, 32, .ro⟩]⟩,
  ⟨0x40041018, [(256, 48)], [⟨0, 32, .ro⟩]⟩,
  ⟨0x4004101C, [(256, 48)], [⟨0, 32, .ro⟩]⟩,
  ⟨0x40041020, [(256, 48), (8, 10)], [⟨0, 32, .ro⟩]⟩,
  ⟨0x40041024, [(256, 48), (8, 10)], [⟨24, 8, .ro⟩, ⟨0, 16, .ro⟩]⟩,
  ⟨0x40041080, [(256, 48), (4, 10)], [⟨0, 32, .ro⟩]⟩,
  ⟨0x400410B0, [(256, 48)], [⟨0, 32, .ro⟩]⟩,
  ⟨0x400410B4, [(256, 48)], [⟨0, 32, .ro⟩]⟩,
  ⟨0x40044000, [(32, 12)], [⟨31, 1, .ro⟩, ⟨30, 1, .ro⟩, ⟨0, 3, .ro⟩]⟩,
  ⟨0x40044004, [(32, 12)], [⟨31, 1, .ro⟩, ⟨30, 1, .ro⟩, ⟨0, 16, .ro⟩]⟩,
  ⟨0x40044008, [(32, 12)], [⟨0, 32, .ro⟩]⟩,
  ⟨0x4004400C, [(32, 12)], [⟨0, 32, .ro⟩]⟩]
def rowsMtr : List RegRow := rowsMtr0 ++ rowsMtr1

end Sys2Proof.Machine
end

