-- ==== Sys2Proof/Machine/RegNet.lean ====
section
/-! DEFINITION. The register fields of block NET: address, lowest bit and width of each, as the register
tables of spec/10_site_network.md (R324) give them, and the rows of the block for access by address. -/

namespace Sys2Proof.Machine

/-! NET_STAT (network status): Offset 0x000. -/
def NET_STAT_RING : Fld := ⟨0x40070000, 30, 2⟩
def NET_STAT_PTP_SYNC : Fld := ⟨0x40070000, 29, 1⟩
def NET_STAT_PAIR_ANS : Fld := ⟨0x40070000, 28, 1⟩
def NET_STAT_SUBS : Fld := ⟨0x40070000, 16, 12⟩
def NET_STAT_PUBS : Fld := ⟨0x40070000, 0, 12⟩
/-! NET_EVT (network events): Offset 0x004. -/
def NET_EVT_SHIFT : Fld := ⟨0x40070004, 7, 1⟩
def NET_EVT_SUB : Fld := ⟨0x40070004, 6, 1⟩
def NET_EVT_REPLAY : Fld := ⟨0x40070004, 5, 1⟩
def NET_EVT_AUTH : Fld := ⟨0x40070004, 4, 1⟩
def NET_EVT_PTP : Fld := ⟨0x40070004, 3, 1⟩
def NET_EVT_RING : Fld := ⟨0x40070004, 2, 1⟩
def NET_EVT_LINK : Fld := ⟨0x40070004, 1, 1⟩
def NET_EVT_DESC_ERR : Fld := ⟨0x40070004, 0, 1⟩
/-! NET_CFG (network configuration): Offset 0x008. -/
def NET_CFG_EN : Fld := ⟨0x40070008, 31, 1⟩
def NET_CFG_RXDEF : Fld := ⟨0x40070008, 16, 4⟩
def NET_CFG_MAXF : Fld := ⟨0x40070008, 0, 14⟩
/-! NET_ADDR (UPT addresses): Offset 0x00C. -/
def NET_ADDR_PEN : Fld := ⟨0x4007000C, 31, 1⟩
def NET_ADDR_PADDR : Fld := ⟨0x4007000C, 16, 12⟩
def NET_ADDR_MADDR : Fld := ⟨0x4007000C, 0, 12⟩
/-! NET_UPT_CFG (UPT transport): Offset 0x010. -/
def NET_UPT_CFG_UDP_PORT : Fld := ⟨0x40070010, 16, 16⟩
def NET_UPT_CFG_ETYPE : Fld := ⟨0x40070010, 0, 16⟩
/-! NET_IPV4 (IPv4 address): Offset 0x014. -/
def NET_IPV4_ADDR : Fld := ⟨0x40070014, 0, 32⟩
/-! NET_UPT_CNT_A (discarded UPT frames): Offset 0x018. -/
def NET_UPT_CNT_A_AUTH : Fld := ⟨0x40070018, 24, 8⟩
def NET_UPT_CNT_A_REPLAY : Fld := ⟨0x40070018, 16, 8⟩
def NET_UPT_CNT_A_LENERR : Fld := ⟨0x40070018, 8, 8⟩
def NET_UPT_CNT_A_NOTMINE : Fld := ⟨0x40070018, 0, 8⟩
/-! NET_UPT_CNT_B (UPT refusals): Offset 0x01C. -/
def NET_UPT_CNT_B_TENANT : Fld := ⟨0x4007001C, 24, 8⟩
def NET_UPT_CNT_B_RPL_FULL : Fld := ⟨0x4007001C, 16, 8⟩
def NET_UPT_CNT_B_BUSY : Fld := ⟨0x4007001C, 0, 16⟩
/-! NET_MAC_LO (module MAC address): Offsets 0x020 and 0x024. -/
def NET_MAC_LO_MAC : Fld := ⟨0x40070020, 0, 32⟩
/-! NET_MAC_HI (module MAC address): Offsets 0x020 and 0x024. -/
def NET_MAC_HI_MAC : Fld := ⟨0x40070024, 0, 32⟩
/-! NET_RING_CFG (ring role): Offset 0x040. -/
def NET_RING_CFG_MODE : Fld := ⟨0x40070040, 30, 2⟩
/-! NET_RING_STAT (ring status): Offset 0x044. -/
def NET_RING_STAT_STATE : Fld := ⟨0x40070044, 30, 2⟩
def NET_RING_STAT_BLOCKED : Fld := ⟨0x40070044, 29, 1⟩
def NET_RING_STAT_OPENS : Fld := ⟨0x40070044, 8, 8⟩
def NET_RING_STAT_LOOP : Fld := ⟨0x40070044, 0, 8⟩
/-! NET_PTP_CFG (PTP configuration): Offset 0x060. -/
def NET_PTP_CFG_EN : Fld := ⟨0x40070060, 31, 1⟩
def NET_PTP_CFG_BC : Fld := ⟨0x40070060, 30, 1⟩
def NET_PTP_CFG_P2P : Fld := ⟨0x40070060, 29, 1⟩
def NET_PTP_CFG_ONESTEP : Fld := ⟨0x40070060, 28, 1⟩
def NET_PTP_CFG_SLAVEONLY : Fld := ⟨0x40070060, 27, 1⟩
def NET_PTP_CFG_DOMAIN : Fld := ⟨0x40070060, 16, 8⟩
def NET_PTP_CFG_PRIO1 : Fld := ⟨0x40070060, 8, 8⟩
def NET_PTP_CFG_PRIO2 : Fld := ⟨0x40070060, 0, 8⟩
/-! NET_PTP_STAT (PTP status): Offset 0x064. -/
def NET_PTP_STAT_SYNC : Fld := ⟨0x40070064, 31, 1⟩
def NET_PTP_STAT_P0STATE : Fld := ⟨0x40070064, 27, 4⟩
def NET_PTP_STAT_P1STATE : Fld := ⟨0x40070064, 23, 4⟩
/-! NET_PTP_OFS (offset from master): Offset 0x068. -/
def NET_PTP_OFS_OFS : Fld := ⟨0x40070068, 0, 32⟩
/-! NET_Pp_CFG (port configuration): Offset 0x100 + 0x40 × p for p = 0 (ETH0) and 1 (ETH1). -/
def NET_P_CFG_DS_EN (p : Nat) : Fld := ⟨0x40070100 + 64 * p, 31, 1⟩
def NET_P_CFG_EEE_EN (p : Nat) : Fld := ⟨0x40070100 + 64 * p, 30, 1⟩
def NET_P_CFG_DS_WIN (p : Nat) : Fld := ⟨0x40070100 + 64 * p, 16, 8⟩
def NET_P_CFG_LPI_T (p : Nat) : Fld := ⟨0x40070100 + 64 * p, 8, 8⟩
def NET_P_CFG_ADV (p : Nat) : Fld := ⟨0x40070100 + 64 * p, 0, 3⟩
/-! NET_Pp_STAT (port status): Offset 0x104 + 0x40 × p. -/
def NET_P_STAT_LINK (p : Nat) : Fld := ⟨0x40070104 + 64 * p, 31, 1⟩
def NET_P_STAT_SPEED (p : Nat) : Fld := ⟨0x40070104 + 64 * p, 29, 2⟩
def NET_P_STAT_LPI (p : Nat) : Fld := ⟨0x40070104 + 64 * p, 28, 1⟩
def NET_P_STAT_DS (p : Nat) : Fld := ⟨0x40070104 + 64 * p, 27, 1⟩
def NET_P_STAT_NEG_FAIL (p : Nat) : Fld := ⟨0x40070104 + 64 * p, 26, 1⟩
/-! NET_Pp_RXERR (receive errors): Offset 0x108 + 0x40 × p. -/
def NET_P_RXERR_RUNT (p : Nat) : Fld := ⟨0x40070108 + 64 * p, 24, 8⟩
def NET_P_RXERR_OVERSIZE (p : Nat) : Fld := ⟨0x40070108 + 64 * p, 16, 8⟩
def NET_P_RXERR_FCS (p : Nat) : Fld := ⟨0x40070108 + 64 * p, 8, 8⟩
def NET_P_RXERR_PAUSE (p : Nat) : Fld := ⟨0x40070108 + 64 * p, 0, 8⟩
/-! NET_Pp_TXERR (transmit errors): Offset 0x10C + 0x40 × p. -/
def NET_P_TXERR_TRANSIT (p : Nat) : Fld := ⟨0x4007010C + 64 * p, 16, 16⟩
def NET_P_TXERR_DESC_ERR (p : Nat) : Fld := ⟨0x4007010C + 64 * p, 0, 16⟩
/-! NET_P_RXCNT (frame counts): Offsets 0x110 and 0x114 + 0x40 × p. -/
def NET_P_RXCNT_CNT (p : Nat) : Fld := ⟨0x40070110 + 64 * p, 0, 32⟩
/-! NET_P_TXCNT (frame counts): Offsets 0x110 and 0x114 + 0x40 × p. -/
def NET_P_TXCNT_CNT (p : Nat) : Fld := ⟨0x40070114 + 64 * p, 0, 32⟩
/-! NET_Pp_TXQq (transmit queue statistics): Offset 0x200 + 0x40 × p + 4 × q for q = 0 to 7. -/
def NET_P_TXQ_DROPS (p q : Nat) : Fld := ⟨0x40070200 + 64 * p + 4 * q, 24, 8⟩
def NET_P_TXQ_STARVED (p q : Nat) : Fld := ⟨0x40070200 + 64 * p + 4 * q, 16, 8⟩
def NET_P_TXQ_WAITMAX (p q : Nat) : Fld := ⟨0x40070200 + 64 * p + 4 * q, 0, 16⟩
/-! NET_RXQq_CFG (receive queue): Offset 0x300 + 4 × q for q = 0 to 7. -/
def NET_RXQ_CFG_CONS (q : Nat) : Fld := ⟨0x40070300 + 4 * q, 30, 2⟩
def NET_RXQ_CFG_DROP (q : Nat) : Fld := ⟨0x40070300 + 4 * q, 0, 16⟩
/-! NET_RULE_A (receive rule, match and action): Offset 0x800 + 8 × n for n = 0 to 63. -/
def NET_RULE_A_EN (n : Nat) : Fld := ⟨0x40070800 + 8 * n, 31, 1⟩
def NET_RULE_A_MVID (n : Nat) : Fld := ⟨0x40070800 + 8 * n, 30, 1⟩
def NET_RULE_A_MPCP (n : Nat) : Fld := ⟨0x40070800 + 8 * n, 29, 1⟩
def NET_RULE_A_MET (n : Nat) : Fld := ⟨0x40070800 + 8 * n, 28, 1⟩
def NET_RULE_A_VID (n : Nat) : Fld := ⟨0x40070800 + 8 * n, 16, 12⟩
def NET_RULE_A_PCP (n : Nat) : Fld := ⟨0x40070800 + 8 * n, 13, 3⟩
def NET_RULE_A_DROP (n : Nat) : Fld := ⟨0x40070800 + 8 * n, 11, 1⟩
def NET_RULE_A_RXQ (n : Nat) : Fld := ⟨0x40070800 + 8 * n, 8, 3⟩
def NET_RULE_A_TENCHK (n : Nat) : Fld := ⟨0x40070800 + 8 * n, 7, 1⟩
def NET_RULE_A_TEN (n : Nat) : Fld := ⟨0x40070800 + 8 * n, 0, 6⟩
/-! NET_RULE_B (receive rule, EtherType and hits): Offset 0x804 + 8 × n. -/
def NET_RULE_B_ETYPE (n : Nat) : Fld := ⟨0x40070804 + 8 * n, 16, 16⟩
def NET_RULE_B_HITS (n : Nat) : Fld := ⟨0x40070804 + 8 * n, 0, 16⟩
/-! NET_KEYn (key binding): Offset 0xA00 + 4 × n for n = 0 to 127. -/
def NET_KEY_EN (n : Nat) : Fld := ⟨0x40070A00 + 4 * n, 31, 1⟩
def NET_KEY_VALID (n : Nat) : Fld := ⟨0x40070A00 + 4 * n, 30, 1⟩
def NET_KEY_TEN (n : Nat) : Fld := ⟨0x40070A00 + 4 * n, 8, 6⟩
def NET_KEY_SLOT (n : Nat) : Fld := ⟨0x40070A00 + 4 * n, 0, 8⟩
/-! NET_TENn (tenant network settings): Offset 0xC00 + 4 × n for n = 0 to 63. -/
def NET_TEN_TAG (n : Nat) : Fld := ⟨0x40070C00 + 4 * n, 31, 1⟩
def NET_TEN_VID (n : Nat) : Fld := ⟨0x40070C00 + 4 * n, 16, 12⟩
def NET_TEN_RATE (n : Nat) : Fld := ⟨0x40070C00 + 4 * n, 0, 16⟩
/-! NET_SUBn_STAT (subscription status): Offset 0x2000 + 4 × n for n = 0 to 2,047. -/
def NET_SUB_STAT_STATE (n : Nat) : Fld := ⟨0x40072000 + 4 * n, 29, 3⟩
def NET_SUB_STAT_LASTCODE (n : Nat) : Fld := ⟨0x40072000 + 4 * n, 0, 16⟩

/-- The rows of block NET (R324). -/
def rowsNet0 : List RegRow := [
  ⟨0x40070000, [], [⟨30, 2, .ro⟩, ⟨29, 1, .ro⟩, ⟨28, 1, .ro⟩, ⟨16, 12, .ro⟩, ⟨0, 12, .ro⟩]⟩,
  ⟨0x40070004, [], [⟨7, 1, .w1c⟩, ⟨6, 1, .w1c⟩, ⟨5, 1, .w1c⟩, ⟨4, 1, .w1c⟩, ⟨3, 1, .w1c⟩, ⟨2, 1, .w1c⟩, ⟨1, 1, .w1c⟩, ⟨0, 1, .w1c⟩]⟩,
  ⟨0x40070008, [], [⟨31, 1, .rw⟩, ⟨16, 4, .rw⟩, ⟨0, 14, .rw⟩]⟩,
  ⟨0x4007000C, [], [⟨31, 1, .rw⟩, ⟨16, 12, .rw⟩, ⟨0, 12, .rw⟩]⟩,
  ⟨0x40070010, [], [⟨16, 16, .rw⟩, ⟨0, 16, .rw⟩]⟩,
  ⟨0x40070014, [], [⟨0, 32, .rw⟩]⟩,
  ⟨0x40070018, [], [⟨24, 8, .rc⟩, ⟨16, 8, .rc⟩, ⟨8, 8, .rc⟩, ⟨0, 8, .rc⟩]⟩,
  ⟨0x4007001C, [], [⟨24, 8, .rc⟩, ⟨16, 8, .rc⟩, ⟨0, 16, .rc⟩]⟩,
  ⟨0x40070020, [], [⟨0, 32, .ro⟩]⟩,
  ⟨0x40070024, [], [⟨0, 32, .ro⟩]⟩,
  ⟨0x40070040, [], [⟨30, 2, .rw⟩]⟩,
  ⟨0x40070044, [], [⟨30, 2, .ro⟩, ⟨29, 1, .ro⟩, ⟨8, 8, .rc⟩, ⟨0, 8, .rc⟩]⟩]
def rowsNet1 : List RegRow := [
  ⟨0x40070060, [], [⟨31, 1, .rw⟩, ⟨30, 1, .rw⟩, ⟨29, 1, .rw⟩, ⟨28, 1, .rw⟩, ⟨27, 1, .rw⟩, ⟨16, 8, .rw⟩, ⟨8, 8, .rw⟩, ⟨0, 8, .rw⟩]⟩,
  ⟨0x40070064, [], [⟨31, 1, .ro⟩, ⟨27, 4, .ro⟩, ⟨23, 4, .ro⟩]⟩,
  ⟨0x40070068, [], [⟨0, 32, .ro⟩]⟩,
  ⟨0x40070100, [(64, 2)], [⟨31, 1, .rw⟩, ⟨30, 1, .rw⟩, ⟨16, 8, .rw⟩, ⟨8, 8, .rw⟩, ⟨0, 3, .rw⟩]⟩,
  ⟨0x40070104, [(64, 2)], [⟨31, 1, .ro⟩, ⟨29, 2, .ro⟩, ⟨28, 1, .ro⟩, ⟨27, 1, .ro⟩, ⟨26, 1, .ro⟩]⟩,
  ⟨0x40070108, [(64, 2)], [⟨24, 8, .rc⟩, ⟨16, 8, .rc⟩, ⟨8, 8, .rc⟩, ⟨0, 8, .rc⟩]⟩,
  ⟨0x4007010C, [(64, 2)], [⟨16, 16, .rc⟩, ⟨0, 16, .rc⟩]⟩,
  ⟨0x40070110, [(64, 2)], [⟨0, 32, .ro⟩]⟩,
  ⟨0x40070114, [(64, 2)], [⟨0, 32, .ro⟩]⟩,
  ⟨0x40070200, [(64, 2), (4, 8)], [⟨24, 8, .rc⟩, ⟨16, 8, .rc⟩, ⟨0, 16, .rc⟩]⟩,
  ⟨0x40070300, [(4, 8)], [⟨30, 2, .rw⟩, ⟨0, 16, .rc⟩]⟩,
  ⟨0x40070800, [(8, 64)], [⟨31, 1, .rw⟩, ⟨30, 1, .rw⟩, ⟨29, 1, .rw⟩, ⟨28, 1, .rw⟩, ⟨16, 12, .rw⟩, ⟨13, 3, .rw⟩, ⟨11, 1, .rw⟩, ⟨8, 3, .rw⟩, ⟨7, 1, .rw⟩, ⟨0, 6, .rw⟩]⟩]
def rowsNet2 : List RegRow := [
  ⟨0x40070804, [(8, 64)], [⟨16, 16, .rw⟩, ⟨0, 16, .rc⟩]⟩,
  ⟨0x40070A00, [(4, 128)], [⟨31, 1, .rw⟩, ⟨30, 1, .ro⟩, ⟨8, 6, .ro⟩, ⟨0, 8, .rw⟩]⟩,
  ⟨0x40070C00, [(4, 64)], [⟨31, 1, .rw⟩, ⟨16, 12, .rw⟩, ⟨0, 16, .rw⟩]⟩,
  ⟨0x40072000, [(4, 2048)], [⟨29, 3, .ro⟩, ⟨0, 16, .ro⟩]⟩]
def rowsNet : List RegRow := rowsNet0 ++ rowsNet1 ++ rowsNet2

end Sys2Proof.Machine
end

