-- ==== Sys2Proof/Machine/RegPdir.lean ====
section
/-! DEFINITION. The register fields of block PDIR: address, lowest bit and width of each, as the register
tables of spec/03_points_and_tenants.md (R92) give them, and the rows of the block for access by address. -/

namespace Sys2Proof.Machine

/-! PDIR_STAT (directory status): Offset 0x000. -/
def PDIR_STAT_DEF_PEND : Fld := ⟨0x40010000, 31, 1⟩
def PDIR_STAT_FORCED : Fld := ⟨0x40010000, 16, 14⟩
def PDIR_STAT_DEFINED : Fld := ⟨0x40010000, 0, 14⟩
/-! PDIR_EVT (directory events): Offset 0x004. -/
def PDIR_EVT_REFUSED : Fld := ⟨0x40010004, 4, 1⟩
def PDIR_EVT_ECC : Fld := ⟨0x40010004, 3, 1⟩
def PDIR_EVT_SWAPPED : Fld := ⟨0x40010004, 2, 1⟩
def PDIR_EVT_FORCE_REL : Fld := ⟨0x40010004, 1, 1⟩
def PDIR_EVT_FORCE_SET : Fld := ⟨0x40010004, 0, 1⟩
/-! PDIR_CNT_HIDDEN (hidden-point refusals): Offset 0x008. -/
def PDIR_CNT_HIDDEN_CNT : Fld := ⟨0x40010008, 0, 32⟩
/-! PDIR_CNT_REFUSED (other refusals): Offset 0x00C. -/
def PDIR_CNT_REFUSED_CNT : Fld := ⟨0x4001000C, 0, 32⟩
/-! PDIR_CNT_BUSY (BUSY results): Offset 0x010. -/
def PDIR_CNT_BUSY_CNT : Fld := ⟨0x40010010, 0, 32⟩
/-! PDIR_LREF_A (last refusal, code): Offset 0x014. -/
def PDIR_LREF_A_TEN : Fld := ⟨0x40010014, 26, 6⟩
def PDIR_LREF_A_PORT : Fld := ⟨0x40010014, 22, 4⟩
def PDIR_LREF_A_CODE : Fld := ⟨0x40010014, 0, 16⟩
/-! PDIR_LREF_B (last refusal, target): Offset 0x018. -/
def PDIR_LREF_B_REASON : Fld := ⟨0x40010018, 24, 8⟩
def PDIR_LREF_B_ELEM : Fld := ⟨0x40010018, 13, 3⟩
def PDIR_LREF_B_HANDLE : Fld := ⟨0x40010018, 0, 13⟩
/-! PDIR_WAIT (longest port waits): Offset 0x01C. -/
def PDIR_WAIT_RT_MAX : Fld := ⟨0x4001001C, 16, 16⟩
def PDIR_WAIT_BG_MAX : Fld := ⟨0x4001001C, 0, 16⟩
/-! PDIR_FCMD (force command): Offset 0x030. -/
def PDIR_FCMD_OP : Fld := ⟨0x40010030, 30, 2⟩
def PDIR_FCMD_TEN : Fld := ⟨0x40010030, 24, 6⟩
def PDIR_FCMD_HANDLE : Fld := ⟨0x40010030, 0, 13⟩
/-! PDIR_FVAL (force value): Offset 0x034. -/
def PDIR_FVAL_VAL : Fld := ⟨0x40010034, 0, 32⟩
/-! PDIR_FRES (force result): Offset 0x038. -/
def PDIR_FRES_DONE : Fld := ⟨0x40010038, 31, 1⟩
def PDIR_FRES_REASON : Fld := ⟨0x40010038, 16, 8⟩
def PDIR_FRES_CODE : Fld := ⟨0x40010038, 0, 16⟩
/-! PDIR_TENn_CFG (tenant configuration): Offset 0x100 + 8 × n for n = 0 to 63. -/
def PDIR_TEN_CFG_EN (n : Nat) : Fld := ⟨0x40010100 + 8 * n, 31, 1⟩
def PDIR_TEN_CFG_QUOTA (n : Nat) : Fld := ⟨0x40010100 + 8 * n, 0, 14⟩
/-! PDIR_TENn_STAT (tenant status): Offset 0x104 + 8 × n for n = 0 to 63. -/
def PDIR_TEN_STAT_FORCED (n : Nat) : Fld := ⟨0x40010104 + 8 * n, 16, 14⟩
def PDIR_TEN_STAT_OWNED (n : Nat) : Fld := ⟨0x40010104 + 8 * n, 0, 14⟩

/-- The rows of block PDIR (R92). -/
def rowsPdir0 : List RegRow := [
  ⟨0x40010000, [], [⟨31, 1, .ro⟩, ⟨16, 14, .ro⟩, ⟨0, 14, .ro⟩]⟩,
  ⟨0x40010004, [], [⟨4, 1, .w1c⟩, ⟨3, 1, .w1c⟩, ⟨2, 1, .w1c⟩, ⟨1, 1, .w1c⟩, ⟨0, 1, .w1c⟩]⟩,
  ⟨0x40010008, [], [⟨0, 32, .rc⟩]⟩,
  ⟨0x4001000C, [], [⟨0, 32, .rc⟩]⟩,
  ⟨0x40010010, [], [⟨0, 32, .rc⟩]⟩,
  ⟨0x40010014, [], [⟨26, 6, .ro⟩, ⟨22, 4, .ro⟩, ⟨0, 16, .ro⟩]⟩,
  ⟨0x40010018, [], [⟨24, 8, .ro⟩, ⟨13, 3, .ro⟩, ⟨0, 13, .ro⟩]⟩,
  ⟨0x4001001C, [], [⟨16, 16, .rc⟩, ⟨0, 16, .rc⟩]⟩,
  ⟨0x40010030, [], [⟨30, 2, .wo⟩, ⟨24, 6, .wo⟩, ⟨0, 13, .wo⟩]⟩,
  ⟨0x40010034, [], [⟨0, 32, .rw⟩]⟩,
  ⟨0x40010038, [], [⟨31, 1, .ro⟩, ⟨16, 8, .ro⟩, ⟨0, 16, .ro⟩]⟩,
  ⟨0x40010100, [(8, 64)], [⟨31, 1, .rw⟩, ⟨0, 14, .rw⟩]⟩]
def rowsPdir1 : List RegRow := [
  ⟨0x40010104, [(8, 64)], [⟨16, 14, .ro⟩, ⟨0, 14, .ro⟩]⟩]
def rowsPdir : List RegRow := rowsPdir0 ++ rowsPdir1

end Sys2Proof.Machine
end

