-- ==== Sys2Proof/Machine/RegPlk.lean ====
section
/-! DEFINITION. The register fields of block PLK: address, lowest bit and width of each, as the register
tables of spec/11_redundant_pair.md (R347) give them, and the rows of the block for access by address. -/

namespace Sys2Proof.Machine

/-! PLK_STAT (pair status): Offset 0x000. -/
def PLK_STAT_ROLE : Fld := ⟨0x40080000, 30, 2⟩
def PLK_STAT_STATE : Fld := ⟨0x40080000, 27, 3⟩
def PLK_STAT_CTRL : Fld := ⟨0x40080000, 26, 1⟩
def PLK_STAT_WATCH : Fld := ⟨0x40080000, 25, 1⟩
def PLK_STAT_LINK : Fld := ⟨0x40080000, 24, 1⟩
def PLK_STAT_TWIN_SYNCED : Fld := ⟨0x40080000, 23, 1⟩
def PLK_STAT_SWO_PEND : Fld := ⟨0x40080000, 22, 1⟩
def PLK_STAT_HOLD_REM : Fld := ⟨0x40080000, 0, 16⟩
/-! PLK_EVT (pair events): Offset 0x004. -/
def PLK_EVT_DUAL : Fld := ⟨0x40080004, 6, 1⟩
def PLK_EVT_MISMATCH : Fld := ⟨0x40080004, 5, 1⟩
def PLK_EVT_SYNC : Fld := ⟨0x40080004, 4, 1⟩
def PLK_EVT_LINK : Fld := ⟨0x40080004, 3, 1⟩
def PLK_EVT_SWITCHOVER : Fld := ⟨0x40080004, 2, 1⟩
def PLK_EVT_RELEASE : Fld := ⟨0x40080004, 1, 1⟩
def PLK_EVT_TAKEOVER : Fld := ⟨0x40080004, 0, 1⟩
/-! PLK_CMD (pair request): Offset 0x008. -/
def PLK_CMD_OP : Fld := ⟨0x40080008, 28, 4⟩
def PLK_CMD_TEN : Fld := ⟨0x40080008, 16, 6⟩
/-! PLK_CRES (request result): Offset 0x00C. -/
def PLK_CRES_DONE : Fld := ⟨0x4008000C, 31, 1⟩
def PLK_CRES_CODE : Fld := ⟨0x4008000C, 0, 16⟩
/-! PLK_CFG (pair parameters): Offset 0x010. -/
def PLK_CFG_COLD : Fld := ⟨0x40080010, 24, 4⟩
def PLK_CFG_HOLDOFF : Fld := ⟨0x40080010, 0, 16⟩
/-! PLK_KEY (link key binding): Offset 0x014. -/
def PLK_KEY_EN : Fld := ⟨0x40080014, 31, 1⟩
def PLK_KEY_VALID : Fld := ⟨0x40080014, 30, 1⟩
def PLK_KEY_SLOT : Fld := ⟨0x40080014, 0, 8⟩
/-! PLK_OFS_LO (pair offset, low word): Offset 0x018. -/
def PLK_OFS_LO_OFS_LO : Fld := ⟨0x40080018, 0, 32⟩
/-! PLK_OFS_HI (pair offset, high word): Offset 0x01C. -/
def PLK_OFS_HI_OFS_HI : Fld := ⟨0x4008001C, 0, 24⟩
/-! PLK_LINK (link errors): Offset 0x020. -/
def PLK_LINK_RETX : Fld := ⟨0x40080020, 16, 16⟩
def PLK_LINK_BADFRM : Fld := ⟨0x40080020, 8, 8⟩
def PLK_LINK_DOWNS : Fld := ⟨0x40080020, 0, 8⟩
/-! PLK_LAG (mirror lag): Offset 0x024. -/
def PLK_LAG_DLAG : Fld := ⟨0x40080024, 16, 16⟩
def PLK_LAG_DLAG_MAX : Fld := ⟨0x40080024, 0, 16⟩
/-! PLK_SWO_LO (last change of control, low word): Offset 0x028. -/
def PLK_SWO_LO_T_LO : Fld := ⟨0x40080028, 0, 32⟩
/-! PLK_SWO_HI (last change of control, high word): Offset 0x02C. -/
def PLK_SWO_HI_T_HI : Fld := ⟨0x4008002C, 0, 24⟩
/-! PLK_SWO_CAUSE (last change of control, cause): Offset 0x030. -/
def PLK_SWO_CAUSE_KIND : Fld := ⟨0x40080030, 28, 4⟩
def PLK_SWO_CAUSE_CAUSE : Fld := ⟨0x40080030, 24, 4⟩
def PLK_SWO_CAUSE_TKO_NS : Fld := ⟨0x40080030, 0, 16⟩
/-! PLK_CNT (control changes): Offset 0x034. -/
def PLK_CNT_TAKEOVER : Fld := ⟨0x40080034, 24, 8⟩
def PLK_CNT_RELEASE : Fld := ⟨0x40080034, 16, 8⟩
def PLK_CNT_PLANNED : Fld := ⟨0x40080034, 8, 8⟩
def PLK_CNT_DUAL : Fld := ⟨0x40080034, 0, 8⟩

/-- The rows of block PLK (R347). -/
def rowsPlk0 : List RegRow := [
  ⟨0x40080000, [], [⟨30, 2, .ro⟩, ⟨27, 3, .ro⟩, ⟨26, 1, .ro⟩, ⟨25, 1, .ro⟩, ⟨24, 1, .ro⟩, ⟨23, 1, .ro⟩, ⟨22, 1, .ro⟩, ⟨0, 16, .ro⟩]⟩,
  ⟨0x40080004, [], [⟨6, 1, .w1c⟩, ⟨5, 1, .w1c⟩, ⟨4, 1, .w1c⟩, ⟨3, 1, .w1c⟩, ⟨2, 1, .w1c⟩, ⟨1, 1, .w1c⟩, ⟨0, 1, .w1c⟩]⟩,
  ⟨0x40080008, [], [⟨28, 4, .wo⟩, ⟨16, 6, .wo⟩]⟩,
  ⟨0x4008000C, [], [⟨31, 1, .ro⟩, ⟨0, 16, .ro⟩]⟩,
  ⟨0x40080010, [], [⟨24, 4, .ro⟩, ⟨0, 16, .ro⟩]⟩,
  ⟨0x40080014, [], [⟨31, 1, .rw⟩, ⟨30, 1, .ro⟩, ⟨0, 8, .rw⟩]⟩,
  ⟨0x40080018, [], [⟨0, 32, .ro⟩]⟩,
  ⟨0x4008001C, [], [⟨0, 24, .ro⟩]⟩,
  ⟨0x40080020, [], [⟨16, 16, .rc⟩, ⟨8, 8, .rc⟩, ⟨0, 8, .rc⟩]⟩,
  ⟨0x40080024, [], [⟨16, 16, .ro⟩, ⟨0, 16, .rc⟩]⟩,
  ⟨0x40080028, [], [⟨0, 32, .ro⟩]⟩,
  ⟨0x4008002C, [], [⟨0, 24, .ro⟩]⟩]
def rowsPlk1 : List RegRow := [
  ⟨0x40080030, [], [⟨28, 4, .ro⟩, ⟨24, 4, .ro⟩, ⟨0, 16, .ro⟩]⟩,
  ⟨0x40080034, [], [⟨24, 8, .rc⟩, ⟨16, 8, .rc⟩, ⟨8, 8, .rc⟩, ⟨0, 8, .rc⟩]⟩]
def rowsPlk : List RegRow := rowsPlk0 ++ rowsPlk1

end Sys2Proof.Machine
end

