-- ==== Sys2Proof/Machine/RegPwr.lean ====
section
/-! DEFINITION. The register fields of block PWR: address, lowest bit and width of each, as the register
tables of spec/15_power_startup_health.md (R438) give them, and the rows of the block for access by address. -/

namespace Sys2Proof.Machine

/-! PWR_STAT (power status): Offset 0x000. -/
def PWR_STAT_LVL : Fld := ⟨0x400C0000, 30, 2⟩
def PWR_STAT_SLEEP : Fld := ⟨0x400C0000, 28, 2⟩
def PWR_STAT_ENTRY : Fld := ⟨0x400C0000, 27, 1⟩
def PWR_STAT_PF : Fld := ⟨0x400C0000, 26, 1⟩
def PWR_STAT_HOLD : Fld := ⟨0x400C0000, 25, 1⟩
def PWR_STAT_FSTEP : Fld := ⟨0x400C0000, 22, 3⟩
def PWR_STAT_VIN : Fld := ⟨0x400C0000, 0, 16⟩
/-! PWR_EVT (power events): Offset 0x004. -/
def PWR_EVT_LEVEL : Fld := ⟨0x400C0004, 3, 1⟩
def PWR_EVT_WAKE : Fld := ⟨0x400C0004, 2, 1⟩
def PWR_EVT_SLEEP : Fld := ⟨0x400C0004, 1, 1⟩
def PWR_EVT_PF : Fld := ⟨0x400C0004, 0, 1⟩
/-! PWR_CMD (power request): Offset 0x008. -/
def PWR_CMD_OP : Fld := ⟨0x400C0008, 28, 4⟩
def PWR_CMD_ARG : Fld := ⟨0x400C0008, 26, 2⟩
def PWR_CMD_TEN : Fld := ⟨0x400C0008, 16, 6⟩
/-! PWR_CRES (request result): Offset 0x00C. -/
def PWR_CRES_DONE : Fld := ⟨0x400C000C, 31, 1⟩
def PWR_CRES_CODE : Fld := ⟨0x400C000C, 0, 16⟩
/-! PWR_CFG (power configuration): Offset 0x010. -/
def PWR_CFG_DEFLVL : Fld := ⟨0x400C0010, 30, 2⟩
def PWR_CFG_LKWAIT : Fld := ⟨0x400C0010, 0, 16⟩
/-! PWR_WAKE_EN (wake sources): Offset 0x014. -/
def PWR_WAKE_EN_EN : Fld := ⟨0x400C0014, 0, 5⟩
/-! PWR_WAKE (wake record): Offset 0x018. -/
def PWR_WAKE_STATE : Fld := ⟨0x400C0018, 30, 2⟩
def PWR_WAKE_DURING : Fld := ⟨0x400C0018, 16, 5⟩
def PWR_WAKE_SRC : Fld := ⟨0x400C0018, 0, 5⟩
/-! PWR_RSTCAUSE (reset cause): Offset 0x01C. -/
def PWR_RSTCAUSE_CAUSE : Fld := ⟨0x400C001C, 0, 4⟩
/-! PWR_FLUSH (last flush): Offset 0x020. -/
def PWR_FLUSH_DUR : Fld := ⟨0x400C0020, 16, 16⟩
def PWR_FLUSH_COUNT : Fld := ⟨0x400C0020, 0, 16⟩

/-- The rows of block PWR (R438). -/
def rowsPwr0 : List RegRow := [
  ⟨0x400C0000, [], [⟨30, 2, .ro⟩, ⟨28, 2, .ro⟩, ⟨27, 1, .ro⟩, ⟨26, 1, .ro⟩, ⟨25, 1, .ro⟩, ⟨22, 3, .ro⟩, ⟨0, 16, .ro⟩]⟩,
  ⟨0x400C0004, [], [⟨3, 1, .w1c⟩, ⟨2, 1, .w1c⟩, ⟨1, 1, .w1c⟩, ⟨0, 1, .w1c⟩]⟩,
  ⟨0x400C0008, [], [⟨28, 4, .wo⟩, ⟨26, 2, .wo⟩, ⟨16, 6, .wo⟩]⟩,
  ⟨0x400C000C, [], [⟨31, 1, .ro⟩, ⟨0, 16, .ro⟩]⟩,
  ⟨0x400C0010, [], [⟨30, 2, .rw⟩, ⟨0, 16, .rw⟩]⟩,
  ⟨0x400C0014, [], [⟨0, 5, .rw⟩]⟩,
  ⟨0x400C0018, [], [⟨30, 2, .ro⟩, ⟨16, 5, .w1c⟩, ⟨0, 5, .w1c⟩]⟩,
  ⟨0x400C001C, [], [⟨0, 4, .ro⟩]⟩,
  ⟨0x400C0020, [], [⟨16, 16, .ro⟩, ⟨0, 16, .ro⟩]⟩]
def rowsPwr : List RegRow := rowsPwr0

end Sys2Proof.Machine
end

