-- ==== Sys2Proof/Machine/RegUpd.lean ====
section
/-! DEFINITION. The register fields of block UPD: address, lowest bit and width of each, as the register
tables of spec/13_field_update.md (R395) give them, and the rows of the block for access by address. -/

namespace Sys2Proof.Machine

/-! UPD_STAT (session status): Offset 0x000. -/
def UPD_STAT_STATE : Fld := ⟨0x40100000, 29, 3⟩
def UPD_STAT_OWNER : Fld := ⟨0x40100000, 27, 2⟩
def UPD_STAT_ACT_SLOT : Fld := ⟨0x40100000, 26, 1⟩
def UPD_STAT_CONF : Fld := ⟨0x40100000, 25, 1⟩
def UPD_STAT_ORDER : Fld := ⟨0x40100000, 20, 5⟩
def UPD_STAT_PROG : Fld := ⟨0x40100000, 0, 10⟩
/-! UPD_EVT (update events): Offset 0x004. -/
def UPD_EVT_LOCK_TIMEOUT : Fld := ⟨0x40100004, 5, 1⟩
def UPD_EVT_FALLBACK : Fld := ⟨0x40100004, 4, 1⟩
def UPD_EVT_CONFIRMED : Fld := ⟨0x40100004, 3, 1⟩
def UPD_EVT_TRIAL : Fld := ⟨0x40100004, 2, 1⟩
def UPD_EVT_COMPONENT : Fld := ⟨0x40100004, 1, 1⟩
def UPD_EVT_VERIFIED : Fld := ⟨0x40100004, 0, 1⟩
/-! UPD_CMD (update command): Offset 0x008. -/
def UPD_CMD_OP : Fld := ⟨0x40100008, 28, 4⟩
def UPD_CMD_SRC : Fld := ⟨0x40100008, 26, 2⟩
def UPD_CMD_TEN : Fld := ⟨0x40100008, 20, 6⟩
def UPD_CMD_POS : Fld := ⟨0x40100008, 0, 15⟩
/-! UPD_ARG (command arguments): Offset 0x00C. -/
def UPD_ARG_CONF : Fld := ⟨0x4010000C, 31, 1⟩
def UPD_ARG_ALONE : Fld := ⟨0x4010000C, 30, 1⟩
def UPD_ARG_W : Fld := ⟨0x4010000C, 0, 16⟩
/-! UPD_RES (command result): Offset 0x010. -/
def UPD_RES_DONE : Fld := ⟨0x40100010, 31, 1⟩
def UPD_RES_REASON : Fld := ⟨0x40100010, 16, 8⟩
def UPD_RES_CODE : Fld := ⟨0x40100010, 0, 16⟩
/-! UPD_RES_DET (result detail): Offset 0x014. -/
def UPD_RES_DET_OWNER : Fld := ⟨0x40100014, 30, 2⟩
def UPD_RES_DET_OSTATE : Fld := ⟨0x40100014, 27, 3⟩
def UPD_RES_DET_DETAIL : Fld := ⟨0x40100014, 0, 16⟩
/-! UPD_BLKCNT (block counts): Offset 0x018. -/
def UPD_BLKCNT_TOTAL : Fld := ⟨0x40100018, 16, 15⟩
def UPD_BLKCNT_RECEIVED : Fld := ⟨0x40100018, 0, 15⟩
/-! UPD_VERk (version in force): Offset 0x040 + 4 × k for k = 1 to 6. -/
def UPD_VER_VER (k : Nat) : Fld := ⟨0x40100040 + 4 * k, 0, 32⟩
/-! UPD_SECVER (security version floor): Offset 0x060. -/
def UPD_SECVER_FLOOR : Fld := ⟨0x40100060, 0, 32⟩
/-! UPD_SLOTs_STAT (update slot status): Offset 0x080 + 8 × s for s = 0 (A) and 1 (B). -/
def UPD_SLOT_STAT_SSTATE (s : Nat) : Fld := ⟨0x40100080 + 8 * s, 29, 3⟩
def UPD_SLOT_STAT_ORDER (s : Nat) : Fld := ⟨0x40100080 + 8 * s, 4, 5⟩
def UPD_SLOT_STAT_CAUSE (s : Nat) : Fld := ⟨0x40100080 + 8 * s, 0, 4⟩
/-! UPD_SLOTs_ID (update slot identity): Offset 0x084 + 8 × s. -/
def UPD_SLOT_ID_IMAGE_ID (s : Nat) : Fld := ⟨0x40100084 + 8 * s, 0, 32⟩
/-! UPD_BLK (block buffer): Offsets 0x1000 to 0x1FFF. -/
def UPD_BLK_W (n : Nat) : Fld := ⟨0x40101000 + 4 * n, 0, 32⟩

/-- The rows of block UPD (R395). -/
def rowsUpd0 : List RegRow := [
  ⟨0x40100000, [], [⟨29, 3, .ro⟩, ⟨27, 2, .ro⟩, ⟨26, 1, .ro⟩, ⟨25, 1, .ro⟩, ⟨20, 5, .ro⟩, ⟨0, 10, .ro⟩]⟩,
  ⟨0x40100004, [], [⟨5, 1, .w1c⟩, ⟨4, 1, .w1c⟩, ⟨3, 1, .w1c⟩, ⟨2, 1, .w1c⟩, ⟨1, 1, .w1c⟩, ⟨0, 1, .w1c⟩]⟩,
  ⟨0x40100008, [], [⟨28, 4, .wo⟩, ⟨26, 2, .wo⟩, ⟨20, 6, .wo⟩, ⟨0, 15, .wo⟩]⟩,
  ⟨0x4010000C, [], [⟨31, 1, .rw⟩, ⟨30, 1, .rw⟩, ⟨0, 16, .rw⟩]⟩,
  ⟨0x40100010, [], [⟨31, 1, .ro⟩, ⟨16, 8, .ro⟩, ⟨0, 16, .ro⟩]⟩,
  ⟨0x40100014, [], [⟨30, 2, .ro⟩, ⟨27, 3, .ro⟩, ⟨0, 16, .ro⟩]⟩,
  ⟨0x40100018, [], [⟨16, 15, .ro⟩, ⟨0, 15, .ro⟩]⟩,
  ⟨0x40100044, [(4, 6)], [⟨0, 32, .ro⟩]⟩,
  ⟨0x40100060, [], [⟨0, 32, .ro⟩]⟩,
  ⟨0x40100080, [(8, 2)], [⟨29, 3, .ro⟩, ⟨4, 5, .ro⟩, ⟨0, 4, .ro⟩]⟩,
  ⟨0x40100084, [(8, 2)], [⟨0, 32, .ro⟩]⟩,
  ⟨0x40101000, [(4, 1024)], [⟨0, 32, .rw⟩]⟩]
def rowsUpd : List RegRow := rowsUpd0

end Sys2Proof.Machine
end

