-- ==== Sys2Proof/Machine/RegWell.lean ====
section
/-! DEFINITION. The register fields of block WELL: address, lowest bit and width of each, as the register
tables of spec/14_granary_and_well.md (R415) give them, and the rows of the block for access by address. -/

namespace Sys2Proof.Machine

/-! WELL_CFG (clock configuration): Offset 0x000. -/
def WELL_CFG_MODE : Fld := ⟨0x400B0000, 31, 1⟩
def WELL_CFG_CAL : Fld := ⟨0x400B0000, 0, 9⟩
/-! WELL_STAT (clock status): Offset 0x004. -/
def WELL_STAT_TVALID : Fld := ⟨0x400B0004, 31, 1⟩
def WELL_STAT_VLOST : Fld := ⟨0x400B0004, 30, 1⟩
def WELL_STAT_LOCK : Fld := ⟨0x400B0004, 29, 1⟩
def WELL_STAT_WRAP : Fld := ⟨0x400B0004, 28, 1⟩
def WELL_STAT_BUSY : Fld := ⟨0x400B0004, 27, 1⟩
/-! WELL_EVT (clock events): Offset 0x008. -/
def WELL_EVT_WRAP : Fld := ⟨0x400B0008, 7, 1⟩
def WELL_EVT_BSW : Fld := ⟨0x400B0008, 6, 1⟩
def WELL_EVT_SET : Fld := ⟨0x400B0008, 5, 1⟩
def WELL_EVT_LATE : Fld := ⟨0x400B0008, 4, 1⟩
def WELL_EVT_ALM : Fld := ⟨0x400B0008, 0, 4⟩
/-! WELL_CMD (clock command): Offset 0x00C. -/
def WELL_CMD_OP : Fld := ⟨0x400B000C, 28, 4⟩
def WELL_CMD_TEN : Fld := ⟨0x400B000C, 16, 6⟩
def WELL_CMD_ALM : Fld := ⟨0x400B000C, 0, 2⟩
/-! WELL_CRES (command result): Offset 0x010. -/
def WELL_CRES_DONE : Fld := ⟨0x400B0010, 31, 1⟩
def WELL_CRES_CODE : Fld := ⟨0x400B0010, 0, 16⟩
/-! WELL_TIME0 (present time): Offsets 0x020, 0x024 and 0x028. -/
def WELL_TIME0_T : Fld := ⟨0x400B0020, 0, 32⟩
/-! WELL_TIME1 (present time): Offsets 0x020, 0x024 and 0x028. -/
def WELL_TIME1_T : Fld := ⟨0x400B0024, 0, 32⟩
/-! WELL_SUBSEC (present time): Offsets 0x020, 0x024 and 0x028. -/
def WELL_SUBSEC_T : Fld := ⟨0x400B0028, 0, 32⟩
/-! WELL_SET0 (command values): Offsets 0x030, 0x034, 0x038 and 0x03C. -/
def WELL_SET0_V : Fld := ⟨0x400B0030, 0, 32⟩
/-! WELL_SET1 (command values): Offsets 0x030, 0x034, 0x038 and 0x03C. -/
def WELL_SET1_V : Fld := ⟨0x400B0034, 0, 32⟩
/-! WELL_SETSUB (command values): Offsets 0x030, 0x034, 0x038 and 0x03C. -/
def WELL_SETSUB_V : Fld := ⟨0x400B0038, 0, 32⟩
/-! WELL_SETPER (command values): Offsets 0x030, 0x034, 0x038 and 0x03C. -/
def WELL_SETPER_V : Fld := ⟨0x400B003C, 0, 32⟩
/-! WELL_ALM_LO (alarm n): Offsets 0x040, 0x044, 0x048 and 0x04C + 0x10 × n for n = 0 to 3. -/
def WELL_ALM_LO_T (n : Nat) : Fld := ⟨0x400B0040 + 16 * n, 0, 32⟩
/-! WELL_ALM_HI (alarm n): Offsets 0x040, 0x044, 0x048 and 0x04C + 0x10 × n for n = 0 to 3. -/
def WELL_ALM_HI_T (n : Nat) : Fld := ⟨0x400B0044 + 16 * n, 0, 8⟩
/-! WELL_ALM_PER (alarm n): Offsets 0x040, 0x044, 0x048 and 0x04C + 0x10 × n for n = 0 to 3. -/
def WELL_ALM_PER_PER (n : Nat) : Fld := ⟨0x400B0048 + 16 * n, 0, 32⟩
/-! WELL_ALM_STAT (alarm n): Offsets 0x040, 0x044, 0x048 and 0x04C + 0x10 × n for n = 0 to 3. -/
def WELL_ALM_STAT_ARMED (n : Nat) : Fld := ⟨0x400B004C + 16 * n, 31, 1⟩
def WELL_ALM_STAT_FIRED (n : Nat) : Fld := ⟨0x400B004C + 16 * n, 30, 1⟩
def WELL_ALM_STAT_LATE (n : Nat) : Fld := ⟨0x400B004C + 16 * n, 29, 1⟩
def WELL_ALM_STAT_SKIP (n : Nat) : Fld := ⟨0x400B004C + 16 * n, 0, 16⟩
/-! WELL_BSW0 (backup switch-over): Offsets 0x080, 0x084 and 0x088. -/
def WELL_BSW0_SEC : Fld := ⟨0x400B0080, 0, 32⟩
/-! WELL_BSW1 (backup switch-over): Offsets 0x080, 0x084 and 0x088. -/
def WELL_BSW1_VALID : Fld := ⟨0x400B0084, 31, 1⟩
def WELL_BSW1_SUB : Fld := ⟨0x400B0084, 8, 15⟩
def WELL_BSW1_SECHI : Fld := ⟨0x400B0084, 0, 8⟩
/-! WELL_BSWCNT (backup switch-over): Offsets 0x080, 0x084 and 0x088. -/
def WELL_BSWCNT_CNT : Fld := ⟨0x400B0088, 0, 16⟩
/-! WELL_BKPn (backup memory): Offset 0x0C0 + 4 × n for n = 0 to 15. -/
def WELL_BKP_DATA (n : Nat) : Fld := ⟨0x400B00C0 + 4 * n, 0, 32⟩

/-- The rows of block WELL (R415). -/
def rowsWell0 : List RegRow := [
  ⟨0x400B0000, [], [⟨31, 1, .rw⟩, ⟨0, 9, .rw⟩]⟩,
  ⟨0x400B0004, [], [⟨31, 1, .ro⟩, ⟨30, 1, .ro⟩, ⟨29, 1, .ro⟩, ⟨28, 1, .ro⟩, ⟨27, 1, .ro⟩]⟩,
  ⟨0x400B0008, [], [⟨7, 1, .w1c⟩, ⟨6, 1, .w1c⟩, ⟨5, 1, .w1c⟩, ⟨4, 1, .w1c⟩, ⟨0, 4, .w1c⟩]⟩,
  ⟨0x400B000C, [], [⟨28, 4, .wo⟩, ⟨16, 6, .wo⟩, ⟨0, 2, .wo⟩]⟩,
  ⟨0x400B0010, [], [⟨31, 1, .ro⟩, ⟨0, 16, .ro⟩]⟩,
  ⟨0x400B0020, [], [⟨0, 32, .ro⟩]⟩,
  ⟨0x400B0024, [], [⟨0, 32, .ro⟩]⟩,
  ⟨0x400B0028, [], [⟨0, 32, .ro⟩]⟩,
  ⟨0x400B0030, [], [⟨0, 32, .rw⟩]⟩,
  ⟨0x400B0034, [], [⟨0, 32, .rw⟩]⟩,
  ⟨0x400B0038, [], [⟨0, 32, .rw⟩]⟩,
  ⟨0x400B003C, [], [⟨0, 32, .rw⟩]⟩]
def rowsWell1 : List RegRow := [
  ⟨0x400B0040, [(16, 4)], [⟨0, 32, .ro⟩]⟩,
  ⟨0x400B0044, [(16, 4)], [⟨0, 8, .ro⟩]⟩,
  ⟨0x400B0048, [(16, 4)], [⟨0, 32, .ro⟩]⟩,
  ⟨0x400B004C, [(16, 4)], [⟨31, 1, .ro⟩, ⟨30, 1, .ro⟩, ⟨29, 1, .ro⟩, ⟨0, 16, .ro⟩]⟩,
  ⟨0x400B0080, [], [⟨0, 32, .ro⟩]⟩,
  ⟨0x400B0084, [], [⟨31, 1, .w1c⟩, ⟨8, 15, .ro⟩, ⟨0, 8, .ro⟩]⟩,
  ⟨0x400B0088, [], [⟨0, 16, .rc⟩]⟩,
  ⟨0x400B00C0, [(4, 16)], [⟨0, 32, .rw⟩]⟩]
def rowsWell : List RegRow := rowsWell0 ++ rowsWell1

end Sys2Proof.Machine
end

