-- ==== Sys2Proof/Machine/RegMap.lean ====
section
/-! DEFINITION. The whole register map (R21), by block, and the non-zero reset values of the register tables. -/

namespace Sys2Proof.Machine

/-- The rows of the block that a register address lies in (Table 1-2); none outside the windows. -/
def blockRows (addr : Nat) : List RegRow :=
  match (addr - 0x40000000) / 65536 with
  | 0 => rowsLtu
  | 1 => rowsPdir
  | 2 => rowsCxe
  | 3 => rowsCle
  | 4 => rowsMtr
  | 5 => rowsFio
  | 6 => rowsFbe
  | 7 => rowsNet
  | 8 => rowsPlk
  | 9 => rowsKsu
  | 10 => rowsGrn
  | 11 => rowsWell
  | 12 => rowsPwr
  | 13 => rowsHlt
  | 14 => rowsHpt
  | 15 => rowsMill
  | 16 => rowsUpd
  | _ => []

/-- The fields that the spec's tables reset to a value other than 0, as (key, value) in rising key order. A key is
the register's address times 32 plus the field's lowest bit. Every other field is 0 at reset. -/
def resetRegs0 : List (Nat × Nat) := [
  (0x40000000 * 32 + 21, 0x1),
  (0x40000000 * 32 + 22, 0x2),
  (0x40000004 * 32 + 0, 0x320),
  (0x40000004 * 32 + 16, 0x8),
  (0x40000008 * 32 + 31, 0x1),
  (0x40000040 * 32 + 8, 0x4),
  (0x40000040 * 32 + 16, 0x2),
  (0x40010100 * 32 + 0, 0x2000),
  (0x40010100 * 32 + 31, 0x1),
  (0x40070008 * 32 + 0, 0x5F2),
  (0x40070008 * 32 + 16, 0x8),
  (0x40070010 * 32 + 0, 0x88B5),
  (0x40070010 * 32 + 16, 0x5A7E),
  (0x40070060 * 32 + 0, 0x80),
  (0x40070060 * 32 + 8, 0x80),
  (0x40070100 * 32 + 0, 0x7),
  (0x40070100 * 32 + 8, 0x20),
  (0x40070100 * 32 + 16, 0x3C),
  (0x40070140 * 32 + 0, 0x7),
  (0x40070140 * 32 + 8, 0x20),
  (0x40070140 * 32 + 16, 0x3C),
  (0x40070300 * 32 + 30, 0x1),
  (0x40070800 * 32 + 8, 0x5),
  (0x40070800 * 32 + 28, 0x1),
  (0x40070800 * 32 + 31, 0x1),
  (0x40070804 * 32 + 16, 0x88B5),
  (0x40070808 * 32 + 8, 0x4),
  (0x40070808 * 32 + 28, 0x1),
  (0x40070808 * 32 + 31, 0x1),
  (0x4007080C * 32 + 16, 0x800)]
def resetRegs1 : List (Nat × Nat) := [
  (0x40070810 * 32 + 28, 0x1),
  (0x40070810 * 32 + 31, 0x1),
  (0x40070814 * 32 + 16, 0x806),
  (0x40080010 * 32 + 0, 0x100),
  (0x40080010 * 32 + 24, 0x1),
  (0x40090000 * 32 + 27, 0x1),
  (0x40090000 * 32 + 29, 0x2),
  (0x40090C00 * 32 + 0, 0xF8),
  (0x400A0008 * 32 + 0, 0x40),
  (0x400C0000 * 32 + 30, 0x1),
  (0x400C0010 * 32 + 0, 0x1F4),
  (0x400C0010 * 32 + 30, 0x1),
  (0x400D0140 * 32 + 0, 0x3B9ACA00)]
/-- Log entry 1 (DESIGN CHOICE). -/
def resetRegs : List (Nat × Nat) := resetRegs0 ++ resetRegs1

end Sys2Proof.Machine
end

