-- ==== Sys2Proof/Machine/State.lean ====
section
/-! DEFINITION. The state of the module as plain data: every register field, the addressed memories, what each block
holds besides, and the queue of waiting commands. Its value right after reset. -/

namespace Sys2Proof.Machine

/-- Reasons to stop. -/
inductive Fault where
  /-- Raised by ENDL, BRK and CALL where a loop or call record is missing or the stack is full, which the loader
  does not let pass and for which the spec gives no effect. Safe: the model stops.
  Log entry 5. -/
  | noRecord
deriving DecidableEq, Repr

/-- Reasons to answer no meaning. -/
inductive Refusal where
  /-- Raised by an arm of `exec` for a command that has no meaning yet. Safe. -/
  | notModelled (mnemonic : String)
deriving DecidableEq, Repr

/-- The whole module. -/
structure State where
  /-- Every register field, by `Fld.key`; an unlisted field is 0. -/
  regs : List (Nat × Nat)
  /-- The bytes of the addressed memories (Table 1-3); an unlisted byte is 0. -/
  mem : List Host.Cell
  ltu : LtuPart
  pdir : PdirPart
  grn : GrnPart
  well : WellPart
  cxe : CxePart
  cle : ClePart
  mtr : MtrPart
  fio : FioPart
  fbe : FbePart
  net : NetPart
  plk : PlkPart
  ksu : KsuPart
  pwr : PwrPart
  nand : NandPart
  hlt : HltPart
  cfg : CfgPart
  upd : UpdPart
  hpt : HptPart
  mill : MillPart
  /-- Milliseconds of the 25 MHz crystal since power-on. -/
  ms : Nat
  /-- The last answer of a block. -/
  answer : Answer
  /-- Line-time announcements that the module has sent (R55), oldest first, until NET takes them. -/
  announced : List Announcement
  /-- How many values that the spec leaves open have been taken; a field of the model alone.
  Log entry 25 (DESIGN CHOICE). -/
  free : Nat
  /-- Commands that wait, the first to be carried out in front. Log entry 24 (DESIGN CHOICE). -/
  pending : List Instr
deriving DecidableEq, Repr

/-- The line-time unit at reset. Log entry 1 (DESIGN CHOICE). -/
def LtuPart.reset : LtuPart where
  now := 0
  frac := 0
  freq := 50000
  corr := 0
  pendFreq := none
  cycleOpen := false
  valids := 0
  outRange := 0
  freqs := []
  measured := 0
  refNew := false
  bank0 := []
  bank1 := []
  issueAt := 0
  issueCnt := 0
  lateCycle := none
  ofs := 0
  siteAcq := true
  siteRun := 0
  siteFrozen := false
  siteReady := false
  siteTarget := none
  heard := []
  quiet := 0
  retained := 0

/-- A lane that runs nothing. -/
def Lane.idle : Lane where
  busy := false
  task := 0
  pc := 0
  w := Vector.replicate 16 0
  fl := ⟨false, false, false, false, false⟩
  calls := []
  loops := []
  ext := none

/-- A map without entries, and no rows. -/
def CellMap.empty : CellMap := ⟨[], [], []⟩
def RowSet.none : RowSet := ⟨false, []⟩

/-- The cyclic execution engine at reset: no image; every row counts as changed. Log entry 1 (DESIGN CHOICE). -/
def CxePart.reset : CxePart where
  lanes := Vector.replicate 8 Lane.idle
  acts := []
  prog := none
  next := none
  map0 := CellMap.empty
  map1 := CellMap.empty
  bank0 := (CellMap.empty, CellMap.empty)
  bank1 := (CellMap.empty, CellMap.empty)
  dirty0 := ⟨true, []⟩
  dirty1 := ⟨true, []⟩
  pend := RowSet.none
  kept := []
  snapMs := 0
  snapAt := 0
  snapId := 0
  snapVer := 0
  snapMap := 0
  change := none

/-- The module slots of Table 12-3 under the root `root`; `draw` gives the random draw of a generated key.
Log entry 1 (DESIGN CHOICE). -/
def moduleSlots (root : Nat) (draw : Nat → Nat) : List (Nat × KeySlot) := [
  (0, ⟨false, false, 0, 2, 0, 0, 0x1C, 1, 0xFF, Config.moduleKey root 0 (draw 0), 0⟩),
  (1, ⟨false, false, 1, 3, 0x20, 0, 0x1E, 0, 0xFF, Config.moduleKey 0 1 0, 0⟩),
  (2, ⟨false, false, 0, 2, 0x02, 0, 0x1C, 1, 0xFF, Config.moduleKey root 2 (draw 2), 0⟩),
  (3, ⟨false, false, 2, 1, 0x18, 0, 0x1C, 1, 0xFF, Config.moduleKey root 3 0, 0⟩)]

/-- Hearth at reset: as shipped, in PROVISIONED with the module slots under the device root (R369). Log entry 1 (DESIGN CHOICE). -/
def KsuPart.reset : KsuPart where
  slots := moduleSlots 1 (fun n => n)
  store := moduleSlots 1 (fun n => n)
  journal := []
  jseq := 1
  ops := []
  lcTo := none
  otp := [0xFFFFFFFF, 0xFFFFFFFF, 0, 0, 0]
  mark := 2
  nonce := none
  cert := []
  serial := 0

/-- The network part at reset. -/
def NetPart.reset : NetPart where
  rx := []
  ring := []
  tx := []
  sent := []
  learned := []
  shifts := []
  testSeq := 0
  seen := []
  miss0 := 0
  miss1 := 0
  okRun := 0
  linkDown := false
  epoch := 0
  count := 0
  replay := []
  syncs := []
  queue := []
  kept := []
  reasm := []
  rates := []
  subs := []
  subNext := []
  requests := []
  nextTid := 0
  nextRefresh := 0
  pubs := []
  noticeAll := false

/-- The pair logic at reset. -/
def PlkPart.reset : PlkPart where
  epoch := 0
  count := 0
  unacked := []
  waiting := []
  rxEpoch := 0
  rxCount := 0
  nak := false
  beat := none
  twin := none
  delay := 0
  ofs := 0
  changed := 0
  rows := []
  outs := []
  tail := []
  asked := false
  ends := 0
  imgNoted := false
  cfgNoted := false
  phaseNoted := false
  dualOff := false
  enMs := none
  quietMs := 0
  swoX := 0
  moves := 0
  go := false
  atX := false
  leaving := false
  ackedSnap := none
  reclaimed := false
  wasLock := false
  fullNext := false
  fullNow := false
  forces := []
  image := []
  imgAwait := false

/-- The update manager at reset: both slots empty. -/
def UpdPart.reset : UpdPart where
  slot0 := []
  slot1 := []
  wrote := false
  keys := none
  heard := 0
  alone := false
  window := 0
  trialEnd := 0
  done := []
  pending := none
  enableMs := none
  cause := 0
  failOrder := 0
  undone := 0
  formerSets := []
  formerImage := []
  formerVers := []
  formerSet := 0
  setVer := 0
  bare := []
  supRestarts := 0
  mrev := 0
  srev := 0

/-- The module right after reset. Log entry 1 (DESIGN CHOICE). Log entry 24 (DESIGN CHOICE, DEDUCED). -/
def State.reset : State where
  regs := resetRegs
  mem := []
  ltu := LtuPart.reset
  pdir := ⟨[], none, []⟩
  grn := ⟨[], [], [], 0, 0, none, 0, 0⟩
  well := ⟨0, 0, 0, none, false, 0⟩
  pwr := ⟨false, none, none, 0, false, 0, 0, false⟩
  cxe := CxePart.reset
  cle := ⟨[], [], []⟩
  mtr := ⟨[], [], 0, false, [], [], [], [], none, none, false, [], []⟩
  fio := ⟨[], false, []⟩
  fbe := ⟨[], [], ⟨[], []⟩⟩
  net := NetPart.reset
  plk := PlkPart.reset
  ksu := KsuPart.reset
  nand := ⟨1280⟩
  hlt := ⟨0, false, [], 0, [[], [], [], [], []]⟩
  cfg := ⟨0, [], [], 0, [], [], [], [], []⟩
  upd := UpdPart.reset
  hpt := ⟨PortState.empty, PortState.empty, [], [], [], [], [], false⟩
  mill := ⟨none⟩
  ms := 0
  answer := Answer.none
  announced := []
  free := 0
  pending := []

end Sys2Proof.Machine
end

