-- ==== Sys2Proof/Machine/Ops.lean ====
section
/-! DEFINITION. The operations over the whole state that the blocks share: register fields, byte memory, line time,
values that the spec leaves open, and Granary records. -/

namespace Sys2Proof.Machine

/-! ## Register fields -/

/-- The value of a register field. Log entry 1 (DESIGN CHOICE). -/
def State.rd (s : State) (f : Fld) : Nat := sget 0 s.regs f.key

/-- A register field set by hardware or by a permitted write; it keeps the bits it has. -/
def State.wr (s : State) (f : Fld) (v : Nat) : State := { s with regs := sput 0 s.regs f.key (v % 2 ^ f.width) }

/-- The field that fills a register word, at each of `n` words from an address on, set to 0. -/
def State.clearWords (s : State) (addr n : Nat) : State :=
  { s with regs := sdelIf (fun k => decide (addr * 32 ≤ k) && decide (k < (addr + 4 * n) * 32) && k % 128 == 0) s.regs }

/-- A one-bit field read as a truth value. -/
def State.on (s : State) (f : Fld) : Bool := s.rd f == 1

/-- A one-bit field set to 1: an event bit or a status flag. -/
def State.raise (s : State) (f : Fld) : State := s.wr f 1

/-- A one-bit field cleared. -/
def State.lower (s : State) (f : Fld) : State := s.wr f 0

/-- Bit `n` of an event field set, the others kept. -/
def State.raiseBit (s : State) (f : Fld) (n : Nat) : State :=
  if (s.rd f).testBit n then s else s.wr f (s.rd f + 2 ^ n)

/-- A counting field that stays at its largest value. -/
def State.bump (s : State) (f : Fld) : State := s.wr f (satInc (2 ^ f.width - 1) (s.rd f))

/-- A counting field that rises by `k` and stays at its largest value. -/
def State.bumpBy (s : State) (f : Fld) (k : Nat) : State := s.wr f (satAdd (2 ^ f.width - 1) (s.rd f) k)

/-- A counting field that rises by one and wraps. -/
def State.tickField (s : State) (f : Fld) : State := s.wr f (s.rd f + 1)

/-- A maximum kept in a field, saturating. -/
def State.maxField (s : State) (f : Fld) (v : Nat) : State :=
  s.wr f (max (s.rd f) (min v (2 ^ f.width - 1)))

/-- The two halves of a 64-bit or shorter quantity in a low and a high field. -/
def State.wrPair (s : State) (lo hi : Fld) (v : Nat) : State := (s.wr lo v).wr hi (v / 2 ^ 32)

/-- A REAL32 register field. -/
def State.real (s : State) (f : Fld) : Word := BitVec.ofNat 32 (s.rd f)
def State.wrReal (s : State) (f : Fld) (w : Word) : State := s.wr f w.toNat

/-- A register word answered. -/
def State.answerWord (s : State) (w : Nat) : State := { s with answer := ⟨0, 0, [BitVec.ofNat 32 w], false⟩ }

/-- The answer to a request: its code and the reason of a BUSY. -/
def State.reply (s : State) (code reason : Nat) (words : List Word) : State :=
  { s with answer := ⟨code, reason, words, false⟩ }

/-! ## Values the spec leaves open -/

/-- A value the spec does not state. Log entry 25 (DESIGN CHOICE). -/
def State.openValue (s : State) : Nat := Config.freeValue s.free

/-- The state after an open value was taken. Log entry 25 (DESIGN CHOICE). -/
def State.tookOpen (s : State) : State := { s with free := s.free + 1 }

/-- `n` bytes that the spec does not state. Log entry 25 (DESIGN CHOICE). -/
def openBytes (s : State) : Nat → List Byte
  | 0 => []
  | n + 1 => openBytes s n ++ [BitVec.ofNat 8 (Config.freeValue (s.free + n))]

/-- The state after `n` open values were taken. Log entry 25 (DESIGN CHOICE). -/
def State.tookOpens (s : State) (n : Nat) : State := { s with free := s.free + n }

/-! ## Byte memory -/

/-- The byte at an address. Log entry 1 (DESIGN CHOICE). -/
def State.byte (s : State) (a : Nat) : Byte := sget 0 s.mem a

/-- A byte stored. -/
def State.setByte (s : State) (a : Nat) (b : Byte) : State := { s with mem := sput 0 s.mem a b }

/-- Bytes stored from an address upward. -/
def State.setBytes (s : State) (a : Nat) : List Byte → State
  | [] => s
  | b :: t => (s.setByte a b).setBytes (a + 1) t

/-- `n` bytes from an address upward. -/
def State.bytes (s : State) (a : Nat) : Nat → List Byte
  | 0 => []
  | n + 1 => s.byte a :: s.bytes (a + 1) n

/-- The little-endian number of some bytes (R14). -/
def leNat : List Byte → Nat
  | [] => 0
  | b :: t => b.toNat + 256 * leNat t

/-- The big-endian number of some bytes, as published standards order them. -/
def beNat (bs : List Byte) : Nat := leNat bs.reverse

/-- The `n` little-endian bytes of a number (R14). -/
def leBytes : Nat → Nat → List Byte
  | 0, _ => []
  | n + 1, v => BitVec.ofNat 8 v :: leBytes n (v / 256)

/-- The little-endian word at an address. -/
def State.word (s : State) (a : Nat) : Word := BitVec.ofNat 32 (leNat (s.bytes a 4))

/-- A word stored little-endian. -/
def State.setWord (s : State) (a : Nat) (w : Word) : State := s.setBytes a (leBytes 4 w.toNat)

/-- A slice of a byte list; bytes beyond its end are left out. -/
def slice (bs : List Byte) (off n : Nat) : List Byte := (bs.drop off).take n

/-- The little-endian number of `n` bytes at an offset. -/
def leAt (bs : List Byte) (off n : Nat) : Nat := leNat (slice bs off n)

/-! ## Line time -/

/-- The line-cycle count c. -/
def State.cyc (s : State) : Nat := s.ltu.now / 65536

/-- The line angle a. -/
def State.ang (s : State) : Nat := s.ltu.now % 65536

/-- The timestamp of a point written now (R34). -/
def State.stamp (s : State) : Word := BitVec.ofNat 32 s.ltu.now

/-- Local line time moved forward to `t` within the present cycle; it never moves back (R49). Log entry 2 (DESIGN CHOICE, DEDUCED). -/
def State.forwardTo (s : State) (t : Nat) : State :=
  if s.ltu.now < t ∧ t / 65536 = s.cyc then { s with ltu := { s.ltu with now := t } } else s

/-- Site line time (R54). -/
def State.siteNow (s : State) : Nat := (s.ltu.now + s.ltu.ofs) % 2 ^ 56

/-! ## The pair link (R336 to R338) -/

/-- PLK's typed part changed. -/
def State.onPlk (s : State) (f : PlkPart → PlkPart) : State := { s with plk := f s.plk }

/-- The place of a frame in the priority of Table 11-4. -/
def LinkFrame.rank : LinkFrame → Nat
  | .hb _ => 0 | .ctrl _ _ => 1 | .force _ _ _ _ _ => 2 | .out _ _ => 3 | .loop _ => 4 | .meter _ => 5 | .grn _ => 6
  | .data _ => 7 | .dataEnd _ => 8 | .img _ _ => 9

/-- A frame put behind those of its rank. -/
def insertFrame (f : LinkFrame) : List LinkFrame → List LinkFrame
  | [] => [f]
  | g :: t => if f.rank < g.rank then f :: g :: t else g :: insertFrame f t

/-- Frames that find a place among the 256 unacknowledged ones are sent, each with the next count. -/
def fillWindow (un : List (Nat × LinkFrame)) (count : Nat) : List LinkFrame → List (Nat × LinkFrame) × Nat × List LinkFrame
  | [] => (un, count, [])
  | f :: t =>
    if 256 ≤ un.length then (un, count, f :: t)
    else fillWindow (un ++ [((count + 1) % 2 ^ 32, f)]) ((count + 1) % 2 ^ 32) t

/-- The frames that wait are sent as far as places are free. -/
def State.linkFill (s : State) : State :=
  s.onPlk fun p =>
    let r := fillWindow p.unacked p.count p.waiting
    { p with unacked := r.1, count := r.2.1, waiting := r.2.2 }

/-- A frame given to the link; nothing is sent while the link is down (R337). -/
def State.sendLink (s : State) (f : LinkFrame) : State :=
  if s.on PLK_STAT_LINK then (s.onPlk fun p => { p with waiting := insertFrame f p.waiting }).linkFill else s

/-- The module in CONTROL of a pair mirrors (R338). -/
def State.mirrors (s : State) : Bool := s.rd PLK_STAT_ROLE != 0 && s.rd PLK_STAT_STATE == 4

/-- A mirrored item sent (R338). -/
def State.mirror (s : State) (f : LinkFrame) : State := if s.mirrors then s.sendLink f else s

/-- A point batch sent: also by the outgoing module of a switch-over, whose last activations still commit (R335). -/
def State.mirrorOut (s : State) (f : LinkFrame) : State := if s.mirrors || s.plk.leaving then s.sendLink f else s

/-! ## Granary records (R396 to R401) -/

/-- The size of an item in bytes. -/
def itemSize : Item → Nat
  | .n1 _ => 1 | .n2 _ => 2 | .n4 _ => 4 | .n6 _ => 6 | .n8 _ => 8

/-- The bytes of an item, little-endian. -/
def itemBytes : Item → List Byte
  | .n1 v => leBytes 1 v | .n2 v => leBytes 2 v | .n4 v => leBytes 4 v | .n6 v => leBytes 6 v | .n8 v => leBytes 8 v

/-- The end of the data field that byte `p` lies in: ARG, VALUE or the continuation. -/
def fieldEnd (p : Nat) : Nat := if p < 2 then 2 else if p < 6 then 6 else 30

/-- Where an item of `k` bytes is placed when the next free data byte is `p` (R397). -/
def placeAt (p k : Nat) : Option Nat :=
  if p + k ≤ fieldEnd p then some p
  else if p < 2 ∧ 2 + k ≤ 6 then some 2
  else if p < 6 ∧ 6 + k ≤ 30 then some 6
  else none

/-- The data bytes of an event's items (R397). -/
def placeItems (acc : List Byte) : List Item → List Byte
  | [] => acc
  | i :: t =>
    match placeAt acc.length (itemSize i) with
    | some q => placeItems (acc ++ List.replicate (q - acc.length) 0 ++ itemBytes i) t
    | none => placeItems acc t

/-- A byte list filled up with zeros to `n` bytes. -/
def padTo (n : Nat) (bs : List Byte) : List Byte := bs ++ List.replicate (n - bs.length) 0

/-- Granary's typed part changed. -/
def State.onGrn (s : State) (f : GrnPart → GrnPart) : State := { s with grn := f s.grn }

/-- Records, continuations included. -/
def recCount (l : List Rec) : Nat := (l.map Rec.count).sum

/-- The Well time as a record's UTC field (Table 14-1). -/
def State.utc (s : State) : Nat := s.well.sec * 32768 + s.well.sub

/-- The record counts shown in GRN_STAT. -/
def State.grnCounts (s : State) : State :=
  (s.wr GRN_STAT_SRAM (recCount s.grn.sram)).wr GRN_STAT_STAGE (recCount s.grn.staging)

/-- A record entered at the end of the SRAM buffer with the next SEQ (R398), and mirrored (R338). -/
def State.enter (s : State) (r : Rec) : State :=
  let q := s.rd GRN_SEQ_SEQ
  let s := s.onGrn fun g => { g with sram := g.sram ++ [{ r with seq := q }] }
  ((s.wr GRN_SEQ_SEQ (q + r.count)).grnCounts).mirror (.grn { r with seq := q })

/-- A record that finds the buffer full takes no SEQ and is lost (R400). -/
def State.lose (s : State) (lt : Nat) (k : Nat) : State :=
  let s := s.onGrn fun g => { g with
    lost := g.lost + k
    lostAt := if g.lost = 0 then lt else g.lostAt
    frzLost := if g.frozen.isSome then g.frzLost + k else g.frzLost }
  (s.bumpBy GRN_LOST_CNT k).raise GRN_EVT_LOST

/-- The newest record while it is in SRAM or staging (R399). -/
def GrnPart.newest (g : GrnPart) : Option Rec :=
  match g.sram.getLast? with
  | some r => some r
  | none => g.staging.getLast?

/-- Two records agree in everything that R399 compares. -/
def Rec.alike (a b : Rec) : Bool :=
  a.code == b.code && a.ten == b.ten && a.src == b.src && a.twin == b.twin && a.utcInv == b.utcInv &&
  a.frz == b.frz && a.data == b.data && a.cont == b.cont

/-- The newest record `old` takes the event `r` as a repetition (R399). -/
def mergesInto (s : State) (r old : Rec) : Bool :=
  old.alike r && decide (old.lt ≤ r.lt) && decide (r.lt - old.lt < s.rd GRN_CFG_RWIN * 65536) && decide (old.rep < 65535)

/-- The last element of a list changed. -/
def mapLast {α : Type} (f : α → α) : List α → List α
  | [] => []
  | [x] => [f x]
  | x :: t => x :: mapLast f t

/-- The newest record's REPEAT increased (R399). -/
def GrnPart.repeatNewest (g : GrnPart) : GrnPart :=
  let up := fun r : Rec => { r with rep := r.rep + 1 }
  if g.sram.isEmpty then { g with staging := mapLast up g.staging } else { g with sram := mapLast up g.sram }

/-- Capacity of the SRAM buffer and of staging (Table 14-3). -/
def sramCap : Nat := 2048
def stagingCap : Nat := 32768

/-- The record of an event (R396, R397). -/
def State.mkRec (s : State) (src code ten lt : Nat) (items : List Item) : Rec :=
  let bs := placeItems [] items
  { seq := 0, code := code, ten := ten, twin := false, utcInv := !s.on WELL_STAT_TVALID
    frz := s.grn.frozen.isSome, lt := lt % 2 ^ 56, src := src, utc := s.utc, rep := 0
    data := padTo 6 (bs.take 6)
    cont := if bs.length ≤ 6 then [] else padTo 24 (bs.drop 6) }

/-- The GR_LOST record that Granary enters before any other when space returns (R400). -/
def State.lostRecord (s : State) : State :=
  if s.grn.lost = 0 then s
  else
    let r := s.mkRec 10 0x0E41 0 s.grn.lostAt [.n4 (min s.grn.lost 0xFFFFFFFF)]
    (s.onGrn fun g => { g with lost := 0 }).enter r

/-- How many of the oldest records fit in `room` places. -/
def takeRoom : Nat → List Rec → List Rec
  | _, [] => []
  | room, r :: t => if r.count ≤ room then r :: takeRoom (room - r.count) t else []

/-- The SRAM buffer drained to staging as far as staging has room (R400, R402). Log entry 2 (DESIGN CHOICE, DEDUCED). -/
def State.drain (s : State) : State :=
  let mv := takeRoom (stagingCap - recCount s.grn.staging) s.grn.sram
  let s := s.onGrn fun g => { g with staging := g.staging ++ mv, sram := g.sram.drop mv.length }
  if mv.isEmpty then s.grnCounts else s.lostRecord.grnCounts

/-- A record taken by Granary: merged, entered or lost (R398 to R400); drained at once from PF_N on (R401). -/
def State.take (s : State) (r : Rec) : State :=
  if (s.grn.newest.map (mergesInto s r)).getD false then s.onGrn GrnPart.repeatNewest
  else if sramCap < recCount s.grn.sram + r.count then s.lose r.lt r.count
  else if s.on PWR_STAT_PF then (s.enter r).drain
  else s.enter r

/-- An event reported to Granary at local line time `lt` (R397, R398). -/
def State.logAt (s : State) (src code ten lt : Nat) (items : List Item) : State :=
  s.take (s.mkRec src code ten lt items)

/-- An event reported now. -/
def State.log (s : State) (src code ten : Nat) (items : List Item) : State :=
  s.logAt src code ten s.ltu.now items

/-- A flush (R401). -/
def State.flush (s : State) : State := s.drain.raise GRN_EVT_FLUSH

/-- An uncorrectable memory error: counted by HLT, recorded by the caller, and followed by a flush (R25, R401). -/
def State.uncorrectable (s : State) : State := (s.bump HLT_ERR_A_UNCORR).flush

/-- An access that ends with a bus error and counts a fabric error (R22). -/
def State.busError (s : State) : State :=
  { s.bump HLT_ERR_A_FABRIC with answer := ⟨0, 0, [], true⟩ }

/-! ## Source numbers of Table 14-2 -/

def srcLTU : Nat := 0
def srcPDIR : Nat := 1
def srcCXE : Nat := 2
def srcCLE : Nat := 3
def srcMTR : Nat := 4
def srcFIO : Nat := 5
def srcFBE : Nat := 6
def srcNET : Nat := 7
def srcPLK : Nat := 8
def srcKSU : Nat := 9
def srcGRN : Nat := 10
def srcWELL : Nat := 11
def srcPWR : Nat := 12
def srcHLT : Nat := 13
def srcHPT : Nat := 14
def srcMILL : Nat := 15
/-- Log entry 19 (DESIGN CHOICE, DEDUCED). -/
def srcUPD : Nat := 16
def srcSUP : Nat := 17

/-! ## Register words -/

/-- The word of some fields of the register at `addr`, each as it stands in the register file. -/
def fieldsWord (s : State) (addr : Nat) : List FldRow → Nat
  | [] => 0
  | f :: t => (if f.acc = .wo then 0 else sget 0 s.regs (addr * 32 + f.lo) * 2 ^ f.lo) + fieldsWord s addr t

/-- The fields of the register at an address (R21). -/
def regFields (addr : Nat) : List FldRow := fieldsIn (blockRows addr) addr

/-- The register at an address is of this block's window (Table 1-2). -/
def inWindows (addr : Nat) : Bool := decide (0x40000000 ≤ addr) && decide (addr ≤ 0x4010FFFF)

/-- The value a field takes by a write of its access code (Table 0-4). -/
def writeField (addr : Nat) (w : Nat) (s : State) (f : FldRow) : State :=
  let fl : Fld := ⟨addr, f.lo, f.width⟩
  match f.acc with
  | .ro | .rc => s
  | .rw | .wo => s.wr fl (bitsOf w f.lo f.width)
  | .w1c => s.wr fl (s.rd fl &&& (2 ^ f.width - 1 - bitsOf w f.lo f.width))

/-- A write of a whole register under the access codes of its fields. -/
def State.writeReg (s : State) (addr w : Nat) : State := (regFields addr).foldl (writeField addr w) s

end Sys2Proof.Machine
end

