-- ==== Sys2Proof/Machine/LtuOps.lean ====
section
/-! DEFINITION. The line-time unit's operations (R40 to R65): validity and phase of the mains, slew and lock, the cycle
checkpoint, the scheduler's entries and the issue of its events. -/

namespace Sys2Proof.Machine

/-- LTU's typed part changed. -/
def State.onLtu (s : State) (f : LtuPart → LtuPart) : State := { s with ltu := f s.ltu }

/-! ## States (Table 2-1) -/

def stSTART : Nat := 0
def stLOCK : Nat := 1
def stLOST : Nat := 2
def stQUAL : Nat := 3
def stSLEW : Nat := 4

/-- The state field with LT_VIRT beside it (R44). -/
def State.ltuState (s : State) (st : Nat) : State :=
  (s.wr LTU_STAT_STATE st).wr LTU_STAT_LT_VIRT (if st = stLOCK then 0 else 1)

/-- The nominal frequency LTU_CFG.NOM in mHz. -/
def State.nominal (s : State) : Nat := if s.on LTU_CFG_NOM then 60000 else 50000

/-- The nominal frequency in Hz. -/
def State.nomHz (s : State) : Nat := if s.on LTU_CFG_NOM then 60 else 50

/-- The frequency of the virtual line (R45). -/
def State.virtualFreq (s : State) : Nat :=
  if s.rd LTU_CFG_VSRC = 0 ∧ s.rd LTU_FREQ_FREQ ≠ 0 then s.rd LTU_FREQ_FREQ else s.nominal

/-- The count of valid cycles that qualifies the mains; 0 and 1 act as 2. -/
def State.qualN (s : State) : Nat := max 2 (s.rd LTU_QUAL_QUAL_N)

/-- A cycle's frequency lies in the lock range (R41). -/
def freqInRange (f : Nat) : Bool := decide (45000 ≤ f) && decide (f ≤ 65000)

/-- The checkpoint written when c[39:16] takes a new value, and SUP's copy of it (R51). Log entry 4 (DESIGN CHOICE, DEDUCED). -/
def State.checkpoint (s : State) (oldNow : Nat) : State :=
  let h := s.ltu.now / 2 ^ 32
  if h = oldNow / 2 ^ 32 then s
  else
    let s := (s.wr LTU_CKPT_CKPT (h + 1)).raise LTU_EVT_CKPT
    { s with cfg := { s.cfg with ckptCopy := s.rd LTU_CKPT_CKPT + 1 } }

/-- Line time stepped to `t`, with the checkpoint of R51. -/
def State.stepTo (s : State) (t : Nat) : State :=
  (s.onLtu fun l => { l with now := t % 2 ^ 56, frac := 0 }).checkpoint s.ltu.now

/-- LOCK entered (R48, R52). -/
def State.enterLock (s : State) : State :=
  let s := (s.ltuState stLOCK).wr LTU_STAT_SLEW_REM 0
  let s := (s.wr LTU_STAT_SLEW_DIR 0).raise LTU_EVT_LOCK
  let s := s.onLtu fun l => { l with freq := l.measured, corr := 0, pendFreq := none }
  s.log srcLTU 0x0201 0 []

/-- SLEW with remaining error `e` (R48): up to 1,024 la of it are removed in the coming cycle. -/
def State.slewBy (s : State) (e : Int) : State :=
  let s := (s.ltuState stSLEW).wr LTU_STAT_SLEW_REM e.natAbs
  let s := s.wr LTU_STAT_SLEW_DIR (if 0 < e then 1 else 0)
  s.onLtu fun l => { l with freq := l.measured, corr := clampInt (-1024) 1024 e, pendFreq := none }

/-- A phase jump (R47, R40). -/
def State.phaseJump (s : State) (e : Int) : State :=
  ((s.raise LTU_EVT_PHASE_JUMP).log srcLTU 0x0203 0 []).slewBy e

/-- Loss of mains declared (R42): the virtual line's frequency waits for the next angle 0x0000 (R45). -/
def State.declareLoss (s : State) : State :=
  let s := (s.ltuState stLOST).wr LTU_STAT_SLEW_REM 0
  let s := (s.wr LTU_STAT_SLEW_DIR 0).raise LTU_EVT_LOSS
  let f := s.virtualFreq
  let s := s.onLtu fun l => { l with corr := 0, valids := 0, outRange := 0, pendFreq := some f }
  s.log srcLTU 0x0202 0 []

/-- The mean of R43, in mHz. Log entry 4 (DESIGN CHOICE, DEDUCED). -/
def meanFreq (l : List Nat) : Nat := l.sum / l.length

/-- LTU_FREQ written with the mean (R43). -/
def State.writeFreq (s : State) : State := s.wr LTU_FREQ_FREQ (meanFreq s.ltu.freqs)

/-- Qualification in START (R52) or QUAL: one more valid cycle. -/
def State.qualify (s : State) (e : Int) : State :=
  let s := s.onLtu fun l => { l with valids := l.valids + 1 }
  if s.ltu.valids < s.qualN then s
  else if s.rd LTU_STAT_STATE = stSTART ∧ !s.on LTU_SCHED_EN then
    let s := if s.ang = 0 then s else s.stepTo ((s.cyc + 1) * 65536)
    s.enterLock
  else s.slewBy e

/-- A cycle judged in LOCK (R42, R46, R47). -/
def State.judgeLock (s : State) (rmsOk inR : Bool) (e : Int) : State :=
  if !rmsOk || decide (2 ≤ s.ltu.outRange) then s.declareLoss
  else if !inR then s
  else
    let s := s.writeFreq
    if s.rd LTU_CFG_PJ_LIM ≠ 0 ∧ s.rd LTU_CFG_PJ_LIM * 1024 < e.natAbs then s.phaseJump e
    else s.onLtu fun l => { l with freq := l.measured, corr := 0 }

/-- A cycle judged in SLEW (R42, R48). -/
def State.judgeSlew (s : State) (rmsOk inR : Bool) (e : Int) : State :=
  if !rmsOk || decide (2 ≤ s.ltu.outRange) then s.declareLoss
  else
    let s := if inR then s.writeFreq else s
    if s.rd LTU_STAT_SLEW_REM ≤ 1024 then s.enterLock else s.slewBy e

/-- A line cycle of the reference phase judged at its closing crossing (R41 to R48);
VMIN applies once an image has been accepted (R201). Log entry 4 (DESIGN CHOICE, DEDUCED). -/
def State.judgeCycle (s : State) (freq rms : Nat) (e : Int) : State :=
  let inR := freqInRange freq
  let rmsOk := !s.mtr.accepted || decide (s.rd LTU_QUAL_VMIN ≤ rms)
  let s := s.onLtu fun l => { l with measured := freq, outRange := if inR then 0 else l.outRange + 1 }
  let s := if inR && rmsOk then
      (s.onLtu fun l => { l with freqs := (freq :: l.freqs).take 16 }).wr LTU_PHERR_E (e % 65536).toNat
    else s
  let st := s.rd LTU_STAT_STATE
  if st = stLOCK then s.judgeLock rmsOk inR e
  else if st = stSLEW then s.judgeSlew rmsOk inR e
  else if inR && rmsOk then
    if st = stLOST then (s.ltuState stQUAL).onLtu fun l => { l with valids := 1 } else s.qualify e
  else if st = stQUAL then (s.ltuState stLOST).onLtu fun l => { l with valids := 0 }
  else s.onLtu fun l => { l with valids := 0 }

/-- The first zero crossing of a new reference phase (R40). Log entry 4 (DESIGN CHOICE, DEDUCED). -/
def State.newReference (s : State) (e : Int) : State :=
  let s := s.onLtu fun l => { l with refNew := false, cycleOpen := true, outRange := 0 }
  let st := s.rd LTU_STAT_STATE
  if st = stLOCK then s.phaseJump e
  else if st = stSLEW then s.slewBy e
  else if st = stSTART ∨ st = stQUAL then s.onLtu fun l => { l with valids := 0 }
  else s

/-! ## Site line angle (R54 to R57) -/

/-- The site timeout in announcement intervals; 0 and 1 act as 2. -/
def State.siteTmo (s : State) : Nat := max 2 (s.rd LTU_SITE_CFG_TMO)

/-- The cycle count falls on an announcement. -/
def State.announceCycle (s : State) : Bool := s.cyc % 2 ^ s.rd LTU_SITE_CFG_ANN_INT == 0

/-- The better of two announcers: the lower rank, then the lower address (R56). Log entry 4 (DESIGN CHOICE, DEDUCED). -/
def Heard.better (a b : Heard) : Bool := decide (a.rank < b.rank) || (a.rank == b.rank && decide (a.addr < b.addr))

/-- The best of the announcers heard within the timeout. -/
def bestHeard (tmo : Nat) : List Heard → Option Heard
  | [] => none
  | h :: t =>
    if h.age < tmo then
      match bestHeard tmo t with
      | some b => if b.better h then some b else some h
      | none => some h
    else bestHeard tmo t

/-- The module as an announcer: a rank of 0 only follows. -/
def State.selfHeard (s : State) : Heard := ⟨s.rd NET_ADDR_MADDR, s.rd LTU_SITE_CFG_RANK, 0⟩

/-- An announcer of better rank than the module's own, heard within the timeout (R56). -/
def State.betterHeard (s : State) : Option Heard :=
  match bestHeard s.siteTmo s.ltu.heard with
  | some b => if s.rd LTU_SITE_CFG_RANK = 0 ∨ b.better s.selfHeard then some b else none
  | none => none

/-- Whom the module follows (R56): the best announcer heard, and in role MASTER only a better one. -/
def State.followed (s : State) : Option Heard :=
  if s.rd LTU_SITE_STAT_ROLE = 3 then s.betterHeard else bestHeard s.siteTmo s.ltu.heard

/-- The difference of two site times as a signed number. -/
def siteDiff (m ofs : Nat) : Int :=
  let d : Nat := (m + 2 ^ 56 - ofs % 2 ^ 56) % 2 ^ 56
  if d < 2 ^ 55 then (d : Int) else (d : Int) - 2 ^ 56

/-- The offset shown in LTU_SOFS. -/
def State.setOffset (s : State) (o : Nat) : State :=
  (s.onLtu fun l => { l with ofs := o % 2 ^ 56 }).wr LTU_SOFS_LO_OFS_LO o

/-- The bounds of what the offset may move in one local cycle so that site line time keeps Table 2-2 (R57). -/
def siteUp (rate : Nat) : Int := ((65000 * 66560 * 65536 / rate : Nat) : Int) - 65536
def siteDown (rate : Nat) : Int := ((ceilDiv (45000 * 64512 * 65536) rate : Nat) : Int) - 65536

/-- The local line's rate, in mHz times la per cycle. -/
def LtuPart.rate (l : LtuPart) : Nat := (l.freq * (65536 + l.corr).toNat)

/-- The offset moves towards the measured one by at most 64 la in a local line cycle (R57). -/
def State.slewOffset (s : State) : State :=
  match s.ltu.siteTarget with
  | none => s
  | some m =>
    if s.on LTU_STAT_SITE_OK ∧ s.rd LTU_SITE_STAT_ROLE = 2 ∧ !s.ltu.siteFrozen ∧ 0 < s.ltu.rate then
      let d := clampInt (-64) 64 (siteDiff m s.ltu.ofs)
      let d := if 0 < d then max 0 (min d (siteUp s.ltu.rate)) else min 0 (max d (siteDown s.ltu.rate))
      s.setOffset (((s.ltu.ofs : Int) + d) % (2 ^ 56 : Int)).toNat
    else s

/-! ## The scheduler (R59 to R65) -/

/-- The period of an entry in la (R60). -/
def SchedEntry.period (e : SchedEntry) : Nat := if e.frac = 0 then e.per * 65536 else 65536 / 2 ^ e.frac

/-- NEXT moved to the first due time at or after a point (R60). -/
def SchedEntry.rebase (e : SchedEntry) (p : Nat) : SchedEntry :=
  if e.en ∧ 0 < e.period then { e with next := (p + (((e.next : Int) - (p : Int)) % (e.period : Int)).toNat) % 2 ^ 56 } else e

/-- The entries of a bank. -/
def LtuPart.bank (l : LtuPart) (b : Nat) : List (Nat × SchedEntry) := if b = 0 then l.bank0 else l.bank1

/-- A bank with its entries changed. -/
def State.setBank (s : State) (b : Nat) (es : List (Nat × SchedEntry)) : State :=
  s.onLtu fun l => if b = 0 then { l with bank0 := es } else { l with bank1 := es }

/-- The active bank's number and its entries. -/
def State.actBank (s : State) : Nat := s.rd LTU_SCHED_BANK
def State.actEntries (s : State) : List (Nat × SchedEntry) := s.ltu.bank s.actBank

/-- LTU_SCHED.COUNT. -/
def State.countEntries (s : State) : State :=
  s.wr LTU_SCHED_COUNT (s.actEntries.filter fun e => e.2.en).length

/-- Every enabled entry of the active bank that `p` picks re-based to the present time of its frame (R60). -/
def State.rebaseIf (s : State) (p : SchedEntry → Bool) : State :=
  (s.setBank s.actBank (s.actEntries.map fun (i, e) =>
    (i, if p e then e.rebase (if e.site then s.siteNow else s.ltu.now) else e))).countEntries

/-- Every enabled entry of the active bank re-based. -/
def State.rebaseAll (s : State) : State := s.rebaseIf fun _ => true

/-- SITE_OK set, with its event where it was clear; the first setting re-bases the site-frame entries (R56, R57, R60). -/
def State.siteGain (s : State) : State :=
  let first := !s.ltu.siteReady
  let s := if s.on LTU_STAT_SITE_OK then s
    else ((s.raise LTU_STAT_SITE_OK).raise LTU_EVT_SITE_GAIN).log srcLTU 0x0204 0 []
  let s := s.onLtu fun l => { l with siteReady := true }
  if first ∧ s.on LTU_SCHED_EN then s.rebaseIf fun e => e.site else s

/-- The local line time at which an entry is due, as a signed number so that a site-frame entry may lie in the past.
Log entry 7 (DEDUCED). -/
def State.dueLocal (s : State) (e : SchedEntry) : Int :=
  if e.site then (s.ltu.now : Int) + siteDiff e.next s.siteNow else e.next

/-- An event that the scheduler may issue: its due time, kind, target, and its entry's index. -/
structure Due where
  due : Int
  kind : Nat
  tgt : Nat
  idx : Nat
deriving DecidableEq, Repr

/-- The order of R32 among due events: due time, kind, target. -/
def Due.before (a b : Due) : Bool :=
  decide (a.due < b.due) || (a.due == b.due && (decide (a.kind < b.kind) || (a.kind == b.kind && decide (a.tgt < b.tgt))))

/-- An entry that may be issued: enabled, of kind 1 to 5, and in the site frame only once SITE_OK was set (R61).
Log entry 2 (DESIGN CHOICE, DEDUCED). -/
def State.mayIssue (s : State) (e : SchedEntry) : Bool :=
  e.en && decide (1 ≤ e.kind) && decide (e.kind ≤ 5) && (!e.site || s.ltu.siteReady)

/-- The first of two optional events. -/
def firstDue : Option Due → Option Due → Option Due
  | none, b => b
  | a, none => a
  | some a, some b => if b.before a then some b else some a

/-- The first event of some entries. -/
def State.firstOf (s : State) : List (Nat × SchedEntry) → Option Due
  | [] => none
  | (i, e) :: t =>
    firstDue (if s.mayIssue e then some ⟨s.dueLocal e, e.kind, e.tgt, i⟩ else none) (s.firstOf t)

/-- The armed switch-over time (R64). -/
def State.swoTime (s : State) : Nat := s.rd LTU_SWO_HI_X_HI * 2 ^ 32 + s.rd LTU_SWO_LO_X_LO

/-- The armed swap time (R63). -/
def State.swapTime (s : State) : Nat := s.rd LTU_SWAP_HI_X_HI * 2 ^ 32 + s.rd LTU_SWAP_LO_X_LO

/-- The next event that LTU issues (R32, R61, R64); none while the scheduler is disabled. Log entry 2 (DESIGN CHOICE, DEDUCED). -/
def State.nextDue (s : State) : Option Due :=
  if s.on LTU_SCHED_EN then
    firstDue (if s.on LTU_SCHED_SWO_ARM then some ⟨s.swoTime, 0, 0, 0⟩ else none) (s.firstOf s.actEntries)
  else none

/-- The first line time after the present cycle. -/
def State.cycleEnd (s : State) : Nat := (s.cyc + 1) * 65536

/-- The event of this kind and target is the next one, falls in the present cycle or earlier, and before an armed
swap (R61, R63). Log entry 2 (DESIGN CHOICE, DEDUCED). -/
def State.issuable (s : State) (kind tgt : Nat) : Option Due :=
  match s.nextDue with
  | none => none
  | some d =>
    if d.kind = kind ∧ d.tgt = tgt ∧ d.due < s.cycleEnd ∧ (!s.on LTU_SCHED_SWAP_PEND ∨ d.due < s.swapTime) then some d
    else none

/-- One event more in the present angle unit; the 65th is issued in the next one (R62). Log entry 2 (DESIGN CHOICE, DEDUCED). -/
def State.countIssue (s : State) : State :=
  if s.ltu.issueAt = s.ltu.now ∧ 64 ≤ s.ltu.issueCnt then
    s.onLtu fun l => { l with now := l.now + 1, issueAt := l.now + 1, issueCnt := 1 }
  else s.onLtu fun l => { l with issueAt := l.now, issueCnt := if l.issueAt = l.now then l.issueCnt + 1 else 1 }

/-- Lateness of an issued event (R62). -/
def State.noteLate (s : State) (due : Int) : State :=
  let late := ((s.ltu.now : Int) - due).toNat
  if late = 0 then s
  else
    let s := ((s.bump LTU_LATE_LATE_CNT).maxField LTU_LATE_MAXLATE late).raise LTU_EVT_ISSUE_LATE
    if s.ltu.lateCycle = some s.cyc then s
    else (s.onLtu fun l => { l with lateCycle := some (l.now / 65536) }).log srcLTU 0x0207 0 []

/-- An entry after its event was issued (R61). -/
def SchedEntry.issued (e : SchedEntry) : SchedEntry :=
  { e with next := (e.next + e.period) % 2 ^ 56, en := !e.one }

/-- The scheduler issues the event `d`: line time reaches its due time, its entry advances, lateness is counted. -/
def State.issue (s : State) (d : Due) : State :=
  let s := (s.forwardTo d.due.toNat).countIssue
  let s := if d.kind = 0 then s.lower LTU_SCHED_SWO_ARM
    else (s.setBank s.actBank (s.actEntries.map fun (i, e) => (i, if i = d.idx then e.issued else e))).countEntries
  s.noteLate d.due

/-- A scheduled event: `f` runs with the event's due time where LTU issues it now; otherwise nothing happens.
Log entry 2 (DESIGN CHOICE, DEDUCED). -/
def State.onEvent (s : State) (kind tgt : Nat) (f : State → Nat → State) : State :=
  match s.issuable kind tgt with
  | some d => f (s.issue d) d.due.toNat
  | none => s

/-- The first due time, in local line time, at or after `start` of an entry of the active bank (R60); the next angle 0x0000
where no such entry is enabled. -/
def State.firstDueOf (s : State) (kind tgt start : Nat) : Nat :=
  match s.actEntries.find? fun e => e.2.en && e.2.kind == kind && e.2.tgt == tgt with
  | some (_, e) =>
    let d := s.dueLocal e
    if (start : Int) ≤ d ∨ e.period = 0 then d.toNat
    else start + (((d - (start : Int)) % (e.period : Int))).toNat
  | none => ceilDiv start 65536 * 65536

/-! ## Entry words (Table 2-6) -/

/-- The words of an entry. -/
def SchedEntry.word (e : SchedEntry) : Nat → Nat
  | 0 => bit e.en * 2 ^ 31 + bit e.site * 2 ^ 30 + bit e.one * 2 ^ 29 + e.kind * 2 ^ 24 + e.tgt * 2 ^ 16 + e.per
  | 1 => e.frac * 2 ^ 30 + e.len * 2 ^ 16 + e.angle
  | 2 => e.next % 2 ^ 32
  | _ => e.next / 2 ^ 32

/-- An entry with one word written. -/
def SchedEntry.write (e : SchedEntry) (k w : Nat) : SchedEntry :=
  match k with
  | 0 => { e with en := bitsOf w 31 1 == 1, site := bitsOf w 30 1 == 1, one := bitsOf w 29 1 == 1
                  kind := bitsOf w 24 3, tgt := bitsOf w 16 8, per := bitsOf w 0 16 }
  | 1 => { e with frac := bitsOf w 30 2, len := bitsOf w 16 14, angle := bitsOf w 0 16 }
  | 2 => { e with next := e.next / 2 ^ 32 * 2 ^ 32 + w % 2 ^ 32 }
  | _ => { e with next := e.next % 2 ^ 32 + bitsOf w 0 24 * 2 ^ 32 }

/-! ## The cycle boundary (R45, R49, R51, R55, R57) -/

/-- An announcement queued for sending (R55); none while PTP is not in SYNC (R304). Log entry 4 (DESIGN CHOICE, DEDUCED). -/
def State.announce (s : State) : State :=
  let role := s.rd LTU_SITE_STAT_ROLE
  if s.on LTU_SITE_CFG_EN ∧ s.rd LTU_SITE_CFG_RANK ≠ 0 ∧ s.on NET_PTP_STAT_SYNC ∧ s.announceCycle ∧
      (role = 3 ∨ (role = 2 ∧ s.on LTU_STAT_SITE_OK)) then
    { s with announced := s.announced ++ [{
        sender := BitVec.ofNat 12 (s.rd NET_ADDR_MADDR)
        rank := BitVec.ofNat 4 (s.rd LTU_SITE_CFG_RANK)
        virt := s.on LTU_STAT_LT_VIRT
        siteOk := s.on LTU_STAT_SITE_OK
        isMaster := decide (role = 3)
        siteTime := BitVec.ofNat 56 s.siteNow
        freq := s.rd LTU_FREQ_FREQ }] }
  else s

/-- One announcement interval has passed for the announcers heard (R56). -/
def State.ageHeard (s : State) : State :=
  if s.announceCycle then
    let s := s.onLtu fun l => { l with heard := l.heard.map fun h => { h with age := min 255 (h.age + 1) } }
    s.onLtu fun l => { l with quiet := if s.betterHeard.isSome then 0 else min 255 (l.quiet + 1) }
  else s

/-- The line angle passes 0x0000 and the cycle count advances by one (R49). -/
def State.boundary (s : State) : State :=
  let s := s.slewOffset.stepTo s.cycleEnd
  let s := match s.ltu.pendFreq with
    | some f => s.onLtu fun l => { l with freq := f, corr := 0, pendFreq := none }
    | none => s
  if s.on LTU_SITE_CFG_EN then s.ageHeard.announce else s

/-- An announcement from the followed module (R57), `m` the measured offset. -/
def State.measuredOffset (s : State) (m : Nat) : State :=
  if s.ltu.siteFrozen then s
  else if s.ltu.siteAcq then
    (s.setOffset m).onLtu fun l => { l with siteAcq := false, siteRun := 0, siteTarget := some m }
  else
    let d := siteDiff m s.ltu.ofs
    if 16384 < d.natAbs then
      let s := ((s.lower LTU_STAT_SITE_OK).raise LTU_EVT_SITE_JUMP).onLtu fun l =>
        { l with siteFrozen := true, siteRun := 0, siteTarget := none }
      s.log srcLTU 0x0206 0 []
    else
      let s := s.onLtu fun l => { l with siteTarget := some m, siteRun := if d.natAbs ≤ 16 then l.siteRun + 1 else 0 }
      if s.on LTU_STAT_SITE_OK then s
      else if 4 ≤ s.ltu.siteRun then s.siteGain else s

/-- An announcement received: the announcer is noted, and where the module follows it the offset is set, slewed or frozen
(R56, R57). While PTP is not in SYNC it is ignored (R304). -/
def State.announcementIn (s : State) (ann : Announcement) (localTime : BitVec 56) : State :=
  if !s.on LTU_SITE_CFG_EN || !s.on NET_PTP_STAT_SYNC then s
  else
    let h : Heard := ⟨ann.sender.toNat, ann.rank.toNat, 0⟩
    let s := s.onLtu fun l => { l with heard := h :: l.heard.filter fun x => x.addr ≠ h.addr }
    match s.followed with
    | none => s
    | some f =>
      if f.addr ≠ h.addr then s
      else
        let s := (s.wr LTU_SITE_STAT_ROLE 2).onLtu fun l => { l with quiet := if f.better s.selfHeard then 0 else l.quiet }
        let s := (s.wr LTU_SITE_STAT_MRANK f.rank).wr LTU_SITE_STAT_MADDR f.addr
        let m : Nat := (ann.siteTime.toNat + 2 ^ 56 - localTime.toNat) % 2 ^ 56
        s.measuredOffset m

end Sys2Proof.Machine
end

