-- ==== Sys2Proof/Machine/PdirOps.lean ====
section
/-! DEFINITION. The point directory's operations (R68 to R92): classes and rights, the judgement of an access, elements,
source writes, forces, definition exchange, refusals. -/

namespace Sys2Proof.Machine

/-- PDIR's typed part changed. -/
def State.onPdir (s : State) (f : PdirPart → PdirPart) : State := { s with pdir := f s.pdir }

/-- The entry of a handle. -/
def State.point (s : State) (h : Nat) : Point := sget Point.undef s.pdir.points h

/-- An entry written. -/
def State.setPoint (s : State) (h : Nat) (p : Point) : State :=
  s.onPdir fun d => { d with points := sput Point.undef d.points h p }

/-- The classes of a requester against a point. -/
inductive PClass where
  | owner | operator | other
deriving DecidableEq, Repr

/-- The class of a tag against an owner. -/
def pclass (tag owner : Nat) : PClass := if tag = owner then .owner else if tag = 0 then .operator else .other

/-- The classes that a visibility admits (Table 3-4). -/
def admits : Vis → PClass → Bool
  | _, .owner => true
  | .priv, _ => false
  | .opvis, .operator => true
  | .opvis, .other => false
  | .pub, _ => true

/-- The rights of Table 3-5. -/
inductive Right where
  | read | write | force
deriving DecidableEq, Repr

/-- The bit of ACC that holds a class's right. -/
def aclBit (c : PClass) (r : Right) : Nat :=
  (match c with | .owner => 0 | .operator => 3 | .other => 6) + (match r with | .read => 0 | .write => 1 | .force => 2)

/-- A class holds a right of a definition. -/
def PointDef.has (d : PointDef) (c : PClass) (r : Right) : Bool := d.acc.testBit (aclBit c r)

/-- A tenant is enabled (R77); tenant 0 always is. -/
def State.tenantOn (s : State) (t : Nat) : Bool := t == 0 || s.on (PDIR_TEN_CFG_EN t)

/-! ## Codes (Table 3-9, Table 3-10) -/

def cNO_POINT : Nat := 0x0301
def cNO_RIGHT : Nat := 0x0302
def cNOT_WRITABLE : Nat := 0x0303
def cTYPE_MISMATCH : Nat := 0x0304
def cFORCED_POINT : Nat := 0x0305
def cNOT_FORCED : Nat := 0x0306
def cTENANT_OFF : Nat := 0x0307
def cBUSY : Nat := 0x0308
def bPORT_FULL : Nat := 0x01
def bEXCHANGE : Nat := 0x02
def bSUP_RESTART : Nat := 0x03
def bFORCE_JOURNAL : Nat := 0x04
def bSTANDBY : Nat := 0xC0
def bPOWER_FAIL : Nat := 0xC1

/-- What PDIR decides about an access (R76). -/
inductive Verdict where
  | served (d : PointDef)
  | refused (code : Nat) (hidden : Bool)
deriving DecidableEq, Repr

/-- What an access asks for: the right, whether it is a transaction write, a value type to check, and whether it names
an element that no access may write (R76, R82). -/
structure Ask where
  right : Right
  write : Bool
  type : Option PType
  fixedElem : Bool
deriving DecidableEq, Repr

/-- PDIR's decision over a definition, in the order of R76. -/
def judgeDef (tag : Nat) (d : PointDef) (a : Ask) : Verdict :=
  let c := pclass tag d.owner
  if !admits d.vis c then .refused cNO_POINT true
  else if !d.has c a.right || a.fixedElem then .refused cNO_RIGHT false
  else if a.write && d.srcKind != 6 then .refused cNOT_WRITABLE false
  else if a.type.isSome && a.type != some d.type then .refused cTYPE_MISMATCH false
  else .served d

/-- PDIR's decision over an access (R76). -/
def State.judge (s : State) (tag h : Nat) (a : Ask) : Verdict :=
  if !s.tenantOn tag then .refused cTENANT_OFF false
  else if 8191 < h then .refused cNO_POINT false
  else match (s.point h).defn with
    | none => .refused cNO_POINT false
    | some d => judgeDef tag d a

/-- A read, a transaction write and a force as they are judged. -/
def askRead : Ask := ⟨.read, false, none, false⟩
def askWrite (t : PType) (elem : Nat) : Ask := ⟨.write, true, some t, decide (2 ≤ elem)⟩
def askForce (t : Option PType) : Ask := ⟨.force, false, t, false⟩

/-- A port whose refusals Granary records (R91): NET, HPT and SUP. -/
def recordedPort (port : Nat) : Bool := port == 7 || port == 8 || port == 10

/-- A refusal counted, shown and recorded (R91, R92). -/
def State.refuse (s : State) (port tag code reason h elem : Nat) (hidden : Bool) : State :=
  let s := if code = cBUSY then s.bump PDIR_CNT_BUSY_CNT
    else if hidden then s.bump PDIR_CNT_HIDDEN_CNT else s.bump PDIR_CNT_REFUSED_CNT
  let s := ((s.wr PDIR_LREF_A_TEN tag).wr PDIR_LREF_A_PORT port).wr PDIR_LREF_A_CODE code
  let s := ((s.wr PDIR_LREF_B_REASON reason).wr PDIR_LREF_B_ELEM elem).wr PDIR_LREF_B_HANDLE h
  let s := s.raise PDIR_EVT_REFUSED
  if recordedPort port then s.log srcPDIR 0x0344 tag [.n2 code, .n2 h] else s

/-! ## Elements (Table 3-7) -/

/-- A value as its type stores it (R69). Log entry 6 (DESIGN CHOICE, DEDUCED). -/
def storeAs (t : PType) (v : Word) : Word := if t = .bool then (if v = 0 then 0 else 1) else v

/-- The INFO element. -/
def Point.info (p : Point) : Word :=
  match p.defn with
  | none => 0
  | some d => BitVec.ofNat 32 (bit p.forced * 2 ^ 31 + d.vis.code * 2 ^ 28 + d.owner * 2 ^ 22 + d.type.code * 2 ^ 19 + p.upd.toNat)

/-- The value and quality that consumers see (R82). -/
def Point.eval (p : Point) : Word := if p.forced then p.fval else p.value
def Point.equal (p : Point) : Byte := if p.forced then 0x20 else p.qual
def Point.ets (p : Point) : Word := if p.forced then p.fts else p.ts

/-- An element of an entry. -/
def Point.elem (p : Point) : Nat → Word
  | 0 => p.eval
  | 1 => p.equal.zeroExtend 32
  | 2 => p.ets
  | 3 => p.value
  | 4 => p.qual.zeroExtend 32
  | 5 => p.ts
  | 6 => p.fval
  | _ => p.info

/-- The quality is BAD or UNSET. -/
def badQual (q : Byte) : Bool := decide (128 ≤ q.toNat)

/-- The effective value, quality and timestamp of a handle; an undefined entry is UNSET. -/
def State.effective (s : State) (h : Nat) : Word × Byte × Word :=
  let p := s.point h
  if p.defn.isNone then (0, 0xC0, 0) else (p.eval, p.equal, p.ets)

/-! ## Source writes (R72) -/

/-- The raw state written. -/
def Point.put (p : Point) (v : Word) (q : Byte) (ts : Word) : Point :=
  { p with value := (match p.defn with | some d => storeAs d.type v | none => v), qual := q, ts := ts, upd := p.upd + 1 }

/-- A point's quality written with its value kept, as a write all the same. -/
def Point.putQual (p : Point) (q : Byte) (ts : Word) : Point := { p with qual := q, ts := ts, upd := p.upd + 1 }

/-- A defined entry's source is this one. -/
def Point.fedBy (p : Point) (kind idx : Nat) : Bool :=
  match p.defn with
  | some d => d.srcKind == kind && d.srcIndex == idx
  | none => false

/-- Every entry that `sel` picks changed by `f`. -/
def State.mapPoints (s : State) (sel : Point → Bool) (f : Point → Point) : State :=
  s.onPdir fun d => { d with points := d.points.map fun (h, p) => (h, if sel p then f p else p) }

/-- A source writes the points bound to it, with the local line time of the write (R70, R72). -/
def State.sourceWrite (s : State) (kind idx : Nat) (v : Word) (q : Byte) : State :=
  s.mapPoints (fun p => p.fedBy kind idx) fun p => p.put v q s.stamp

/-- A source writes quality alone and keeps the value. -/
def State.sourceQual (s : State) (kind idx : Nat) (q : Byte) : State :=
  s.mapPoints (fun p => p.fedBy kind idx) fun p => p.putQual q s.stamp

/-- A source writes one entry, which is refused unless the entry names that source (R70). -/
def State.sourceWriteAt (s : State) (h kind idx : Nat) (v : Word) (q : Byte) (ts : Word) : State :=
  let p := s.point h
  if p.fedBy kind idx then s.setPoint h (p.put v q ts) else s

/-- The first entry bound to a source, with its handle. -/
def State.boundPoint (s : State) (kind idx : Nat) : Option (Nat × Point) :=
  s.pdir.points.find? fun hp => hp.2.fedBy kind idx

/-! ## Memory errors (R84) -/

/-- An entry after an uncorrectable error: definition and force state restored, the raw state 0 with MEM_ERROR. -/
def State.pointEcc (s : State) (h : Nat) : State :=
  let p := s.point h
  if p.defn.isNone then s
  else
    let p := { p with value := 0, qual := 0x87 }
    let p := match s.cfg.forces.find? (fun f => f.1 = h) with
      | some f => { p with forced := true, fval := f.2.value, fts := f.2.ts, ften := f.2.ten }
      | none => { p with forced := false, fval := 0, fts := 0, ften := 0 }
    let s := ((s.setPoint h p).raise PDIR_EVT_ECC).log srcPDIR 0x0343 0 [.n2 h]
    s.uncorrectable

/-! ## Mirrored points and forces (R338) -/

/-- The raw state of a point as the link carries it. -/
def State.outEntry (s : State) (h : Nat) : OutEntry :=
  let p := s.point h
  ⟨BitVec.ofNat 13 h, p.qual, p.value, p.ts⟩

/-- Entries cut into frames of at most 170, which fill a body of 2,048 bytes, LAST in the final one. -/
def outFrames (l : List OutEntry) : Nat → List LinkFrame
  | 0 => [.out l true]
  | n + 1 => if l.length ≤ 170 then [.out l true] else .out (l.take 170) false :: outFrames (l.drop 170) n

/-- A batch of points mirrored. -/
def State.mirrorPoints (s : State) (hs : List Nat) : State :=
  if hs.isEmpty then s
  else (outFrames (hs.map s.outEntry) hs.length).foldl State.mirrorOut s

/-- A force or a release mirrored. -/
def State.mirrorForce (s : State) (h op : Nat) : State :=
  let p := s.point h
  s.mirror (.force h op p.ften p.fval p.fts)

/-! ## Forces (R85, R86, R482) -/

/-- The gate that stands before every request carried by SUP: restart, a sleep state without SUP, power failure, and for a request that would
change application state a pair member not in CONTROL (R86, R343, R429). -/
def State.supGate (s : State) : Option Nat :=
  if s.hlt.supRestart ∨ 2 ≤ s.rd PWR_STAT_SLEEP then some bSUP_RESTART
  else if s.on PWR_STAT_PF then some bPOWER_FAIL
  else if s.rd PLK_STAT_ROLE ≠ 0 ∧ s.rd PLK_STAT_STATE ≠ 4 then some bSTANDBY
  else none

/-- A pending exchange would delete or retype the entry (R89). -/
def State.exchangeHits (s : State) (h : Nat) : Bool :=
  match s.pdir.shadow, (s.point h).defn with
  | some sh, some d =>
    match sh.find? (fun e => e.1 = h) with
    | some e => e.2.type != d.type
    | none => true
  | _, _ => false

/-- PDIR's result of a force or release: PD_OK is 0. -/
def State.forceResult (s : State) (code reason : Nat) : State :=
  let s := ((s.raise PDIR_FRES_DONE).wr PDIR_FRES_CODE code).wr PDIR_FRES_REASON reason
  s.reply code reason []

/-- The judgement of a force or release in the order of R482: a code with its BUSY reason, or the definition. -/
def State.judgeForce (s : State) (isForce : Bool) (tag h : Nat) (type : Option PType) : Verdict × Nat :=
  match s.supGate with
  | some r => (.refused cBUSY false, r)
  | none =>
    match s.judge tag h (askForce type) with
    | .refused c hid => (.refused c hid, 0)
    | .served d =>
      if s.pdir.jobs.any (fun j => j.handle = h) then (.refused cBUSY false, bFORCE_JOURNAL)
      else if isForce && s.exchangeHits h then (.refused cBUSY false, bEXCHANGE)
      else if !isForce && !(s.point h).forced then (.refused cNOT_FORCED false, 0)
      else (.served d, 0)

/-- A counted field of an owner and of the whole directory moved up or down by one. -/
def State.countForced (s : State) (owner : Nat) (up : Bool) : State :=
  let f := PDIR_TEN_STAT_FORCED owner
  if up then (s.wr PDIR_STAT_FORCED (s.rd PDIR_STAT_FORCED + 1)).wr f (s.rd f + 1)
  else (s.wr PDIR_STAT_FORCED (s.rd PDIR_STAT_FORCED - 1)).wr f (s.rd f - 1)

/-- A force applied in one access (R85, step 1 of R86); its record is then written. -/
def State.applyForce (s : State) (d : PointDef) (tag h : Nat) (v : Word) : State :=
  let p := s.point h
  let s := if p.forced then s else s.countForced d.owner true
  let s := s.setPoint h { p with forced := true, fval := storeAs d.type v, fts := s.stamp, ften := tag }
  (s.onPdir fun x => { x with jobs := x.jobs ++ [⟨h, true, tag⟩] }).mirrorForce h 1

/-- A release applied in one access (R85). -/
def State.applyRelease (s : State) (d : PointDef) (tag h : Nat) : State :=
  let p := s.point h
  let s := s.countForced d.owner false
  let s := s.setPoint h { p with forced := false, fval := 0, fts := 0, ften := 0 }
  (s.onPdir fun x => { x with jobs := x.jobs ++ [⟨h, false, tag⟩] }).mirrorForce h 2

/-- A force request through PDIR_FCMD (R85, R482). -/
def State.forceReq (s : State) (port tag h : Nat) (v : Word) (type : Option PType) : State :=
  match s.judgeForce true tag h type with
  | (.served d, _) => (s.applyForce d tag h v).forceResult 0 0
  | (.refused c hid, r) => (s.refuse port tag c r h 0 hid).forceResult c r

/-- A release request through PDIR_FCMD (R85, R482). -/
def State.releaseReq (s : State) (port tag h : Nat) : State :=
  match s.judgeForce false tag h none with
  | (.served d, _) => (s.applyRelease d tag h).forceResult 0 0
  | (.refused c hid, r) => (s.refuse port tag c r h 0 hid).forceResult c r

/-- The MRAM force record of a handle as it stands after a force or a release (R86). -/
def State.writeForceRec (s : State) (h : Nat) : State :=
  let p := s.point h
  let rest := s.cfg.forces.filter fun f => f.1 ≠ h
  { s with cfg := { s.cfg with forces := if p.forced then rest ++ [(h, ⟨p.fval, p.fts, p.ften⟩)] else rest } }

/-- The twin is SYNCED and has not acknowledged the FORCE frame of a handle yet (R338). -/
def State.forceUnacked (s : State) (h : Nat) : Bool :=
  s.mirrors && s.on PLK_STAT_TWIN_SYNCED &&
  (s.plk.unacked.map (fun x => x.2) ++ s.plk.waiting).any fun f => match f with
    | .force k _ _ _ _ => k == h
    | _ => false

/-- A force record is complete: Granary records it and success is reported (steps 2 to 4 of R86), in a pair with a SYNCED
twin only after the twin's acknowledgement (R338). -/
def State.forceRecorded (s : State) (j : ForceJob) : State :=
  let s := (s.writeForceRec j.handle).onPdir fun x => { x with jobs := x.jobs.filter fun k => k.handle ≠ j.handle }
  let s := if j.isForce then (s.raise PDIR_EVT_FORCE_SET).log srcPDIR 0x0341 j.ten [.n2 j.handle]
    else (s.raise PDIR_EVT_FORCE_REL).log srcPDIR 0x0342 j.ten [.n2 j.handle]
  if s.forceUnacked j.handle then s.onPlk fun p => { p with forces := p.forces ++ [j.handle] } else s.reply 0 0 []

/-! ## Reads and transaction writes -/

/-- A read of an element (R76, R82). -/
def State.readElem (s : State) (port tag h elem : Nat) : State :=
  match s.judge tag h askRead with
  | .served _ => s.reply 0 0 [(s.point h).elem elem]
  | .refused c hid => (s.refuse port tag c 0 h elem hid).reply c 0 []

/-- A transaction write (R70, R76, R82): element 0 writes the value with quality GOOD, element 1 the quality. -/
def State.transWrite (s : State) (port tag h elem : Nat) (t : PType) (v : Word) : State :=
  match s.judge tag h (askWrite t elem) with
  | .served _ =>
    let p := s.point h
    let p := if elem = 0 then p.put v 0 s.stamp else p.putQual (v.truncate 8) s.stamp
    ((s.setPoint h p).mirrorPoints [h]).reply 0 0 []
  | .refused c hid => (s.refuse port tag c 0 h elem hid).reply c 0 []

/-! ## The table window (R23, R83) -/

/-- The words of an entry as the table window returns them. -/
def Point.windowWord (h : Nat) (p : Point) (k : Nat) : Word :=
  match p.defn with
  | none => 0
  | some d =>
    match k with
    | 0 => BitVec.ofNat 32 (2 ^ 31 + bit p.forced * 2 ^ 30 + d.vis.code * 2 ^ 28 + d.owner * 2 ^ 22 + d.type.code * 2 ^ 19 + h)
    | 1 => BitVec.ofNat 32 (d.srcKind * 2 ^ 28 + d.srcIndex * 2 ^ 16 + d.acc)
    | 2 => p.eval
    | 3 => p.ets
    | 4 => BitVec.ofNat 32 (p.equal.toNat * 2 ^ 24 + p.upd.toNat)
    | 5 => p.fval
    | 6 => p.fts
    | _ => BitVec.ofNat 32 (p.ften * 2 ^ 26)

/-- A table-window read (R83): refused accesses read 0 and are recorded, without a bus error. -/
def State.windowRead (s : State) (port tag h k : Nat) : State :=
  match s.judge tag h askRead with
  | .served _ => s.answerWord ((s.point h).windowWord h k).toNat
  | .refused c hid => (s.refuse port tag c 0 h 0 hid).answerWord 0

/-- A table-window write (R83): word 2 with 32 bits is a transaction write of the entry's own type. -/
def State.windowWrite (s : State) (port tag h k size : Nat) (v : Word) : State :=
  if k = 2 ∧ size = 4 then
    let t := match (s.point h).defn with | some d => d.type | none => .bool
    match s.judge tag h (askWrite t 0) with
    | .served _ => (s.setPoint h ((s.point h).put v 0 s.stamp)).mirrorPoints [h]
    | .refused c hid => s.refuse port tag c 0 h 0 hid
  else s

/-! ## Definition exchange (R88) -/

/-- A new entry at X. -/
def Point.fresh (d : PointDef) (x : Word) : Point := ⟨some d, 0, x, 0xC0, 0, false, 0, 0, 0⟩

/-- An entry at a definition swap (Table 3-8). -/
def Point.swap (p : Point) (new : Option PointDef) (x : Word) : Point :=
  match p.defn, new with
  | none, none => p
  | none, some d => Point.fresh d x
  | some o, some d => if o.type = d.type then { p with defn := some d } else Point.fresh d x
  | some _, none => Point.undef

/-- The sorted table of entries after the swap: every handle of either copy (R88). -/
def swapPoints (old : List (Nat × Point)) (x : Word) : List (Nat × PointDef) → List (Nat × Point)
  | [] => []
  | (h, d) :: t => sput Point.undef (swapPoints old x t) h ((sget Point.undef old h).swap (some d) x)

/-- PDIR_STAT and PDIR_TENn_STAT counted anew. -/
def State.countPoints (s : State) : State :=
  let ps := s.pdir.points
  let s := (s.wr PDIR_STAT_DEFINED (ps.filter fun p => p.2.defn.isSome).length).wr PDIR_STAT_FORCED
    (ps.filter fun p => p.2.forced).length
  (List.range 64).foldl (fun s t =>
    let own := ps.filter fun p => (p.2.defn.map fun d => d.owner) == some t
    (s.wr (PDIR_TEN_STAT_OWNED t) own.length).wr (PDIR_TEN_STAT_FORCED t) (own.filter fun p => p.2.forced).length) s

/-- The definition swap at X (R88). -/
def State.definitionSwap (s : State) : State :=
  match s.pdir.shadow with
  | none => s
  | some sh =>
    let s := s.onPdir fun d => { d with points := swapPoints d.points s.stamp sh, shadow := none }
    ((s.lower PDIR_STAT_DEF_PEND).raise PDIR_EVT_SWAPPED).countPoints

end Sys2Proof.Machine
end

