-- ==== Sys2Proof/Machine/PwrOps.lean ====
section
/-! DEFINITION. Operations of the power manager that other blocks reach: wake events and whether the module works. -/

namespace Sys2Proof.Machine

/-- PWR's and HLT's typed parts changed. -/
def State.onPwr (s : State) (f : PwrPart → PwrPart) : State := { s with pwr := f s.pwr }
def State.onHlt (s : State) (f : HltPart → HltPart) : State := { s with hlt := f s.hlt }

/-- Bit `n` of a latched set. -/
def setBit (m n : Nat) : Nat := if m.testBit n then m else m + 2 ^ n

/-- A wake source is detected (R427): latched where it is enabled and the module sleeps or enters a sleep state. -/
def State.wakeEvent (s : State) (n : Nat) : State :=
  if !(s.rd PWR_WAKE_EN_EN).testBit n then s
  else if s.on PWR_STAT_ENTRY then
    (s.raiseBit PWR_WAKE_DURING n).onPwr fun p => { p with wakes := setBit p.wakes n, during := true }
  else if s.rd PWR_STAT_SLEEP ≠ 0 then s.onPwr fun p => { p with wakes := setBit p.wakes n }
  else s

/-! ## Performance levels (R422, R423) -/

/-- A change of level: to a slower level the divider switches at once; during a change only the last request is kept.
Log entry 20 (DESIGN CHOICE, DEDUCED). -/
def State.changeLevel (s : State) (lvl : Nat) : State :=
  if s.pwr.levelTo.isSome then s.onPwr fun p => { p with levelNext := some lvl }
  else if lvl = s.rd PWR_STAT_LVL then s
  else
    let s := s.onPwr fun p => { p with levelTo := some lvl }
    if s.rd PWR_STAT_LVL < lvl then s.wr PWR_STAT_LVL lvl else s

/-- The change ends: the level is in force, and a request kept is carried out. Log entry 20 (DESIGN CHOICE, DEDUCED). -/
def State.levelDone (s : State) : State :=
  match s.pwr.levelTo with
  | none => s
  | some l =>
    let next := s.pwr.levelNext
    let s := ((s.wr PWR_STAT_LVL l).raise PWR_EVT_LEVEL).onPwr fun p => { p with levelTo := none, levelNext := none }
    let s := s.log srcPWR 0x0F45 0 [.n1 l]
    match next with | some n => s.changeLevel n | none => s

/-- SUP raises the level to a faster PDECL (R423). -/
def State.raiseLevel (s : State) (pdecl : Nat) : State :=
  if pdecl < s.pwr.levelTo.getD (s.rd PWR_STAT_LVL) then s.changeLevel pdecl else s

/-! ## Whether the module works -/

/-- Power is present and the module is not in HOLD after a flush (R430). -/
def State.powered (s : State) : Bool := !s.pwr.unpowered && !s.on PWR_STAT_HOLD

/-- A helper of kind 2 MTR, 3 FBE or 4 NET has its microcode (R391). -/
def State.micro (s : State) (kind : Nat) : Bool := !s.upd.bare.contains kind

/-- The engines' clocks run: powered, no power failure and no sleep state (R424, R429). -/
def State.awake (s : State) : Bool := s.powered && !s.on PWR_STAT_PF && s.rd PWR_STAT_SLEEP == 0

/-- The module acts on the field: a single module, or a pair member in CONTROL (Table 11-1). -/
def State.inControl (s : State) : Bool := s.rd PLK_STAT_ROLE == 0 || s.rd PLK_STAT_STATE == 4

end Sys2Proof.Machine
end

