-- ==== Sys2Proof/Machine/CleOps.lean ====
section
/-! DEFINITION. The closed-loop engine's operations: declarations, one sample, groups, held and skipped samples, trips
and requests (R168 to R194). -/

namespace Sys2Proof.Machine

/-- CLE's typed part changed. -/
def State.onCle (s : State) (f : ClePart → ClePart) : State := { s with cle := f s.cle }

/-! ## Declarations (Tables 6-1 and 6-2) -/

/-- A field of a parameter word, and a whole word as a pattern. -/
def LoopDecl.fld (d : LoopDecl) (w lo n : Nat) : Nat := bitsOf (d.par.getD w 0) lo n
def LoopDecl.real (d : LoopDecl) (w : Nat) : Word := BitVec.ofNat 32 (d.par.getD w 0)
def LoopDecl.rec4 (d : LoopDecl) (w : Nat) : Word := d.record.getD w 0

def LoopDecl.tenant (d : LoopDecl) : Nat := d.fld 0 24 6
def LoopDecl.direct (d : LoopDecl) : Bool := d.fld 0 23 1 == 1
def LoopDecl.spsrc (d : LoopDecl) : Nat := d.fld 0 21 2
def LoopDecl.startAuto (d : LoopDecl) : Bool := d.fld 0 20 1 == 1
def LoopDecl.loop (d : LoopDecl) : Nat := d.fld 0 0 16
def LoopDecl.pv (d : LoopDecl) : Nat := d.fld 1 16 13
def LoopDecl.out (d : LoopDecl) : Nat := d.fld 1 0 13
def LoopDecl.sph (d : LoopDecl) : Nat := d.fld 2 16 13
def LoopDecl.svsel (d : LoopDecl) : Nat := d.fld 2 14 2
def LoopDecl.svh (d : LoopDecl) : Nat := d.fld 2 0 13
def LoopDecl.frac (d : LoopDecl) : Nat := d.fld 3 30 2
def LoopDecl.site (d : LoopDecl) : Bool := d.fld 3 29 1 == 1
def LoopDecl.gen (d : LoopDecl) : Bool := d.fld 3 28 1 == 1
def LoopDecl.group (d : LoopDecl) : Nat := d.fld 3 24 4
def LoopDecl.pvtrip (d : LoopDecl) : Nat := d.fld 3 20 4
def LoopDecl.per (d : LoopDecl) : Nat := d.fld 3 0 16
def LoopDecl.angle (d : LoopDecl) : Nat := d.fld 4 0 16
def LoopDecl.recOfs (d : LoopDecl) : Nat := d.par.getD 5 0
def LoopDecl.omin (d : LoopDecl) : Word := d.real 6
def LoopDecl.omax (d : LoopDecl) : Word := d.real 7
def LoopDecl.osafe (d : LoopDecl) : Word := d.real 8
def LoopDecl.oman (d : LoopDecl) : Word := d.real 9
def LoopDecl.spc (d : LoopDecl) : Word := d.real 10
def LoopDecl.sprate (d : LoopDecl) : Word := d.real 11
def LoopDecl.spgain (d : LoopDecl) : Word := d.rec4 0
def LoopDecl.spofs (d : LoopDecl) : Word := d.rec4 1
def LoopDecl.spmin (d : LoopDecl) : Word := d.rec4 2
def LoopDecl.spmax (d : LoopDecl) : Word := d.rec4 3
def LoopDecl.hyst (d : LoopDecl) : Word := d.rec4 7
/-- The lower bound of region 1 to 3. -/
def LoopDecl.bp (d : LoopDecl) (r : Nat) : Word := d.rec4 (3 + r)
/-- KP, KI, KD and TF of a region. -/
def LoopDecl.gains (d : LoopDecl) (r : Nat) : List Word := (List.range 4).map fun k => d.rec4 (8 + 4 * r + k)
def LoopDecl.isZone (d : LoopDecl) : Bool := decide (64 ≤ d.loop)
/-- The gains of every region. -/
def LoopDecl.coefs (d : LoopDecl) : List (List Word) := if d.isZone then [d.gains 0, d.gains 1, d.gains 2, d.gains 3] else [d.gains 0]
/-- The period in la. -/
def LoopDecl.period (d : LoopDecl) : Nat := if d.frac = 0 then d.per * 65536 else 65536 / 2 ^ d.frac

/-- Modes of Table 6-4. -/
def lmAUTO : Nat := 1
def lmMANUAL : Nat := 2
def lmTRIPPED : Nat := 3

/-! ## The set of loops -/

/-- A declared loop, and a loop changed. -/
def State.loop (s : State) (n : Nat) : Option Loop := (s.cle.loops.find? fun x => x.1 == n).map fun x => x.2
def State.setLoop (s : State) (n : Nat) (f : Loop → Loop) : State :=
  s.onCle fun c => { c with loops := c.loops.map fun x => if x.1 = n then (n, f x.2) else x }

/-- CLE_STAT counted anew. -/
def State.countLoops (s : State) : State :=
  let m := s.cle.loops.map fun x => s.rd (CLE_LOOP_STAT_MODE x.1)
  let c := fun k => (m.filter fun x => x == k).length
  (((s.wr CLE_STAT_DECL m.length).wr CLE_STAT_AUTO (c lmAUTO)).wr CLE_STAT_MANUAL (c lmMANUAL)).wr CLE_STAT_TRIPPED (c lmTRIPPED)

/-- The coefficients in force of the current region shown. -/
def State.showCoef (s : State) (n : Nat) (L : Loop) : State :=
  let g := L.coef.getD (s.rd (CLE_LOOP_STAT_REGION n)) []
  (((s.wrReal (CLE_LOOP_KP_VAL n) (g.getD 0 0)).wrReal (CLE_LOOP_KI_VAL n) (g.getD 1 0)).wrReal (CLE_LOOP_KD_VAL n)
    (g.getD 2 0)).wrReal (CLE_LOOP_TF_VAL n) (g.getD 3 0)

/-- The loop's record in the active configuration (R181, R194). Log entry 8 (DESIGN CHOICE, DEDUCED). -/
def State.saveLoop (s : State) (n : Nat) : State :=
  match s.loop n with
  | none => s
  | some L =>
    let r : LoopSaved := ⟨s.rd (CLE_LOOP_STAT_MODE n), s.real (CLE_LOOP_MAN_VAL n), L.coef, s.rd (CLE_LOOP_STAT_TRIPSRC n)⟩
    { s with cfg := { s.cfg with loops := (n, r) :: s.cfg.loops.filter fun x => x.1 ≠ n } }

/-- A mode set. -/
def State.setMode (s : State) (n m : Nat) : State := (s.wr (CLE_LOOP_STAT_MODE n) m).countLoops

/-- MANUAL entered: coefficients that waited for it take effect (R188). -/
def State.enterManual (s : State) (n : Nat) (man : Word) : State :=
  let s := ((s.wrReal (CLE_LOOP_MAN_VAL n) man).setMode n lmMANUAL).lower (CLE_LOOP_STAT_COEF_PEND n)
  let s := s.setLoop n fun L => match L.coefNext with
    | some c => { L with coef := c, coefNext := none }
    | none => L
  match s.loop n with
  | some L => s.showCoef n L
  | none => s

/-! ## One sample (R172 to R178, R186) -/

/-- The measured time since the last computed sample exceeds 4 nominal periods (R173). -/
def overdue (count period hz : Nat) : Bool := decide (4 * period * 25000000 < count * 65536 * hz)

/-- The pulse frequency of R178. -/
def Loop.pulse (L : Loop) (s : State) (v ts : Word) : Word :=
  let t := ts - L.pts
  if L.first then 0
  else if t = 0 then L.pfreq
  else
    let f := if s.rd LTU_FREQ_FREQ = 0 then fOfRatio s.nomHz 1 else fOfRatio (s.rd LTU_FREQ_FREQ) 1000
    xDiv (utof (v - L.pcnt)) (xDiv (utof t) (xMul (utof 65536) f))

/-- The target of the set-point (Table 6-3, R178), with the pulse frequency found. -/
def State.loopTarget (s : State) (L : Loop) : Word × Word :=
  let d := L.decl
  if d.spsrc = 0 then (d.spc, L.pfreq)
  else
    let (v, q, ts) := s.effective d.sph
    let f := if d.spsrc = 3 then L.pulse s v ts else L.pfreq
    if badQual q then (L.tgt.getD d.spc, f)
    else if d.spsrc = 1 then (fFlush v, f)
    else if d.spsrc = 2 then (xAdd (xMul d.spgain v) d.spofs, f)
    else (xAdd (xMul d.spgain f) d.spofs, f)

/-- The set-point after limits and ramp (R177). -/
def Loop.setPoint (L : Loop) (tgt sp dt : Word) : Word :=
  let lim := fLim tgt L.decl.spmin L.decl.spmax
  if L.first || L.tgt.isNone || !fLt 0 L.decl.sprate then lim
  else
    let st := xMul L.decl.sprate dt
    fLim lim (xSub sp st) (xAdd sp st)

/-- The region moved up and then down (R186). -/
def regionUp (d : LoopDecl) (h s : Word) : Nat → Nat → Nat
  | 0, r => r
  | k + 1, r => if r < 3 ∧ !fLt s (xAdd (d.bp (r + 1)) h) then regionUp d h s k (r + 1) else r
def regionDown (d : LoopDecl) (h s : Word) : Nat → Nat → Nat
  | 0, r => r
  | k + 1, r => if 0 < r ∧ fLt s (xSub (d.bp r) h) then regionDown d h s k (r - 1) else r

/-- The region of a sample (R186). -/
def State.region (s : State) (L : Loop) (r : Nat) (x sp : Word) : Nat :=
  let d := L.decl
  if !d.isZone then 0
  else
    let (sv, bad) := if d.svsel = 0 then (x, false) else if d.svsel = 1 then (sp, false)
      else let e := s.effective d.svh; (e.1, badQual e.2.1)
    if bad || isNaN sv then r
    else
      let h := if L.first then 0 else d.hyst
      regionDown d h sv 3 (regionUp d h sv 3 (if L.first then 0 else r))

/-- The values of one computed sample. -/
structure LoopStep where
  q : Word
  sp : Word
  tgt : Word
  pfreq : Word
  region : Nat
  p : Word
  i : Word
  d : Word
  v : Word
  u : Word
deriving DecidableEq, Repr

/-- The control law of R172 at the 25 MHz count `xtal`; none where PV is BAD or UNSET or v is NaN (R175, R192). -/
def State.sample (s : State) (n : Nat) (L : Loop) (xtal : Nat) : Option LoopStep :=
  let dl := L.decl
  let (x, pq, _) := s.effective dl.pv
  if badQual pq then none
  else
    let x := fFlush x
    let fresh := L.first || overdue (xtal - L.xtal) dl.period s.nomHz
    let dt := if fresh then fOfRatio dl.period (65536 * s.nomHz) else fOfRatio (xtal - L.xtal) 25000000
    let q := if dl.direct then x else fNeg x
    let qp := if fresh then q else L.qprev
    let (tgt, pf) := s.loopTarget L
    let sp := L.setPoint tgt (s.real (CLE_LOOP_SP_VAL n)) dt
    let e := if dl.direct then xSub q sp else xAdd sp q
    let r0 := s.rd (CLE_LOOP_STAT_REGION n)
    let r := s.region L r0 x sp
    let g := L.coef.getD r []
    let tf := g.getD 3 0
    let p := xMul (g.getD 0 0) e
    let d := if fFlush tf == 0 && fFlush dt == 0 then 0
      else xDiv (xAdd (xMul tf (s.real (CLE_LOOP_D_VAL n))) (xMul (g.getD 2 0) (xSub q qp))) (xAdd tf dt)
    let i := if r != r0 || L.rechg then xSub (xSub L.uApp p) d
      else xAdd (s.real (CLE_LOOP_I_VAL n)) (xMul (g.getD 1 0) (xMul e dt))
    let v := xAdd (xAdd p i) d
    if isNaN v then none
    else some ⟨q, sp, tgt, pf, r, p, i, d, v, fLim v dl.omin dl.omax⟩

/-! ## Units: a loop, or a group at its head (R183 to R185, R189) -/

/-- The loops that are processed with loop `n`: itself, or the members of its group in ascending number. -/
def State.unit (s : State) (n : Nat) : List Nat :=
  match s.loop n with
  | none => []
  | some L =>
    if L.decl.gen then
      ((List.range 128).filter fun m => match s.loop m with
        | some M => M.decl.gen && M.decl.group == L.decl.group
        | none => false)
    else [n]

/-- What a sample of a member was. -/
inductive Sampled where
  | computed (st : LoopStep)
  | held
  | tripped
deriving DecidableEq, Repr

/-- A trip (R194): 1 held samples, 2 overrun. Log entry 8 (DESIGN CHOICE, DEDUCED). -/
def State.trip (s : State) (n cause : Nat) : State :=
  match s.loop n with
  | none => s
  | some L =>
    let s := (s.setMode n lmTRIPPED).wr (CLE_LOOP_STAT_TRIPSRC n) cause
    ((s.raise CLE_EVT_TRIP).log srcCLE 0x0641 L.decl.tenant [.n1 n, .n1 cause]).saveLoop n

/-- A held sample counted (R192). Log entry 8 (DESIGN CHOICE, DEDUCED). -/
def State.hold (s : State) (n : Nat) (L : Loop) : State :=
  let new := !s.on (CLE_LOOP_STAT_HELD n)
  let c := min 15 (s.rd (CLE_LOOP_STAT_HOLDCONS n) + 1)
  let s := ((s.bump (CLE_LOOP_CNT_HELD n)).raise CLE_EVT_HOLD).wr (CLE_LOOP_STAT_HOLDCONS n) c
  let s := if new then (s.raise (CLE_LOOP_STAT_HELD n)).log srcCLE 0x0643 L.decl.tenant [.n1 n] else s
  if L.decl.pvtrip ≠ 0 ∧ L.decl.pvtrip ≤ c then s.trip n 1 else s

/-- A member computed, held or found TRIPPED, with its offer of R184. -/
def State.sampleMember (xtal : Nat) (sm : State × List (Nat × Sampled)) (n : Nat) : State × List (Nat × Sampled) :=
  let s := sm.1
  match s.loop n with
  | none => sm
  | some L =>
    let offer := fun (s : State) (w : Word) => s.setLoop n fun L => { L with offer := w }
    if s.rd (CLE_LOOP_STAT_MODE n) = lmTRIPPED then (offer s L.decl.osafe, sm.2 ++ [(n, .tripped)])
    else match s.sample n L xtal with
      | some st =>
        let w := if s.rd (CLE_LOOP_STAT_MODE n) = lmAUTO then st.u else s.real (CLE_LOOP_MAN_VAL n)
        (offer s w, sm.2 ++ [(n, .computed st)])
      | none =>
        let s := s.hold n L
        if s.rd (CLE_LOOP_STAT_MODE n) = lmTRIPPED then (offer s L.decl.osafe, sm.2 ++ [(n, .tripped)])
        else (s, sm.2 ++ [(n, .held)])

/-- The offer of a loop. -/
def State.offer (s : State) (n : Nat) : Word := match s.loop n with | some L => L.offer | none => 0

/-- The winner among members: the smallest offer, and among equal offers the lowest loop number. -/
def State.winner (s : State) : List (Nat × Sampled) → Option (Nat × Sampled)
  | [] => none
  | m :: t =>
    match s.winner t with
    | none => some m
    | some b => if fLt (s.offer b.1) (s.offer m.1) then some b else some m

/-- A computed member's state after its output is resolved (R174). -/
def State.settle (s : State) (n : Nat) (xtal : Nat) (st : LoopStep) (ua : Word) : State :=
  let i := if fEq ua st.v then st.i else xSub (xSub ua st.p) st.d
  let s := if st.region ≠ s.rd (CLE_LOOP_STAT_REGION n) then s.bump (CLE_LOOP_CNT_REGCHG n) else s
  let s := (s.wr (CLE_LOOP_STAT_REGION n) st.region).lower (CLE_LOOP_STAT_HELD n)
  let s := s.wr (CLE_LOOP_STAT_HOLDCONS n) 0
  let s := ((s.wrReal (CLE_LOOP_U_VAL n) st.u).wrReal (CLE_LOOP_I_VAL n) i).wrReal (CLE_LOOP_D_VAL n) st.d
  let s := s.wrReal (CLE_LOOP_SP_VAL n) st.sp
  let s := s.setLoop n fun L => { L with
    qprev := st.q, tgt := some st.tgt, uApp := ua, xtal := xtal, first := false, rechg := false, pfreq := st.pfreq }
  match s.loop n with
  | some L => s.showCoef n L
  | none => s

/-- The count and timestamp of the pulse channel kept for the next sample (R178). -/
def State.keepPulse (s : State) (n : Nat) : State :=
  match s.loop n with
  | none => s
  | some L =>
    if L.decl.spsrc = 3 then
      let e := s.effective L.decl.sph
      s.setLoop n fun L => { L with pcnt := e.1, pts := e.2.2 }
    else s

/-- OUT rewritten with its present value and a quality. -/
def State.outQual (s : State) (n h : Nat) (q : Byte) : State :=
  let p := s.point h
  if p.fedBy 3 n then s.setPoint h (p.putQual q s.stamp) else s

/-- A member's state settled and its OUT point written (R176, R184, Table 6-4). -/
def State.finish (xtal : Nat) (win : Nat × Sampled) (g : Word) (head : Nat) (s : State) (m : Nat × Sampled) : State :=
  let n := m.1
  match s.loop n with
  | none => s
  | some L =>
    let s := match m.2 with
      | .computed st =>
        let own := if s.rd (CLE_LOOP_STAT_MODE n) = lmAUTO then st.u else s.real (CLE_LOOP_MAN_VAL n)
        (s.settle n xtal st (if L.decl.gen then g else own)).keepPulse n
      | _ => s
    let s := s.wr (CLE_LOOP_STAT_WINNER n) (bit (L.decl.gen && win.1 == n))
    let s := s.lower (CLE_LOOP_STAT_OVR n)
    if L.decl.gen && n == head then
      let q : Byte := match win.2 with | .computed _ => 0 | .held => 0x41 | .tripped => 0x86
      s.sourceWriteAt L.decl.out 3 n g q s.stamp
    else match m.2 with
      | .computed _ => s.sourceWriteAt L.decl.out 3 n L.offer 0 s.stamp
      | .held => s.outQual n L.decl.out 0x41
      | .tripped => s.sourceWriteAt L.decl.out 3 n L.decl.osafe 0x86 s.stamp

/-- Nanoseconds of a count of angle units at the oscillator's frequency, and angle units of nanoseconds, rounded up. -/
def State.nsOf (s : State) (la : Nat) : Nat := ceilDiv (la * 1000000000000) (65536 * s.ltu.freq)
def State.laOf (s : State) (ns : Nat) : Nat := ceilDiv (ns * 65536 * s.ltu.freq) 1000000000000

/-- The delay of a member's output, from its due time to its write (R191). -/
def State.noteDelay (due exec : Nat) (s : State) (n : Nat) : State :=
  match s.loop n with
  | none => s
  | some L =>
    let dly := s.nsOf (s.ltu.now - due) + exec
    let wrote := s.ltu.now + s.laOf exec
    let s := (s.wr (CLE_LOOP_DLY_LAST n) (min 65535 dly)).maxField (CLE_LOOP_DLY_MAX n) dly
    let s := s.setLoop n fun L => { L with wrote := wrote }
    let s := if wrote < due + L.decl.period then s.wr (CLE_LOOP_STAT_OVRCONS n) 0 else s
    if s.rd (CLE_LOOP_BOUND_BOUND n) < dly then
      ((s.bump (CLE_LOOP_CNT_LATE n)).raise CLE_EVT_LATE).log srcCLE 0x0646 L.decl.tenant [.n1 n]
    else s

/-- A group's registers after a sample. -/
def State.showGroup (s : State) (head : Nat) (win : Nat) (g : Word) : State :=
  match s.loop head with
  | some L => if L.decl.gen then (s.wr (CLE_GRP_STAT_WINNER L.decl.group) win).wrReal (CLE_GRP_OUT_G L.decl.group) g else s
  | none => s

/-- A loop's state as the link carries it, with the due time of its sample (Table 11-4). -/
def State.loopMirror (s : State) (n due : Nat) (L : Loop) : LoopMirror where
  loop := Fin.ofNat 128 n
  mode := BitVec.ofNat 3 (s.rd (CLE_LOOP_STAT_MODE n))
  region := Fin.ofNat 4 (s.rd (CLE_LOOP_STAT_REGION n))
  held := BitVec.ofNat 4 (s.rd (CLE_LOOP_STAT_HOLDCONS n))
  overruns := BitVec.ofNat 2 (s.rd (CLE_LOOP_STAT_OVRCONS n))
  due := BitVec.ofNat 56 due
  i := s.real (CLE_LOOP_I_VAL n)
  d := s.real (CLE_LOOP_D_VAL n)
  qprev := L.qprev
  sp := s.real (CLE_LOOP_SP_VAL n)
  man := s.real (CLE_LOOP_MAN_VAL n)
  pcnt := L.pcnt
  pts := L.pts

/-- A loop's output and, after a computed or held sample, its state mirrored (R338). -/
def State.mirrorLoop (due : Nat) (state : Bool) (s : State) (n : Nat) : State :=
  match s.loop n with
  | none => s
  | some L =>
    let s := s.mirrorPoints [L.decl.out]
    if state && s.rd (CLE_LOOP_STAT_MODE n) != lmTRIPPED then s.mirror (.loop (s.loopMirror n due L)) else s

/-- A unit sampled (R172 to R176, R184, R191). -/
def State.runUnit (s : State) (ms : List Nat) (due xtal exec : Nat) : State :=
  let (s, res) := ms.foldl (State.sampleMember xtal) (s, [])
  match s.winner res, ms.head? with
  | some w, some h =>
    let g := s.offer w.1
    let s := (res.foldl (State.finish xtal w g h) s).showGroup h w.1 g
    ms.foldl (State.mirrorLoop due true) (ms.foldl (State.noteDelay due exec) s)
  | _, _ => s

/-- A member's sample skipped (R193). -/
def State.skipSample (s : State) (n : Nat) : State :=
  match s.loop n with
  | none => s
  | some L =>
    let c := s.rd (CLE_LOOP_STAT_OVRCONS n) + 1
    let s := (s.raise (CLE_LOOP_STAT_OVR n)).bump (CLE_LOOP_CNT_OVERRUN n)
    let s := (s.raise CLE_EVT_OVERRUN).log srcCLE 0x0642 L.decl.tenant [.n1 n]
    let s := s.wr (CLE_LOOP_STAT_OVRCONS n) (min 2 c)
    let s := if 3 ≤ c ∧ s.rd (CLE_LOOP_STAT_MODE n) ≠ lmTRIPPED then s.trip n 2 else s
    if s.rd (CLE_LOOP_STAT_MODE n) = lmTRIPPED then s.sourceWriteAt L.decl.out 3 n L.decl.osafe 0x86 s.stamp
    else s.outQual n L.decl.out 0x41

/-- CLE takes samples: clocks on, no sleep entry, and the module acts on the field or is the incoming module of a switch-over
whose X has passed (R195, R335, R426, Table 11-1). -/
def State.cleRuns (s : State) : Bool := s.awake && !s.on PWR_STAT_ENTRY && (s.inControl || s.plk.atX)

/-- A kind 3 event at its due time: the unit of its head is sampled or skipped; other members wait for their head. -/
def State.loopEvent (s : State) (n due xtal exec : Nat) : State :=
  if !s.cleRuns then s
  else
    let ms := s.unit n
    if ms.head? ≠ some n then s
    else if ms.any fun m => match s.loop m with | some L => decide (due < L.wrote) | none => false then
      ms.foldl (State.mirrorLoop due false) (ms.foldl State.skipSample s)
    else s.runUnit ms due xtal exec

/-! ## Requests (R180, R181, R187) -/

/-- The result shown in CLE_CRES and answered. -/
def State.loopResult (s : State) (code reason : Nat) : State :=
  ((s.raise CLE_CRES_DONE).wr CLE_CRES_CODE code).reply code reason []

/-- The values that a request carries are good (R180, R187). -/
def LoopJob.valuesOk (j : LoopJob) : Bool :=
  if j.op = 5 then j.vals.all isFinite && !fLt (j.vals.getD 3 0) 0
  else if j.op = 3 || (j.op = 2 && j.hasVal) then isFinite (j.vals.getD 0 0)
  else true

/-- The judgement of a request after the BUSY reasons, in the order of R180: a refusal code, or none. -/
def State.judgeLoop (s : State) (j : LoopJob) : Option Nat :=
  match s.loop j.loop with
  | none => some 0x0605
  | some L =>
    match s.judge j.ten L.decl.out (askForce none) with
    | .refused c _ => some c
    | .served _ =>
      let m := s.rd (CLE_LOOP_STAT_MODE j.loop)
      if m = lmTRIPPED ∧ j.op ≠ 4 then some 0x0602
      else if !j.valuesOk then some 0x0603
      else if (j.op = 3 ∧ m ≠ lmMANUAL) ∨ (j.op = 5 ∧ !L.decl.isZone ∧ (j.region ≠ 0 ∨ m ≠ lmMANUAL)) then some 0x0601
      else if j.op = 5 ∧ s.on CXE_STAT_EXCH_PEND ∧ s.cle.next.any (fun x => x.1 == j.loop) then some 0x0604
      else none

/-- A value limited to the loop's output range. -/
def Loop.limit (L : Loop) (w : Word) : Word := fLim w L.decl.omin L.decl.omax

/-- An accepted request's effect (R180, R187), and whether it changed anything. -/
def State.loopEffect (s : State) (j : LoopJob) (L : Loop) : State × Bool :=
  let n := j.loop
  let m := s.rd (CLE_LOOP_STAT_MODE n)
  let v := j.vals.getD 0 0
  match j.op with
  | 1 => if m = lmMANUAL then (s.setMode n lmAUTO, true) else (s, false)
  | 2 => if m = lmAUTO then (s.enterManual n (L.limit (if j.hasVal then v else s.real (CLE_LOOP_U_VAL n))), true) else (s, false)
  | 3 => if m = lmMANUAL then (s.wrReal (CLE_LOOP_MAN_VAL n) (L.limit v), true) else (s, false)
  | 4 =>
    if m = lmTRIPPED then
      let s := ((s.enterManual n L.decl.osafe).wr (CLE_LOOP_STAT_TRIPSRC n) 0).setLoop n fun L => { L with first := true }
      (s, true)
    else (s, false)
  | _ =>
    if m = lmTRIPPED then (s, false)
    else
      let now := s.rd (CLE_LOOP_STAT_REGION n) == j.region
      let s := s.setLoop n fun L => { L with
        coef := L.coef.set j.region (j.vals.take 4), rechg := L.rechg || (L.decl.isZone && now) }
      match s.loop n with
      | some L => (s.showCoef n L, true)
      | none => (s, true)

/-- An accepted request applied, its record written, and CL_DONE returned (R181). -/
def State.applyLoop (s : State) (j : LoopJob) : State :=
  match s.loop j.loop with
  | none => s.loopResult 0x0605 0
  | some L =>
    let r := s.loopEffect j L
    let s := if r.2 then (r.1.saveLoop j.loop).log srcCLE (if j.op = 5 then 0x0645 else 0x0644) j.ten [.n1 j.loop] else r.1
    s.loopResult 0x0600 0

/-- The waiting requests of a loop judged until one is accepted; refused ones leave the queue. -/
def State.serveLoop (s : State) (n : Nat) : Nat → State
  | 0 => s
  | k + 1 =>
    match s.cle.jobs.find? (fun j => j.loop == n) with
    | none => s
    | some j =>
      if j.accepted then s
      else
        let drop := fun (s : State) => s.onCle fun c => { c with jobs := c.jobs.erase j }
        match s.supGate with
        | some r => ((drop s).loopResult cBUSY r).serveLoop n k
        | none =>
          match s.judgeLoop j with
          | some code => ((drop s).loopResult code 0).serveLoop n k
          | none => s.onCle fun c => { c with jobs := c.jobs.map fun x => if x = j then { j with accepted := true } else x }

/-- A request written to CLE_CMD: it waits behind earlier requests for the loop. -/
def State.loopRequest (s : State) (j : LoopJob) : State :=
  let s := (s.lower CLE_CRES_DONE).onCle fun c => { c with jobs := c.jobs ++ [j] }
  s.serveLoop j.loop (s.cle.jobs.length + 1)

/-- The values of CLE_CVAL. -/
def State.cvals (s : State) : List Word := (List.range 4).map fun k => s.real (CLE_CVAL_VAL k)

end Sys2Proof.Machine
end

