-- ==== Sys2Proof/Machine/Cle.lean ====
section
/-! DEFINITION. The meanings of the closed-loop commands (spec/06_loop_engine.md). -/

namespace Sys2Proof.Machine

/-- LOOP_SAMPLE: LTU issues the kind 3 event; `xtal` is CLE's 25 MHz count and `exec` the time in ns from issue to the
OUT write (R172 to R176, R189 to R193). Log entry 8 (DESIGN CHOICE, DEDUCED). -/
def execLoopSample (loop : Fin 128) (xtal exec : Nat) (s : State) : Host.Outcome State Fault Refusal :=
  .next (s.onEvent 3 loop.val fun s due => s.loopEvent loop.val due xtal exec)

/-- LOOP_AUTO: a write of CLE_CMD with OP 1 (R180). -/
def execLoopAuto (ten : Tenant) (loop : Fin 128) (s : State) : Host.Outcome State Fault Refusal :=
  .next (s.loopRequest ⟨loop.val, 1, ten.val, 0, false, s.cvals, false⟩)

/-- LOOP_MANUAL: a write of CLE_CMD with OP 2; `val` is VAL (R180). -/
def execLoopManual (ten : Tenant) (loop : Fin 128) (val : Bool) (s : State) : Host.Outcome State Fault Refusal :=
  .next (s.loopRequest ⟨loop.val, 2, ten.val, 0, val, s.cvals, false⟩)

/-- LOOP_MANOUT: a write of CLE_CMD with OP 3 (R180). -/
def execLoopManout (ten : Tenant) (loop : Fin 128) (s : State) : Host.Outcome State Fault Refusal :=
  .next (s.loopRequest ⟨loop.val, 3, ten.val, 0, true, s.cvals, false⟩)

/-- LOOP_RESET: a write of CLE_CMD with OP 4 (R180). -/
def execLoopReset (ten : Tenant) (loop : Fin 128) (s : State) : Host.Outcome State Fault Refusal :=
  .next (s.loopRequest ⟨loop.val, 4, ten.val, 0, false, s.cvals, false⟩)

/-- LOOP_COEF: a write of CLE_CMD with OP 5 (R187). -/
def execLoopCoef (ten : Tenant) (loop : Fin 128) (region : Fin 4) (s : State) : Host.Outcome State Fault Refusal :=
  .next (s.loopRequest ⟨loop.val, 5, ten.val, region.val, true, s.cvals, false⟩)

/-- LOOP_REQUEST_APPLY: the accepted request takes effect between two samples, and the next waiting one is judged (R181). -/
def execLoopRequestApply (loop : Fin 128) (s : State) : Host.Outcome State Fault Refusal :=
  match s.cle.jobs.find? (fun j => j.loop == loop.val && j.accepted) with
  | none => .next s
  | some j =>
    let s := (s.onCle fun c => { c with jobs := c.jobs.erase j }).applyLoop j
    .next (s.serveLoop loop.val (s.cle.jobs.length + 1))

end Sys2Proof.Machine
end

