-- ==== Sys2Proof/Machine/KsuOps.lean ====
section
/-! DEFINITION. Hearth's operations: slots, ancestry and usability, the checks before a key is used, requests with their
operands, management operations with their journal, use operations and their units (R348 to R367). -/

namespace Sys2Proof.Machine

/-- KSU's typed part changed. -/
def State.onKsu (s : State) (f : KsuPart → KsuPart) : State := { s with ksu := f s.ksu }

/-! ## Codes (Table 12-11) -/

def ksOK : Nat := 0x0C00
def ksORPHAN_AFTER : Nat := 0x0C01
def ksORPHANED : Nat := 0x0C02
def ksNO_SLOT : Nat := 0x0C03
def ksUSAGE : Nat := 0x0C04
def ksLC : Nat := 0x0C05
def ksFULL : Nat := 0x0C06
def ksFIXED : Nat := 0x0C07
def ksBAD_INPUT : Nat := 0x0C08
def ksAUTH_FAIL : Nat := 0x0C09
def ksNOT_ORPHAN : Nat := 0x0C0A
def ksHAS_CHILD : Nat := 0x0C0B
def ksDEPTH : Nat := 0x0C0C
def ksTOKEN : Nat := 0x0C0D
def ksPOWERFAIL : Nat := 0x0C0E
def ksTAMPER_LOCK : Nat := 0x0C0F
def ksQUEUE_FULL : Nat := 0x0C10
def ksJOURNAL_FULL : Nat := 0x0C11

/-! ## Slots (R348 to R351) -/

/-- The key of a slot; none in a free slot. -/
def keyAt (l : List (Nat × KeySlot)) (n : Nat) : Option KeySlot := (l.find? fun x => x.1 == n).map fun x => x.2
def State.key (s : State) (n : Nat) : Option KeySlot := keyAt s.ksu.slots n

/-- A slot table with a slot set or freed, in rising order of slots. -/
def putKey (l : List (Nat × KeySlot)) (n : Nat) (k : Option KeySlot) : List (Nat × KeySlot) :=
  match k with
  | some k => sins (sdel l n) n k
  | none => sdel l n

/-- The ancestors of a slot, nearest first; at most 7 are followed. -/
def ancestors (l : List (Nat × KeySlot)) : Nat → Nat → List Nat
  | 0, _ => []
  | f + 1, n =>
    match keyAt l n with
    | some k => if k.pkind = 2 then k.parent :: ancestors l f k.parent else []
    | none => []

/-- A slot's depth, and whether it or an ancestor is invalidated (R350). -/
def depthOf (l : List (Nat × KeySlot)) (n : Nat) : Nat := (ancestors l 7 n).length
def orphanIn (l : List (Nat × KeySlot)) (n : Nat) : Bool :=
  (n :: ancestors l 7 n).any fun m => match keyAt l m with | some k => k.invalid | none => false
def State.orphan (s : State) (n : Nat) : Bool := orphanIn s.ksu.slots n

/-- The attribute word of a key (Table 12-1). -/
def KeySlot.attr (k : KeySlot) : Nat :=
  2 ^ 31 + bit k.invalid * 2 ^ 30 + bit k.exportable * 2 ^ 29 + k.origin * 2 ^ 27 + k.type * 2 ^ 24 + k.usage * 2 ^ 17 +
  k.tenant * 2 ^ 11 + k.lcmask * 2 ^ 5 + k.pkind * 2 ^ 3

/-- The status word of a slot as KSU_SLOTnnn_STAT shows it. -/
def State.slotStat (s : State) (n : Nat) : Nat :=
  match s.key n with
  | none => 0xFF * 2 ^ 24
  | some k =>
    let busy := s.ksu.ops.any fun o => o.started && (o.slot == n)
    (if k.pkind = 2 then k.parent else 0xFF) * 2 ^ 24 + bit (s.orphan n) * 2 ^ 23 + bit busy * 2 ^ 22 +
    depthOf s.ksu.slots n * 2 ^ 19 + min k.uses 65535

/-- The usage bits. -/
def uSIGN : Nat := 6
def uVERIFY : Nat := 5
def uENCRYPT : Nat := 4
def uDECRYPT : Nat := 3
def uMAC : Nat := 2
def uDERIVE : Nat := 1
def uWRAP : Nat := 0

/-- The usages that a type admits (Table 12-2). -/
def usagesOf : Nat → Nat
  | 0 => 0x1D | 1 => 0x1D | 2 => 0x43 | 3 => 0x20 | 4 => 0x02 | _ => 0

/-- The length of a type's material. -/
def materialLen (type : Nat) : Nat := if type = 0 then 16 else if type = 3 then 64 else 32

/-- The life-cycle state, and whether a key's mask admits it. -/
def State.lc (s : State) : Nat := s.rd KSU_STAT_LC
def State.lcAdmits (s : State) (k : KeySlot) : Bool := s.lc != 5 && k.lcmask.testBit s.lc

/-- Bytes cut or filled to a length. -/
def fit (n : Nat) (bs : List Byte) : List Byte := (padTo n bs).take n

/-! ## The checks of a key (R350, R353, R355) -/

/-- Who may name a slot: a binding, or a request of a tenant whose class must be OWNER or may be OPERATOR. -/
inductive KeyUser where
  | binding
  | owner (ten : Nat)
  | operator (ten : Nat)
deriving DecidableEq, Repr

/-- The code of the first check of R355 that fails, or KS_OK: a usage and types asked for where given. -/
def State.keyCheck (s : State) (u : KeyUser) (n : Nat) (usage : Option Nat) (types : List Nat) : Nat :=
  if s.on KSU_STAT_LOCK then ksTAMPER_LOCK
  else if s.lc = 5 then ksLC
  else match (if n < 256 then s.key n else none) with
    | none => ksNO_SLOT
    | some k =>
      let hidden := match u with
        | .binding => false
        | .owner t => t != k.tenant && t != 0
        | .operator t => t != k.tenant && t != 0
      let foreign := match u with
        | .owner t => t != k.tenant
        | _ => false
      let missing := match usage with
        | some b => !k.usage.testBit b
        | none => false
      if hidden then ksNO_SLOT
      else if s.orphan n then ksORPHANED
      else if foreign || missing || !types.contains k.type then ksUSAGE
      else if !s.lcAdmits k then ksLC
      else ksOK

/-- A binding's key for a usage, or the code that refuses it. -/
def State.boundKey (s : State) (n usage : Nat) (types : List Nat) : Except Nat KeySlot :=
  let c := s.keyCheck .binding n (some usage) types
  if c = ksOK then (match s.key n with | some k => .ok k | none => .error ksNO_SLOT) else .error c

/-- A use counted on its slot, and a refusal of an orphan counted (R362). -/
def State.countUse (s : State) (n : Nat) : State :=
  s.onKsu fun k => { k with slots := k.slots.map fun x => if x.1 = n then (n, { x.2 with uses := x.2.uses + 1 }) else x }
def State.countRefusal (s : State) (code : Nat) : State :=
  if code = ksORPHANED then s.bump KSU_CNT_ORPHANED
  else if code = ksAUTH_FAIL then s.bump KSU_CNT_AUTHFAIL
  else if code = ksQUEUE_FULL then s.bump KSU_CNT_QFULL
  else s

/-! ## Counts shown -/

/-- KSU_STAT.FREE and PQUEUE, KSU_JRNL.LIVE. -/
def State.showKsu (s : State) : State :=
  let used := (s.ksu.slots.filter fun x => decide (8 ≤ x.1)).length
  let queued := (s.ksu.ops.filter fun o => o.unit == 2 && !o.started).length
  (s.wr KSU_STAT_FREE (248 - used)).wr KSU_STAT_PQUEUE queued

/-- General slots that a tenant owns, and its quota (R352). -/
def State.slotsOf (s : State) (ten : Nat) : Nat :=
  (s.ksu.slots.filter fun x => decide (8 ≤ x.1) && x.2.tenant == ten).length
def State.slotQuota (s : State) (ten : Nat) : Nat := min 248 (s.rd (KSU_TEN_CFG_QUOTA ten))

/-! ## Operations (Table 12-4) -/

/-- The operation is a management operation. -/
def KeyOp.manages (o : KeyOp) : Bool := [1, 2, 3, 6, 7].contains o.op

/-- The input's length, bytes of it, and the 64 bytes of a peer's or sender's public key. -/
def KeyOp.len (o : KeyOp) : Nat := o.input.length

/-- Fields of the attribute word requested. -/
def KeyOp.aType (o : KeyOp) : Nat := bitsOf o.attr 24 3
def KeyOp.aUsage (o : KeyOp) : Nat := bitsOf o.attr 17 7
def KeyOp.aTenant (o : KeyOp) : Nat := bitsOf o.attr 11 6
def KeyOp.aMask (o : KeyOp) : Nat := bitsOf o.attr 5 6 % 32
def KeyOp.aExport (o : KeyOp) : Bool := bitsOf o.attr 29 1 == 1

/-- The lengths of Table 12-4 that do not depend on a key. Log entry 12 (DESIGN CHOICE, DEDUCED). -/
def KeyOp.lengthsOk (o : KeyOp) : Bool :=
  decide (o.len ≤ 2048) &&
  (match o.op with
   | 1 | 4 | 5 | 6 | 7 | 9 | 17 => o.len == 0
   | 2 => decide (1 ≤ o.len)
   | 3 => decide (1 ≤ o.auxlen) && decide (o.auxlen ≤ 64) && (o.len == o.auxlen || o.len == o.auxlen + 64)
   | 8 => o.len == 16
   | 10 => decide (1 ≤ o.len)
   | 11 => decide (64 ≤ o.len)
   | 12 => decide (12 + o.auxlen ≤ o.len) && decide (o.len + 4 ≤ 2048 + o.auxlen)
   | 13 => decide (28 + o.auxlen ≤ o.len)
   | 14 => true
   | 15 => (o.auxlen == 8 || o.auxlen == 16) && decide (o.auxlen ≤ o.len)
   | _ => true)

/-- Refusals before anything of a key is looked at: lock, life cycle, a transition being programmed, PF_N for management. -/
def State.opGate (s : State) (o : KeyOp) : Nat :=
  if s.on KSU_STAT_LOCK then ksTAMPER_LOCK
  else if s.lc = 5 ∨ s.ksu.lcTo.isSome then ksLC
  else if o.manages && s.on PWR_STAT_PF then ksPOWERFAIL
  else if !o.lengthsOk then ksBAD_INPUT
  else ksOK

/-- The first code that is no KS_OK. -/
def firstCode : List Nat → Nat
  | [] => ksOK
  | c :: t => if c = ksOK then firstCode t else c

/-- A check as a code. -/
def need (b : Bool) (code : Nat) : Nat := if b then ksOK else code

/-- The type and usages asked for are admitted (R349). -/
def KeyOp.usageOk (o : KeyOp) : Bool := decide (o.aType ≤ 4) && (o.aUsage ||| usagesOf o.aType) == usagesOf o.aType

/-- The target slot of a new key: no module slot, free, and within the tenant's quota (R351, R352). -/
def State.targetCheck (s : State) (o : KeyOp) : Nat :=
  firstCode [need (decide (o.slot < 256)) ksNO_SLOT, need (decide (8 ≤ o.slot)) ksFIXED,
    need ((s.key o.slot).isNone && decide (s.slotsOf o.aTenant < s.slotQuota o.aTenant)) ksFULL]

/-- A parent or wrap slot's key, its tenant that of the new key, and a depth below 8 (R350, R357). -/
def State.parentCheck (s : State) (o : KeyOp) (usage : Nat) (types : List Nat) (u : KeyUser) : Nat :=
  let ten := match s.key o.aux with | some k => k.tenant | none => 0
  firstCode [s.keyCheck u o.aux (some usage) types, need (ten == o.aTenant) ksUSAGE,
    need (decide (depthOf s.ksu.slots o.aux < 7)) ksDEPTH]

/-- The parts of a wrapped blob under a wrap slot of a type: sender's public key, IV, ciphertext with tag (R359). -/
def blobParts (wrapType : Nat) (bs : List Byte) : List Byte × List Byte × List Byte :=
  let h := if wrapType = 2 then 64 else 0
  (bs.take h, slice bs h 12, bs.drop (h + 12))

/-- The AAD of a blob: the attribute word without VALID, INVALID, ORIGIN, PKIND and RSV (R359). -/
def blobAad (attr : Nat) : List Byte :=
  leBytes 4 (bitsOf attr 29 1 * 2 ^ 29 + bitsOf attr 24 3 * 2 ^ 24 + bitsOf attr 17 7 * 2 ^ 17 + bitsOf attr 11 6 * 2 ^ 11 +
    bitsOf attr 5 6 * 2 ^ 5)

/-- The AES key that opens or seals a blob. -/
def wrapKey (w : KeySlot) (peer aad : List Byte) : List Byte :=
  if w.type = 2 then fit 32 (Config.hkdf (Config.ecdhX w.material peer) aad) else w.material

/-- Codes that refuse an operation when it starts, in order. Log entry 12 (DESIGN CHOICE, DEDUCED). -/
def State.opCheck (s : State) (o : KeyOp) : Nat :=
  match o.op with
  | 1 =>
    firstCode [need (s.lc != 0) ksLC, need (o.usageOk && !o.aExport && o.aType != 3) ksUSAGE,
      need (o.ten == 0 || o.ten == o.aTenant) ksUSAGE, s.targetCheck o]
  | 2 =>
    let wt := match s.key o.aux with | some k => k.type | none => 0
    let plain := o.aux == 0xFF
    let body := if plain then 0 else if wt = 2 then 92 else 28
    firstCode [need (s.lc != 0) ksLC,
      (if plain then need (o.aType == 3 || s.lc == 1) ksLC else s.parentCheck o uWRAP [0, 1, 2] (.operator o.ten)),
      need (o.usageOk && (o.ten == 0 || o.ten == o.aTenant)) ksUSAGE,
      s.targetCheck o, need (o.len == body + materialLen o.aType) ksBAD_INPUT,
      need (!(plain && o.aType == 3) || Config.p256Point o.input) ksBAD_INPUT,
      need (plain || wt != 2 || Config.p256Point (o.input.take 64)) ksBAD_INPUT]
  | 3 =>
    let pt := match s.key o.aux with | some k => k.type | none => 0
    firstCode [s.parentCheck o uDERIVE [2, 4] (.owner o.ten),
      need (o.usageOk && !o.aExport && [0, 1, 4].contains o.aType) ksUSAGE,
      s.targetCheck o, need (o.len == o.auxlen + (if pt = 2 then 64 else 0)) ksBAD_INPUT,
      need (pt != 2 || Config.p256Point (o.input.drop o.auxlen)) ksBAD_INPUT]
  | 4 =>
    let k := s.key o.slot
    let w := s.key o.aux
    firstCode [s.keyCheck (.owner o.ten) o.slot none [0, 1, 2, 3, 4], s.keyCheck (.owner o.ten) o.aux (some uWRAP) [0, 1, 2],
      need ((k.map fun k => k.exportable && (w.map fun w => w.tenant) == some k.tenant) == some true) ksUSAGE]
  | 5 => s.keyCheck (.owner o.ten) o.slot none [2, 3]
  | 6 | 7 =>
    match (if o.slot < 256 then s.key o.slot else none) with
    | none => ksNO_SLOT
    | some k =>
      firstCode [need (o.ten == 0 || o.ten == k.tenant) ksNO_SLOT, need (decide (8 ≤ o.slot)) ksFIXED,
        need (o.op == 6 || s.orphan o.slot || !s.lcAdmits k) ksNOT_ORPHAN,
        need (o.op == 6 || !(s.ksu.slots.any fun x => x.2.pkind == 2 && x.2.parent == o.slot)) ksHAS_CHILD]
  | 8 => firstCode [s.keyCheck (.operator o.ten) o.slot none [0, 1, 2, 3, 4], s.keyCheck .binding 0 none [2]]
  | 9 => need (o.slot == 0) ksUSAGE
  | 10 => s.keyCheck (.owner o.ten) o.slot (some uSIGN) [2]
  | 11 => s.keyCheck (.owner o.ten) o.slot (some uVERIFY) [3]
  | 12 => s.keyCheck (.owner o.ten) o.slot (some uENCRYPT) [0, 1]
  | 13 => s.keyCheck (.owner o.ten) o.slot (some uDECRYPT) [0, 1]
  | 14 | 15 => s.keyCheck (.owner o.ten) o.slot (some uMAC) [0, 1]
  | _ => ksOK

/-- The units an operation needs (R358): 0 none, 1 AES, 2 P-256. -/
def State.opUnit (s : State) (o : KeyOp) : Nat :=
  let ty := fun (n : Nat) => match s.key n with | some k => k.type | none => 0
  match o.op with
  | 1 => if o.aType = 2 then 2 else 0
  | 2 => if o.aux = 0xFF then 0 else if ty o.aux = 2 then 2 else 1
  | 3 => if ty o.aux = 2 then 2 else 1
  | 4 => if ty o.aux = 2 then 2 else 1
  | 5 => if ty o.slot = 2 then 2 else 0
  | 8 | 10 | 11 => 2
  | 12 | 13 | 14 | 15 => 1
  | _ => 0

/-- Output bytes stored from word 0 of KSU_OBUF on. -/
def State.storeOut (s : State) (out : List Byte) : State :=
  (List.range ((out.length + 3) / 4)).foldl (fun s n => s.wr (KSU_OBUF_W n) (leAt out (4 * n) 4)) s

/-- A result in KSU_CRES and KSU_OBUF (R373). -/
def State.keyResult (s : State) (code : Nat) (out : List Byte) : State :=
  let s := (s.countRefusal code).storeOut out
  let s := ((s.raise KSU_CRES_DONE).wr KSU_CRES_ORPHAN_AFTER (bit (code == ksORPHAN_AFTER))).wr KSU_CRES_CODE code
  ((s.wr KSU_CRES_OUTLEN out.length).raise KSU_EVT_DONE).reply code 0 []

/-- The input of a request, as KSU_IBUF and KSU_CARG1.INLEN hold it; a length above 2,048 stays as it is, to be refused. -/
def State.keyInput (s : State) : List Byte :=
  fit (s.rd KSU_CARG1_INLEN) ((List.range 512).flatMap fun n => leBytes 4 (s.rd (KSU_IBUF_W n)))

/-- Both buffers and the last result cleared by a write of KSU_CMD. -/
def State.clearKeyBuffers (s : State) : State :=
  let s := (s.clearWords (KSU_IBUF_W 0).addr 512).clearWords (KSU_OBUF_W 0).addr 512
  (((s.lower KSU_CRES_DONE).lower KSU_CRES_ORPHAN_AFTER).wr KSU_CRES_OUTLEN 0).wr KSU_CRES_CODE 0

/-! ## Management operations (R357 to R364) -/

/-- A new key with the attributes requested (R357). -/
def KeyOp.newKey (o : KeyOp) (origin pkind parent : Nat) (material : List Byte) : KeySlot where
  invalid := false
  exportable := o.aExport && origin == 1
  origin := origin
  type := o.aType
  usage := o.aUsage
  tenant := o.aTenant
  lcmask := o.aMask
  pkind := pkind
  parent := parent
  material := fit (materialLen o.aType) material
  uses := 0

/-- The material that an IMPORT brings; none where the tag does not verify (R359). -/
def State.imported (s : State) (o : KeyOp) : Option (List Byte) :=
  if o.aux = 0xFF then some o.input
  else match s.key o.aux with
    | none => none
    | some w =>
      let p := blobParts w.type o.input
      let aad := blobAad o.attr
      Config.gcmOpen (wrapKey w p.1 aad) p.2.1 aad p.2.2

/-- The material that a DERIVE computes (R360). -/
def derived (p : KeySlot) (o : KeyOp) : List Byte :=
  let info := o.input.take o.auxlen
  Config.hkdf (if p.type = 2 then Config.ecdhX p.material (o.input.drop o.auxlen) else p.material) info

/-- The record that a management operation gives its slot, or the code that ends it without one. -/
def State.newRecord (s : State) (o : KeyOp) : Except Nat (Option KeySlot) :=
  match o.op with
  | 1 => .ok (some (o.newKey 0 1 0xFF (openBytes s (materialLen o.aType))))
  | 2 =>
    match s.imported o with
    | none => .error ksAUTH_FAIL
    | some m =>
      if o.aType == 3 && !Config.p256Point (fit 64 m) then .error ksBAD_INPUT
      else .ok (some (o.newKey 1 (if o.aux = 0xFF then 0 else 2) o.aux m))
  | 3 =>
    match s.key o.aux with
    | none => .error ksNO_SLOT
    | some p => .ok (some (o.newKey 2 2 o.aux (derived p o)))
  | 6 => .ok ((s.key o.slot).map fun k => { k with invalid := true })
  | _ => .ok none

/-- The largest number of live journal entries (KSU_JRNL). -/
def journalCap : Nat := 3824

/-- An operation appended. -/
def State.pushOp (s : State) (o : KeyOp) : State := s.onKsu fun k => { k with ops := k.ops ++ [o] }

/-- A management operation starts: its SHADOW entry is written (step 1 of R364), or it waits for an entry.
Log entry 12 (DESIGN CHOICE, DEDUCED). -/
def State.beginManage (s : State) (o : KeyOp) : State :=
  if journalCap ≤ s.rd KSU_JRNL_LIVE then s.pushOp { o with waits := true }
  else match s.newRecord o with
    | .error c => s.keyResult c []
    | .ok r =>
      let s := if o.op = 1 then s.tookOpens (materialLen o.aType) else s
      let s := s.onKsu fun k => { k with journal := k.journal ++ [⟨k.jseq, o.slot, r, false⟩], jseq := k.jseq + 1 }
      (s.wr KSU_JRNL_LIVE (s.rd KSU_JRNL_LIVE + 1)).pushOp { o with started := true }

/-- The slot table, the slot store and the journal after steps 2 to 4 of R364. -/
def State.commitKey (s : State) (e : KeyEntry) : State :=
  let s := s.onKsu fun k => { k with
    slots := putKey k.slots e.slot e.new, store := putKey k.store e.slot e.new
    journal := k.journal.filter fun x => x.seq ≠ e.seq }
  (s.wr KSU_JRNL_SEQ e.seq).wr KSU_JRNL_LIVE (s.rd KSU_JRNL_LIVE - 1)

/-- The slots that an invalidation orphans newly (R361). -/
def State.newOrphans (s : State) (n : Nat) : Nat :=
  if s.orphan n then 0
  else (s.ksu.slots.filter fun x => !(s.orphan x.1) && (x.1 == n || (ancestors s.ksu.slots 7 x.1).contains n)).length

/-- A management operation is committed and answered (R361, R363, R364). Log entry 12 (DESIGN CHOICE, DEDUCED). -/
def State.endManage (s : State) (o : KeyOp) (e : KeyEntry) : State :=
  let n := s.newOrphans o.slot
  let ten := match s.key o.slot with | some k => k.tenant | none => o.aTenant
  let s := (s.commitKey e).showKsu
  if o.op = 6 then
    ((s.raise KSU_EVT_INVALIDATED).log srcKSU 0x0C43 ten [.n1 o.slot, .n4 n]).keyResult ksOK (leBytes 4 n)
  else
    let s := s.log srcKSU 0x0C44 ten [.n1 o.slot]
    match e.new with
    | some k => s.keyResult ksOK (if o.op = 1 ∧ k.type = 2 then fit 64 (Config.p256Public k.material) else [])
    | none => s.keyResult ksOK []

/-! ## Use operations (R356, R359, R362, R367) -/

/-- The attestation statement without its signature (Table 12-7a). -/
def State.statement (s : State) (n : Nat) (k : KeySlot) (nonce : List Byte) : List Byte :=
  let pub := if k.type = 2 then fit 64 (Config.p256Public k.material) else if k.type = 3 then fit 64 k.material
    else List.replicate 64 0
  let kcv := if k.type ≤ 1 then fit 4 (Config.cmac k.material (List.replicate 16 0)) else List.replicate 4 0
  leBytes 4 0x54535441 ++ leBytes 2 1 ++ leBytes 1 s.lc ++ leBytes 1 n ++ leBytes 8 s.ksu.serial ++ leBytes 4 k.attr ++
  leBytes 1 (if k.pkind = 2 then k.parent else 0xFF) ++ leBytes 1 (depthOf s.ksu.slots n) ++ leBytes 2 0 ++
  leBytes 8 s.ltu.now ++ leBytes 8 s.utc ++ fit 16 nonce ++ pub ++ kcv ++ leBytes 4 0

/-- A use operation starts on its unit: its keys are taken, and a statement is drawn up at the request (R358, R367). -/
def State.beginUse (s : State) (o : KeyOp) : State :=
  let k := s.key o.slot
  let o := match o.op, k with
    | 8, some key => { o with input := s.statement o.slot key o.input }
    | _, _ => o
  let w := if o.op = 8 then s.key 0 else if o.op = 4 then s.key o.aux else none
  let s := if o.op = 9 ∨ o.op = 17 then s else s.countUse o.slot
  s.pushOp { o with started := true, key := k, wrap := w }

/-- EXPORT's blob, with a fresh IV and ephemeral key (R359). -/
def exportBlob (k w : KeySlot) (draw : Nat) : List Byte :=
  let aad := blobAad k.attr
  let iv := leBytes 12 (Config.freeValue draw)
  let eph := leBytes 32 (Config.freeValue (draw + 1))
  if w.type = 2 then
    let key := fit 32 (Config.hkdf (Config.ecdhX eph (Config.p256Public w.material)) aad)
    fit 64 (Config.p256Public eph) ++ iv ++ fit (k.material.length + 16) (Config.gcmSeal key iv aad k.material)
  else iv ++ fit (k.material.length + 16) (Config.gcmSeal w.material iv aad k.material)

/-- What a use operation computes: its code and its output. -/
def KeyOp.compute (o : KeyOp) (k : KeySlot) (draw : Nat) : Nat × List Byte :=
  let aad := slice o.input 12 o.auxlen
  let rest := o.input.drop (12 + o.auxlen)
  match o.op with
  | 4 => match o.wrap with
    | some w => (ksOK, exportBlob k w draw)
    | none => (ksNO_SLOT, [])
  | 5 => (ksOK, fit 64 (if k.type = 2 then Config.p256Public k.material else k.material))
  | 8 => match o.wrap with
    | some w => (ksOK, o.input ++ fit 64 (Config.ecdsaSign w.material o.input draw))
    | none => (ksNO_SLOT, [])
  | 10 => (ksOK, fit 64 (Config.ecdsaSign k.material o.input draw))
  | 11 => (if Config.ecdsaVerify k.material (o.input.drop 64) (o.input.take 64) then ksOK else ksAUTH_FAIL, [])
  | 12 => (ksOK, fit (rest.length + 16) (Config.gcmSeal k.material (o.input.take 12) aad rest))
  | 13 => match Config.gcmOpen k.material (o.input.take 12) aad rest with
    | some p => (ksOK, fit (rest.length - 16) p)
    | none => (ksAUTH_FAIL, [])
  | 14 => (ksOK, fit 16 (Config.cmac k.material o.input))
  | _ =>
    let m := o.input.take (o.len - o.auxlen)
    (if fit o.auxlen (Config.cmac k.material m) = o.input.drop (o.len - o.auxlen) then ksOK else ksAUTH_FAIL, [])

/-- A use operation ends (R362). -/
def State.endUse (s : State) (o : KeyOp) : State :=
  if o.op = 17 then
    let n := openBytes s 16
    ((s.tookOpens 16).onKsu fun k => { k with nonce := some n }).keyResult ksOK n
  else if o.op = 9 then s.keyResult ksOK (s.ksu.cert.take 1024)
  else match o.key with
    | none => s.keyResult ksNO_SLOT []
    | some k =>
      let r := o.compute k s.free
      let s := s.tookOpens 2
      let late := s.orphan o.slot || (o.op == 4 && s.orphan o.aux) || (o.op == 8 && s.orphan 0)
      s.keyResult (if r.1 = ksOK ∧ late then ksORPHAN_AFTER else r.1) r.2

/-! ## The queue (R356, R358) -/

/-- An operation may start: no management operation runs, or a unit of its kind is free. -/
def State.canStart (s : State) (o : KeyOp) : Bool :=
  if o.manages then !(s.ksu.ops.any fun x => x.manages && (x.started || x.waits))
  else
    let busy := (s.ksu.ops.filter fun x => x.started && x.unit == o.unit).length
    match o.unit with
    | 0 => true
    | 1 => decide (busy < 4)
    | _ => decide (busy < 2)

/-- An operation starts, or is refused by the checks made at its start. -/
def State.startOp (s : State) (o : KeyOp) : State :=
  let c := firstCode [s.opGate o, s.opCheck o]
  if c ≠ ksOK then s.keyResult c []
  else if o.manages then s.beginManage o else s.beginUse o

/-- Queued operations start as far as units are free, in arrival order. -/
def State.startQueued (s : State) : State :=
  (s.ksu.ops.filter fun o => !o.started && !o.waits).foldl (fun s o =>
    if s.canStart o then (s.onKsu fun k => { k with ops := k.ops.erase o }).startOp o else s) s

/-- A request of KSU_CMD (R353, R356, R358): refused by what needs no key, started, or queued.
Log entry 12 (DESIGN CHOICE, DEDUCED). -/
def State.keyRequest (s : State) (op ten slot aux : Nat) : State :=
  let o : KeyOp := ⟨op, ten, slot, aux, s.rd KSU_CARG0_ARG, s.rd KSU_CARG1_AUXLEN, s.keyInput, 0, false, false, none, none⟩
  let s := s.clearKeyBuffers
  let o := { o with unit := s.opUnit o }
  let c := s.opGate o
  let queued := (s.ksu.ops.filter fun x => x.unit == 2 && !x.started).length
  if c ≠ ksOK then s.keyResult c []
  else if s.canStart o then (s.startOp o).showKsu
  else if o.unit = 2 ∧ 128 ≤ queued then s.keyResult ksQUEUE_FULL []
  else (s.pushOp o).showKsu

/-- The `n`-th operation in hand ends (R362, R363): a started one with its result; a RECLAIM only once no use operation of
its slot runs. -/
def State.completeOp (s : State) (n : Nat) : State :=
  match s.ksu.ops[n]? with
  | none => s
  | some o =>
    if !o.started then s
    else
      let inUse := s.ksu.ops.any fun x => x.started && !x.manages && (x.slot == o.slot)
      let done := s.onKsu fun k => { k with ops := k.ops.eraseIdx n }
      if o.manages then
        match s.ksu.journal.find? fun e => e.slot == o.slot && !e.commit with
        | none => done.startQueued.showKsu
        | some e => if o.op = 7 ∧ inUse then s else (done.endManage o e).startQueued.showKsu
      else (done.endUse o).startQueued.showKsu

/-- A management operation that waited 2 ms for an entry is refused (R364). Log entry 2 (DESIGN CHOICE, DEDUCED). -/
def State.journalExpiry (s : State) : State :=
  match s.ksu.ops.find? fun o => o.waits with
  | none => s
  | some o => ((s.onKsu fun k => { k with ops := k.ops.erase o }).keyResult ksJOURNAL_FULL []).startQueued.showKsu

/-! ## Power failure, start-up and lock (R365, R366, R369, R372) -/

/-- The journal close at PF_N (R366): `committing` a COMMIT write that was in progress completes. -/
def State.closeJournal (s : State) (committing : Bool) : State :=
  let s := s.onKsu fun k => { k with
    journal := if committing then k.journal.map fun e => { e with commit := true } else k.journal
    ops := k.ops.filter fun o => o.started && !o.manages }
  s.raise KSU_STAT_JCLOSED

/-- A journal entry processed at power-on (R365). -/
def State.replayKey (s : State) (e : KeyEntry) : State :=
  if e.commit then
    let s := s.onKsu fun k => { k with store := putKey k.store e.slot e.new }
    ((s.wr KSU_JRNL_SEQ e.seq).raise KSU_EVT_ROLLFWD).log srcKSU 0x0C42 0 [.n1 e.slot]
  else (s.raise KSU_EVT_ROLLBACK).log srcKSU 0x0C41 0 [.n1 e.slot]

/-- A slot store record that fails its tag (R365). -/
def State.loseKey (s : State) (n : Nat) : State :=
  match keyAt s.ksu.store n with
  | none => s
  | some k =>
    let s := s.onKsu fun x => { x with
      store := putKey x.store n (some { k with invalid := true, material := List.replicate k.material.length 0 }) }
    (s.raise KSU_EVT_STORE_LOST).log srcKSU 0x0C47 0 [.n1 n]

/-- The active root of a life-cycle state (Table 12-7). -/
def rootOf (lc : Nat) : Nat := if lc ≤ 1 then 0 else if lc ≤ 3 then 1 else if lc = 4 then 2 else 3

/-- How many ones a word has. -/
def onesFrom (w : Word) : Nat → Nat
  | 0 => 0
  | n + 1 => bit (w.getLsbD n) + onesFrom w n
def ones (w : Word) : Nat := onesFrom w 32

/-- The highest state whose OTP word reads at least 24 ones (R368). -/
def lcOf : List Word → Nat → Nat → Nat
  | [], _, best => best
  | w :: t, n, best => lcOf t (n + 1) (if 24 ≤ ones w then n else best)

/-- The effects of a transition on keys (Table 12-8). -/
def State.lcEffects (s : State) (lc : Nat) : State :=
  let fresh := moduleSlots (rootOf lc) fun n => s.free + n
  let store := s.ksu.store
  let new := match lc with
    | 1 => fresh.filter fun x => x.1 == 1
    | 2 => [0, 2, 3].foldl (fun l n => putKey l n (keyAt fresh n)) (store.filter fun x => x.2.lcmask.testBit 2)
    | 4 => fresh
    | 5 => []
    | _ => store
  (s.tookOpens 4).onKsu fun k => { k with
    store := new, journal := if lc = 4 ∨ lc = 5 then [] else k.journal, mark := lc }

/-- Hearth at power-on (R365, R368, R369): `lost` names the store records that fail their tag. -/
def State.keyPowerOn (s : State) (lost : List Nat) : State :=
  let lc := lcOf s.ksu.otp 1 0
  let s := (s.wr KSU_STAT_LC lc).wr KSU_STAT_ROOT (rootOf lc)
  let js := s.ksu.journal
  let s := s.onKsu fun k => { k with ops := [], lcTo := none, nonce := none, journal := [] }
  let s := js.foldl State.replayKey s
  let s := lost.foldl State.loseKey s
  let s := if s.ksu.mark = lc then s else s.lcEffects lc
  let s := s.onKsu fun k => { k with slots := k.store.map fun x => (x.1, { x.2 with uses := 0 }) }
  let s := ((s.wr KSU_DBG_DBG_OPEN (bit (lc == 0 || lc == 4))).wr KSU_DBG_SCAN_OPEN (bit (lc ≤ 1 || lc == 4))).lower KSU_DBG_TOKEN
  let s := (s.wr KSU_SERIAL_LO_SER s.ksu.serial).wr KSU_SERIAL_HI_SER (s.ksu.serial / 2 ^ 32)
  (s.wr KSU_JRNL_LIVE 0).showKsu

/-- The lock of R372. -/
def State.tamperLock (s : State) : State :=
  if s.on KSU_STAT_LOCK then s
  else
    let ops := s.ksu.ops
    let s := s.onKsu fun k => { k with ops := [] }
    let s := ops.foldl (fun s _ => s.keyResult ksTAMPER_LOCK []) s
    ((s.raise KSU_STAT_LOCK).raise KSU_EVT_TAMPER).log srcKSU 0x0C46 0 []

/-! ## Life cycle (R369, R370) -/

/-- A transition listed in Table 12-8. -/
def transition (lc target : Nat) : Bool :=
  (lc == 0 && target == 1) || (lc == 1 && target == 2) || (lc == 2 && target == 3) ||
  ((lc == 2 || lc == 3) && target == 4) || (lc != 5 && target == 5)

/-- A return token of this module and of the last nonce (Table 12-9, R370); the return authority key is key 5 of ROM.
Log entry 12 (DESIGN CHOICE, DEDUCED). -/
def State.tokenOk (s : State) (bs : List Byte) : Bool :=
  bs.length == 96 && leAt bs 0 4 == 0x4E544552 && leAt bs 4 8 == s.ksu.serial &&
  (match s.ksu.nonce with | some n => slice bs 0x0C 16 == n | none => false) &&
  leAt bs 0x1C 1 == 4 && Config.ecdsaVerify (Config.moduleKey 0 5 0) (bs.take 32) (bs.drop 32)

/-- LCSET judged (R369): `test` marks a request of Vyrdoavo's test over the debug port, `challenge` its root challenge met.
Log entry 12 (DESIGN CHOICE, DEDUCED). -/
def State.judgeLcset (s : State) (ten : Nat) (test challenge : Bool) (input : List Byte) : Nat :=
  let arg := s.rd KSU_CARG0_ARG
  let target := arg % 8
  let serial := input == leBytes 8 s.ksu.serial
  let auth := if target ≤ 2 then challenge else if target = 4 then s.tokenOk input else serial
  firstCode [need (!s.on KSU_STAT_LOCK) ksTAMPER_LOCK, need (s.lc != 5 && s.ksu.lcTo.isNone) ksLC,
    need (!s.on PWR_STAT_PF) ksPOWERFAIL, need (arg < 8) ksBAD_INPUT, need (transition s.lc target) ksLC,
    need (if target ≤ 2 then test else ten == 0) ksUSAGE, need auth ksTOKEN]

end Sys2Proof.Machine
end

