-- ==== Sys2Proof/Machine/Flags.lean ====
section
/-! DEFINITION. The flag computations of the Knaec instructions (R99, Table 4-2, Table 4-3) and the conditions (R104). -/

namespace Sys2Proof.Machine

/-- Bit 31. -/
def neg31 (r : Word) : Bool := r.msb

/-- Z and N of an integer result, the other flags kept. -/
def KFlags.zn (f : KFlags) (r : Word) : KFlags := { f with z := r == 0, n := neg31 r }

/-- Z, N and V of an integer result. -/
def KFlags.znv (f : KFlags) (r : Word) (v : Bool) : KFlags := { f with z := r == 0, n := neg31 r, v := v }

/-- Z, N, C and V of an integer result. -/
def KFlags.zncv (f : KFlags) (r : Word) (c v : Bool) : KFlags := { f with z := r == 0, n := neg31 r, c := c, v := v }

/-- Z, N and C of a shift. -/
def KFlags.znc (f : KFlags) (r : Word) (c : Bool) : KFlags := { f with z := r == 0, n := neg31 r, c := c }

/-- Z and N of a REAL32 result: a zero of either sign sets Z, a NaN clears N. -/
def KFlags.fzn (f : KFlags) (r : Word) : KFlags := { f with z := zeroPattern r, n := neg31 r && !isNaN r }

/-- Z, N and V of a REAL32 result. -/
def KFlags.fznv (f : KFlags) (r : FRes) : KFlags := { f.fzn r.w with v := r.v }

/-- The exact signed result lies outside INT32. -/
def outI32 (x : Int) : Bool := decide (x < -2147483648) || decide (2147483647 < x)

/-- Flags of an addition (Table 4-3). -/
def KFlags.add (f : KFlags) (a b : Word) : KFlags :=
  f.zncv (a + b) (decide (2 ^ 32 ≤ a.toNat + b.toNat)) (outI32 (a.toInt + b.toInt))

/-- Flags of a subtraction or compare (Table 4-3): C is 1 when no borrow is needed. -/
def KFlags.sub (f : KFlags) (a b : Word) : KFlags :=
  f.zncv (a - b) (decide (b.toNat ≤ a.toNat)) (outI32 (a.toInt - b.toInt))

/-- Flags of FCMP (Table 4-2). -/
def KFlags.fcmp (f : KFlags) (a b : Word) : KFlags :=
  if isNaN a || isNaN b then { f with z := false, n := false, c := false, v := true }
  else if fEq a b then { f with z := true, n := false, c := true, v := false }
  else if fLt a b then { f with z := false, n := true, c := false, v := false }
  else { f with z := false, n := false, c := true, v := false }

/-- The conditions of Table 4-4. -/
def KFlags.cond (f : KFlags) (k : Nat) : Bool :=
  match k with
  | 0 => true
  | 1 => f.z
  | 2 => !f.z
  | 3 => f.n != f.v
  | 4 => f.n == f.v
  | 5 => f.z || f.n != f.v
  | 6 => !f.z && f.n == f.v
  | 7 => !f.c
  | 8 => f.c
  | 9 => !f.c || f.z
  | 10 => f.c && !f.z
  | 11 => f.n
  | 12 => f.v
  | 13 => !f.v
  | 14 => f.q
  | _ => !f.q

end Sys2Proof.Machine
end

