-- ==== Sys2Proof/Machine/KnWord.lean ====
section
/-! DEFINITION. The Knaec instruction word (R93 to R96, Table 4-5): one row per opcode with its forms, used fields,
immediate class and cost; encoding and reading of fields. -/

namespace Sys2Proof.Machine

/-- The Imm column of Table 4-5: `none` for an immediate that is not an operand of class s, z or f. -/
inductive ImmClass where
  | none | s | z | f
deriving DecidableEq, Repr

/-- A row of Table 4-5: the bits of [23:0] used in each permitted form, the immediate class, whether D is written, and
the cost in ENG cycles. -/
structure OpRow where
  op : Nat
  regMask : Option Nat
  immMask : Option Nat
  imm : ImmClass
  writesD : Bool
  cost : Nat
deriving DecidableEq, Repr

/-- Field masks: D, A, register B, 16-bit immediate. -/
def mD : Nat := 0xF00000
def mA : Nat := 0x0F0000
def mB : Nat := 0x00000F
def mI : Nat := 0x00FFFF

/-- A three-operand row in both forms; a row whose D is not written; a unary row. -/
def row3 (op : Nat) (i : ImmClass) (cost : Nat) : OpRow := ⟨op, some (mD + mA + mB), some (mD + mA + mI), i, true, cost⟩
def rowC (op : Nat) (i : ImmClass) (cost : Nat) : OpRow := ⟨op, some (mA + mB), some (mA + mI), i, false, cost⟩
def row1 (op : Nat) (i : ImmClass) (cost : Nat) : OpRow := ⟨op, some (mD + mB), some (mD + mI), i, true, cost⟩

/-- Control and system rows. -/
def rowsControl : List OpRow := [
  ⟨0x00, some 0, none, .none, false, 1⟩,
  ⟨0x01, none, some mI, .none, false, 1⟩,
  ⟨0x02, some 0, none, .none, false, 4⟩,
  ⟨0x03, none, some (mD + mI), .z, false, 2⟩,
  ⟨0x04, none, some 0xFFF, .none, false, 3⟩,
  ⟨0x05, some 0, none, .none, false, 3⟩,
  ⟨0x06, none, some (mD + mI), .none, true, 2⟩,
  ⟨0x07, some 0, none, .none, false, 1⟩,
  ⟨0x08, none, some mD, .none, false, 2⟩,
  ⟨0x09, none, some (mA + mI), .none, false, 4⟩,
  ⟨0x0A, none, some (mD + 0xF), .none, true, 1⟩,
  ⟨0x0B, some mA, none, .none, false, 2⟩,
  ⟨0x0C, none, some (mA + 0xFFF), .none, false, 3⟩,
  ⟨0x0D, none, some (mD + 3), .none, true, 2⟩,
  row1 0x10 .s 1,
  ⟨0x11, none, some (mD + mA + mI), .s, true, 3⟩,
  ⟨0x12, none, some (mD + mA + mI), .s, false, 3⟩]

/-- Integer rows. -/
def rowsInt : List OpRow := [
  row3 0x20 .s 1, row3 0x21 .s 1, row3 0x22 .s 2, row3 0x23 .s 3, row3 0x24 .s 12, row3 0x25 .z 12, row3 0x26 .s 12,
  row3 0x27 .z 12, row1 0x28 .s 1, row1 0x29 .s 1, row3 0x2A .s 1, row3 0x2B .s 1, row3 0x2C .z 1, row3 0x2D .z 1,
  row3 0x2E .s 2, rowC 0x2F .s 1, row3 0x30 .z 1, row3 0x31 .z 1, row3 0x32 .z 1, row1 0x33 .z 1, row3 0x34 .z 1,
  row3 0x35 .z 1, row3 0x36 .z 1, rowC 0x37 .z 1, row1 0x38 .z 1]

/-- REAL32 rows. -/
def rowsReal : List OpRow := [
  row3 0x40 .f 2, row3 0x41 .f 2, row3 0x42 .f 2, row3 0x43 .f 14, row1 0x44 .f 16, row3 0x45 .f 3, row1 0x46 .f 1,
  row1 0x47 .f 1, row3 0x48 .f 2, row3 0x49 .f 2, row3 0x4A .f 3, rowC 0x4B .f 2, row1 0x4C .s 2, row1 0x4D .z 2,
  row1 0x4E .f 2, row1 0x4F .f 2, row1 0x50 .f 2]

/-- Point and cell rows. -/
def rowsPoint : List OpRow := [
  ⟨0x60, none, some (mD + mI), .none, true, 2⟩,
  ⟨0x61, none, some (mD + mA + mI), .none, false, 2⟩,
  ⟨0x70, none, some (mD + mA + 0x3FFF), .none, true, 4⟩,
  ⟨0x71, none, some (mD + 0xFFF), .none, true, 2⟩,
  ⟨0x72, none, some (mA + 0xFFF), .none, false, 2⟩,
  ⟨0x73, none, some 0xFFF, .none, false, 2⟩,
  ⟨0x74, none, some (mD + mA + 0x3FFF), .none, true, 2⟩]

/-- Table 4-5 without DCL, which code may not hold (R94). -/
def opRows : List OpRow := rowsControl ++ rowsInt ++ rowsReal ++ rowsPoint

/-- The row of an opcode. -/
def opRow (op : Nat) : Option OpRow := opRows.find? fun r => r.op == op

/-! ## Fields of a word (Table 4-1) -/

def wOP (w : Nat) : Nat := w / 2 ^ 25 % 128
def wF (w : Nat) : Nat := w / 2 ^ 24 % 2
def wD (w : Nat) : Nat := w / 2 ^ 20 % 16
def wA (w : Nat) : Nat := w / 2 ^ 16 % 16
def wIMM (w : Nat) : Nat := w % 2 ^ 16
def wELEM (w : Nat) : Nat := w / 2 ^ 13 % 8
def wHANDLE (w : Nat) : Nat := w % 2 ^ 13

/-- A word of its fields. -/
def enc (op f d a imm : Nat) : Nat := op * 2 ^ 25 + f * 2 ^ 24 + d * 2 ^ 20 + a * 2 ^ 16 + imm

/-- A code word is permitted where it stands (R94): known opcode, permitted form, unused fields 0, no reserved kind. -/
def wordOk (w : Nat) : Bool :=
  match opRow (wOP w) with
  | none => false
  | some r =>
    match (if wF w = 0 then r.regMask else r.immMask) with
    | none => false
    | some m =>
      (w % 2 ^ 24) &&& (2 ^ 24 - 1 - m) == 0 &&
      !((wOP w == 0x70 || wOP w == 0x74) && w / 2 ^ 12 % 4 == 3) &&
      !(wOP w == 0x61 && wELEM w != 1 && wD w != 0)

/-- The word is an immediate-form instruction that an EXT may precede (R96). -/
def takesExt (w : Nat) : Bool :=
  match opRow (wOP w) with
  | some r => wF w == 1 && r.imm != .none
  | none => false

end Sys2Proof.Machine
end

