-- ==== Sys2Proof/Machine/Operands.lean ====
section
/-! DEFINITION. A lane's registers, the operand forms of a Knaec instruction (R93, R95, R96, R98) and the common
way an instruction runs on a lane. -/

namespace Sys2Proof.Machine

/-- CXE's typed part changed. -/
def State.onCxe (s : State) (f : CxePart → CxePart) : State := { s with cxe := f s.cxe }

/-- A lane. -/
def State.lane (s : State) (l : Fin 8) : Lane := s.cxe.lanes[l]

/-- A lane set. -/
def State.setLane (s : State) (l : Fin 8) (ln : Lane) : State :=
  s.onCxe fun c => { c with lanes := c.lanes.set l ln }

/-- A working register; W15 shows the top of the call stack (R98). -/
def Lane.reg (ln : Lane) (r : Fin 16) : Word :=
  if r = 15 then BitVec.ofNat 32 (ln.calls.headD 0) else ln.w[r]

/-- A working register written; W15 takes no write (R98). -/
def Lane.setReg (ln : Lane) (r : Fin 16) (v : Word) : Lane :=
  if r = 15 then ln else { ln with w := ln.w.set r v }

/-- A 16-bit immediate widened by its class (R95), or completed by an EXT (R96). -/
def widen (c : ImmClass) (ext : Option Half) (v : Half) : Word :=
  match ext with
  | some h => h ++ v
  | none =>
    match c with
    | .s => v.signExtend 32
    | .f => v ++ (0 : Half)
    | _ => v.zeroExtend 32

/-- Operand B. -/
def Lane.arg (ln : Lane) (c : ImmClass) : KArg → Word
  | .reg r => ln.reg r
  | .imm v => widen c ln.ext v

/-- The form bit and the low 16 bits that an operand takes in the word. -/
def argF : KArg → Nat
  | .reg _ => 0
  | .imm _ => 1
def argBits : KArg → Nat
  | .reg r => r.val
  | .imm v => v.toNat

/-- The word of an instruction with operand B. -/
def encB (op : Nat) (d a : Fin 16) (b : KArg) : Nat := enc op (argF b) d.val a.val (argBits b)

/-- The instruction is done: the next word follows, and an EXT no longer holds. -/
def Lane.step (ln : Lane) : Lane := { ln with pc := ln.pc + 1, ext := none }

/-- The instruction is done and control goes to a word. -/
def Lane.goto (ln : Lane) (pc : Nat) : Lane := { ln with pc := pc, ext := none }

/-- The address of a code word in the bank in use (R164). -/
def State.codeAddr (s : State) (pc : Nat) : Nat := 0x20000000 + s.rd CXE_STAT_CODE_BANK * 0x100000 + 4 * pc

/-- A code word. -/
def State.code (s : State) (pc : Nat) : Nat := (s.word (s.codeAddr pc)).toNat

/-- The engine's lanes run: clocks on, no legacy stop, and the module acts on the field (R147, R424, Table 11-1). -/
def State.cxeRuns (s : State) : Bool := s.awake && !s.on CXE_STAT_STOPPED && (s.inControl || s.plk.leaving)

/-- A lane executes the word `w`: it is running and `w` stands at its program counter. Log entry 5 (DESIGN CHOICE, DEDUCED). -/
def State.atWord (s : State) (l : Fin 8) (w : Nat) : Bool := s.cxeRuns && (s.lane l).busy && s.code (s.lane l).pc == w

/-- An instruction whose word is `w` runs on lane `l`; where the lane does not stand at that word, nothing happens.
Log entry 5 (DESIGN CHOICE, DEDUCED). -/
def State.knRun (s : State) (l : Fin 8) (w : Nat) (f : State → Lane → State) : State :=
  if s.atWord l w then f s (s.lane l) else s

/-- An instruction that changes the lane alone. -/
def State.knLane (s : State) (l : Fin 8) (w : Nat) (g : Lane → Lane) : State :=
  s.knRun l w fun s ln => s.setLane l (g ln).step

/-- A result written to D with its flags. -/
def Lane.result (ln : Lane) (d : Fin 16) (v : Word) (fl : KFlags) : Lane := { ln.setReg d v with fl := fl }

end Sys2Proof.Machine
end

