-- ==== Sys2Proof/Machine/CxeOps.lean ====
section
/-! DEFINITION. The cyclic execution engine's operations: data image and snapshot, cells, activations and lanes, commits,
overruns, restore, value changes (R106 to R119, R136 to R160). -/

namespace Sys2Proof.Machine

/-! ## The data image (R106, R152 to R155) -/

/-- Base of the data image SRAM, the size of it and of a row. -/
def dataBase : Nat := 0x21000000
def rowSize : Nat := 256

/-- Membership, insertion and removal of a row. -/
def RowSet.has (r : RowSet) (n : Nat) : Bool := r.all || r.rows.contains n
def RowSet.add (r : RowSet) (n : Nat) : RowSet := if r.has n then r else { r with rows := n :: r.rows }
def RowSet.join (a b : RowSet) : RowSet := ⟨a.all || b.all, a.rows ++ b.rows.filter fun n => !a.rows.contains n⟩

/-- The listed bytes of an address range. -/
def cellsIn (m : List Host.Cell) (lo n : Nat) : List Host.Cell := m.filter fun c => decide (lo ≤ c.1) && decide (c.1 < lo + n)

/-- Cells are in canonical form and lie in a range. -/
def cellsFit (lo n : Nat) (cs : List Host.Cell) : Bool := swf 0 cs && cs.all fun c => decide (lo ≤ c.1) && decide (c.1 < lo + n)

/-- A range of memory replaced by listed bytes that lie in it; cells in another form are put one by one. -/
def putCells (m : List Host.Cell) (lo n : Nat) (cs : List Host.Cell) : List Host.Cell :=
  if cellsFit lo n cs then (m.filter fun c => decide (c.1 < lo)) ++ cs ++ m.filter fun c => decide (lo + n ≤ c.1)
  else cs.foldl (fun m c => sput 0 m c.1 c.2) (m.filter fun c => decide (c.1 < lo) || decide (lo + n ≤ c.1))

/-- A range of memory copied to another address. -/
def State.copyMem (s : State) (src dst n : Nat) : State :=
  { s with mem := putCells s.mem dst n ((cellsIn s.mem src n).map fun c => (c.1 - src + dst, c.2)) }

/-- The retained-image bank in MRAM. -/
def bankBase (b : Nat) : Nat := 0x70000000 + b * 0x200000

/-- The bank that the next snapshot goes to (R154). -/
def State.snapTarget (s : State) : Nat := 1 - s.rd CXE_STAT_SNAP_BANK

/-- Dirty rows of a bank. -/
def CxePart.dirty (c : CxePart) (b : Nat) : RowSet := if b = 0 then c.dirty0 else c.dirty1
def CxePart.setDirty (c : CxePart) (b : Nat) (r : RowSet) : CxePart := if b = 0 then { c with dirty0 := r } else { c with dirty1 := r }

/-- The snapshot is abandoned (R155): the target keeps its cleared COMMIT word and its pending rows become dirty again. -/
def State.abandonSnap (s : State) : State :=
  let t := s.snapTarget
  let s := s.onCxe fun c => { (c.setDirty t ((c.dirty t).join c.pend)) with pend := RowSet.none, kept := [] }
  (((s.lower CXE_STAT_SNAP_BUSY).bump CXE_SNAP_CNT_FAIL).raise CXE_EVT_SNAP_FAIL).log srcCXE 0x0545 0 []

/-- A row is about to be written: while it is pending it is first preserved, or the snapshot is abandoned when all 256
places of the preserve buffer are taken (R155). -/
def State.preserveRow (s : State) (row : Nat) : State :=
  if s.on CXE_STAT_SNAP_BUSY && s.cxe.pend.has row && !(s.cxe.kept.any fun k => k.1 == row) then
    if 256 ≤ s.cxe.kept.length then s.abandonSnap
    else s.onCxe fun c => { c with kept := c.kept ++ [(row, cellsIn s.mem (dataBase + row * rowSize) rowSize)] }
  else s

/-- A word of the data image written by any of the paths of R153: the row is preserved and marked dirty for both banks. -/
def State.writeData (s : State) (off : Nat) (v : Word) : State :=
  let row := off / rowSize
  let s := (s.preserveRow row).onCxe fun c => { c with dirty0 := c.dirty0.add row, dirty1 := c.dirty1.add row }
  s.setWord (dataBase + off) v

/-- A word of the data image. -/
def State.readData (s : State) (off : Nat) : Word := s.word (dataBase + off)

/-- The map copy in force. -/
def CxePart.map (c : CxePart) (k : Nat) : CellMap := if k = 0 then c.map0 else c.map1
def State.curMap (s : State) : CellMap := s.cxe.map (s.rd CXE_STAT_MAPSEL)

/-- The data blocks of the running image. -/
def State.blocks (s : State) : List DataInfo := match s.cxe.prog with | some p => p.datas | none => []

/-- An offset is in range for a tenant (R106). -/
def State.inRange (s : State) (ten off : Nat) : Bool := s.blocks.any fun d => d.ten == ten && d.holds off

/-! ## Activations -/

/-- The tasks of the running image. -/
def State.tasks (s : State) : List TaskInfo := match s.cxe.prog with | some p => p.tasks | none => []
def State.taskInfo (s : State) (t : Nat) : Option TaskInfo := s.tasks.find? fun x => x.task == t

/-- A task's period in la (R60). -/
def TaskInfo.period (t : TaskInfo) : Nat := if t.frac = 0 then t.per * 65536 else 65536 / 2 ^ t.frac

/-- The activation of a task, where one exists. -/
def State.act (s : State) (t : Nat) : Option Act := s.cxe.acts.find? fun a => a.task == t

/-- The activation of a task changed, or removed. -/
def State.setAct (s : State) (t : Nat) (f : Act → Act) : State :=
  s.onCxe fun c => { c with acts := c.acts.map fun a => if a.task = t then f a else a }
def State.dropAct (s : State) (t : Nat) : State :=
  s.onCxe fun c => { c with acts := c.acts.filter fun a => a.task ≠ t }

/-- The tenant of a task. -/
def State.taskTen (s : State) (t : Nat) : Nat := match s.taskInfo t with | some i => i.tenant | none => 0

/-- Outcomes of an activation (CXE_TASKn_LAST). -/
def ocONTIME : Nat := 1
def ocDELAYED : Nat := 2
def ocOVERRUN : Nat := 3
def ocSKIPPED : Nat := 4
def ocABANDONED : Nat := 5

/-- An activation that falls due while one of its task exists (R138). -/
def State.skip (s : State) (t : Nat) : State :=
  (s.bump (CXE_TASK_CNT_SKIPPED t)).wr (CXE_TASK_LAST_OUTCOME t) ocSKIPPED

/-- The deadline of an activation (R145). -/
def Act.deadline (a : Act) (t : TaskInfo) : Nat := a.due + (if t.cmt then t.cofs else t.period)

/-- Every point of a task's staging set written with its present value and a quality (R146, R151). -/
def State.qualSet (s : State) (t : TaskInfo) (q : Byte) : State :=
  t.writes.foldl (fun s h =>
    let p := s.point h
    if p.fedBy 4 t.task then s.setPoint h (p.putQual q s.stamp) else s) s

/-- A lane freed. -/
def State.freeLane (s : State) (l : Fin 8) : State :=
  let s := s.setLane l Lane.idle
  let b := s.rd CXE_STAT_LANE_BUSY
  s.wr CXE_STAT_LANE_BUSY (if b.testBit l.val then b - 2 ^ l.val else b)

/-- An activation is ABANDONED: its staged writes are discarded and its lane is free. -/
def State.abandon (s : State) (a : Act) : State :=
  let s := (s.dropAct a.task).wr (CXE_TASK_LAST_OUTCOME a.task) ocABANDONED
  let s := match a.lane, a.ended with
    | some l, false => s.freeLane l
    | _, _ => s
  (s.raise CXE_EVT_ABANDONED).log srcCXE 0x0543 (s.taskTen a.task) [.n1 a.task]

/-- Every existing activation is ABANDONED. -/
def State.abandonAll (s : State) : State := s.cxe.acts.foldl State.abandon s

/-- A legacy stop (R147): all lanes stop, kind 4 points take quality 0x86. The release of the pair follows it. -/
def State.legacyStop (s : State) (t : Nat) : State :=
  let s := s.abandonAll
  let s := s.mapPoints (fun p => match p.defn with | some d => d.srcKind == 4 | none => false) fun p => p.putQual 0x86 s.stamp
  ((s.raise CXE_STAT_STOPPED).raise CXE_EVT_STOP).log srcCXE 0x0542 0 [.n1 t]

/-- An activation misses its deadline in native mode (R146). Log entry 6 (DESIGN CHOICE, DEDUCED). -/
def State.overrunNative (s : State) (a : Act) (t : TaskInfo) : State :=
  let late := if a.lane.isSome then a.late else s.ltu.now - a.due
  let s := s.log srcCXE 0x0541 t.tenant [.n1 t.task, .n4 late]
  let s := ((s.raise CXE_EVT_OVERRUN).bump (CXE_TASK_FLT_OVERRUN t.task)).wr (CXE_TASK_LAST_OUTCOME t.task) ocOVERRUN
  (s.qualSet t 0x41).setAct t.task fun a => { a with overrun := true }

/-- An activation that has not ended and is not yet OVERRUN, with its task, past its deadline. -/
def State.missed (s : State) (t : Nat) : Option (Act × TaskInfo) :=
  match s.act t, s.taskInfo t with
  | some a, some i => if !a.ended && !a.overrun && decide (a.deadline i ≤ s.ltu.now) then some (a, i) else none
  | _, _ => none

/-- A staged write committed through port 0 (R143). -/
def State.commitOne (task : Nat) (s : State) (w : Staged) : State :=
  s.sourceWriteAt w.handle 4 task w.value w.qual s.stamp

/-- A snapshot begins at a snapshot point of task 0, or is skipped while one runs (steps 1 to 3 of R154). -/
def State.snapPoint (s : State) : State :=
  if s.on PWR_STAT_PF then s
  else if s.on CXE_STAT_SNAP_BUSY then (s.bump CXE_SNAP_CNT_SKIP).log srcCXE 0x0546 0 []
  else
    let t := s.snapTarget
    let s := s.setBytes (bankBase t + 0x1FFFF8) (List.replicate 8 0)
    let s := s.onCxe fun c => { (c.setDirty t RowSet.none) with
      pend := c.dirty t, kept := [], snapMs := s.rd CXE_MSCNT_MS, snapAt := s.ltu.now,
      snapId := (match c.prog with | some p => p.id | none => 0), snapVer := (match c.prog with | some p => p.ver | none => 0),
      snapMap := s.rd CXE_STAT_MAPSEL }
    (s.raise CXE_STAT_SNAP_BUSY).onPlk fun p => { p with fullNow := p.fullNow || p.fullNext, fullNext := false }

/-- The refusals of a sleep request (R425): the operator only, no pair, nothing in progress. -/
def State.sleepRefusal (s : State) (ten : Nat) : Option Nat :=
  if ten ≠ 0 then some 0x0F02
  else if s.rd PLK_STAT_ROLE ≠ 0 then some 0x0F03
  else if s.on PWR_STAT_ENTRY || s.on CXE_STAT_EXCH_PEND || s.rd UPD_STAT_STATE != 0 || s.grn.frozen.isSome then some 0x0F04
  else none

/-- A sleep entry starts (R426): CXE, CLE and FBE take nothing new from here on. Log entry 18 (DESIGN CHOICE, DEDUCED). -/
def State.beginSleep (s : State) (st : Nat) : State :=
  (s.raise PWR_STAT_ENTRY).onPwr fun p => { p with sleepTo := st, wakes := 0, during := false }

/-- A SLEEP instruction's request reaches SUP (R120, R425); a refused one records PW_REFUSED. -/
def State.sleepFromTask (s : State) (ten st : Nat) : State :=
  match s.sleepRefusal ten with
  | some c => s.log srcPWR 0x0F46 0 [.n2 c]
  | none => s.beginSleep st

/-- An activation's commit (R112, R143): staged writes, then the snapshot point of task 0 and a sleep request. -/
def State.commit (s : State) (a : Act) : State :=
  let s := (a.staged.foldl (State.commitOne a.task) s).dropAct a.task
  let s := s.mirrorPoints (a.staged.map fun w => w.handle)
  let s := if a.task = 0 then s.snapPoint else s
  match a.sleep with
  | some st => s.sleepFromTask (s.taskTen a.task) st
  | none => s

/-- The activation on a lane. -/
def State.actOn (s : State) (l : Fin 8) : Option Act := s.cxe.acts.find? fun a => a.lane == some l && !a.ended

/-- An activation ends on its lane (R112): with CMT = 0 it commits now. -/
def State.endActivation (s : State) (l : Fin 8) : State :=
  match s.actOn l with
  | none => s.freeLane l
  | some a =>
    let s := (s.freeLane l).setAct a.task fun a => { a with ended := true }
    match s.taskInfo a.task with
    | some i => if i.cmt then s else s.commit a
    | none => s.commit a

/-! ## Dispatch (R139 to R142) -/

/-- The lowest-numbered free lane of a lane set. -/
def State.freeLaneOf (s : State) (set : Nat) : Option (Fin 8) :=
  (List.finRange 8).find? fun l => set.testBit l.val && !(s.lane l).busy

/-- A pending activation with its task and the lane it would take. -/
def State.candidate (s : State) (a : Act) : Option (Act × TaskInfo × Fin 8) :=
  if a.lane.isSome then none
  else match s.taskInfo a.task with
    | none => none
    | some i => (s.freeLaneOf i.lanes).map fun l => (a, i, l)

/-- The order of R139. -/
def dispatchBefore (x y : Act × TaskInfo × Fin 8) : Bool :=
  decide (x.2.1.prio < y.2.1.prio) || (x.2.1.prio == y.2.1.prio &&
    (decide (x.1.due < y.1.due) || (x.1.due == y.1.due && decide (x.1.task < y.1.task))))

/-- The first of some candidates in that order. -/
def firstCand (s : State) : List Act → Option (Act × TaskInfo × Fin 8)
  | [] => none
  | a :: t =>
    match s.candidate a, firstCand s t with
    | none, r => r
    | some x, none => some x
    | some x, some y => if dispatchBefore y x then some y else some x

/-- The copy of a handle into the input image (R113), with the counted refusal where PDIR refuses it. -/
def State.copyInput (ten : Nat) (sm : State × List (Nat × List Word)) (h : Nat) : State × List (Nat × List Word) :=
  match sm.1.judge ten h askRead with
  | .served _ => (sm.1, sm.2 ++ [(h, (List.range 8).map fun e => (sm.1.point h).elem e)])
  | .refused c hid => (sm.1.refuse 6 ten c 0 h 0 hid, sm.2 ++ [(h, [0, 0xC0, 0, 0, 0, 0, 0, 0])])

/-- The first word of a routine. -/
def State.routineAt (s : State) (r : Nat) : Nat :=
  match s.cxe.prog with
  | some p => (p.routines.getD r (0, 0)).1
  | none => 0

/-- An activation dispatched to a lane (R141, R142). -/
def State.dispatchTo (s : State) (a : Act) (i : TaskInfo) (l : Fin 8) : State :=
  let late := s.ltu.now - a.due
  let (s, img) := i.reads.foldl (State.copyInput i.tenant) (s, [])
  let s := s.setAct a.task fun x =>
    { x with lane := some l, late := late, ms := s.rd CXE_MSCNT_MS, image := img }
  let s := s.setLane l { Lane.idle with busy := true, task := a.task, pc := s.routineAt i.entry }
  let s := s.wr CXE_STAT_LANE_BUSY (setBit (s.rd CXE_STAT_LANE_BUSY) l.val)
  let s := (s.wr (CXE_TASK_LAST_LANE a.task) l.val).wr (CXE_TASK_LAST_LATE a.task) (min late 65535)
  let s := s.maxField (CXE_TASK_FLT_MAXLATE a.task) late
  if late = 0 then s.wr (CXE_TASK_LAST_OUTCOME a.task) ocONTIME
  else (s.wr (CXE_TASK_LAST_OUTCOME a.task) ocDELAYED).bump (CXE_TASK_CNT_DELAYED a.task)

/-! ## Cells (R116 to R119, Table 5-2) -/

/-- Offsets of cell states in the data image. -/
def timerOff (phys : Nat) : Nat := 0x1D0000 + 16 * phys
def edgeOff (phys : Nat) : Nat := 0x1E0000 + phys / 32 * 4

/-- A timer cell's state. -/
structure TimerCell where
  preset : Nat
  start : Nat
  elapsed : Nat
  running : Bool
  output : Bool
  input : Bool
deriving DecidableEq, Repr

/-- A timer cell as it stands in the data image, and written back. Log entry 6 (DESIGN CHOICE, DEDUCED). -/
def State.timer (s : State) (phys : Nat) : TimerCell :=
  let f := (s.readData (timerOff phys + 12)).toNat
  ⟨(s.readData (timerOff phys)).toNat, (s.readData (timerOff phys + 4)).toNat, (s.readData (timerOff phys + 8)).toNat,
   f.testBit 0, f.testBit 1, f.testBit 2⟩
def State.setTimer (s : State) (phys : Nat) (t : TimerCell) : State :=
  let s := (s.writeData (timerOff phys) (BitVec.ofNat 32 t.preset)).writeData (timerOff phys + 4) (BitVec.ofNat 32 t.start)
  (s.writeData (timerOff phys + 8) (BitVec.ofNat 32 t.elapsed)).writeData (timerOff phys + 12)
    (BitVec.ofNat 32 (bit t.running + 2 * bit t.output + 4 * bit t.input))

/-- Elapsed time at `now`: once the preset was reached it stays there until the cell stops (R117). -/
def TimerCell.at_ (t : TimerCell) (now : Nat) : Nat :=
  if !t.running then min t.preset t.elapsed
  else if t.preset ≤ t.elapsed then t.preset
  else min t.preset (max t.elapsed ((now + 2 ^ 32 - t.start) % 2 ^ 32))

/-- TON evaluated (R117). -/
def TimerCell.ton (t : TimerCell) (now : Nat) (inp : Bool) : TimerCell :=
  if !inp then { t with running := false, elapsed := 0, output := false, input := false }
  else
    let t := if t.running then t else { t with running := true, start := now, elapsed := 0 }
    let e := t.at_ now
    { t with elapsed := e, output := decide (t.preset ≤ e), input := true }

/-- TOF evaluated. -/
def TimerCell.tof (t : TimerCell) (now : Nat) (inp : Bool) : TimerCell :=
  if inp then { t with running := false, elapsed := 0, output := true, input := true }
  else
    let t := if t.input then { t with running := true, start := now, elapsed := 0 } else t
    if t.running then
      let e := t.at_ now
      { t with elapsed := e, output := decide (e < t.preset), input := false }
    else { t with input := false }

/-- TP evaluated. -/
def TimerCell.tp (t : TimerCell) (now : Nat) (inp : Bool) : TimerCell :=
  let t := if inp && !t.input && !t.running then { t with running := true, start := now, elapsed := 0 } else t
  if t.running then
    let e := t.at_ now
    if e < t.preset then { t with elapsed := e, output := true, input := inp }
    else { t with elapsed := if inp then e else 0, output := false, running := inp, input := inp }
  else { t with output := false, input := inp }

/-- TMR by its kind; kind 3 is refused by the loader (R94) and acts as TP here. -/
def TimerCell.eval (t : TimerCell) (kind now : Nat) (inp : Bool) : TimerCell :=
  match kind with
  | 0 => t.ton now inp
  | 1 => t.tof now inp
  | _ => t.tp now inp

/-- The physical cell of an image-local index (R116). -/
def State.physCell (s : State) (edge : Bool) (idx : Nat) : Nat :=
  match s.cxe.prog with
  | none => 0
  | some p => match p.cells.find? fun c => c.edge == edge && c.idx == idx with
    | some c => c.phys
    | none => 0

/-- The stored input of an edge cell, and written. -/
def State.edgeBit (s : State) (phys : Nat) : Bool := (s.readData (edgeOff phys)).toNat.testBit (phys % 32)
def State.setEdgeBit (s : State) (phys : Nat) (b : Bool) : State :=
  let w := (s.readData (edgeOff phys)).toNat
  let k := phys % 32
  s.writeData (edgeOff phys) (BitVec.ofNat 32 (if b then setBit w k else if w.testBit k then w - 2 ^ k else w))

/-- EDG's result by its kind (R119). -/
def edgeResult (kind : Nat) (inp p : Bool) : Bool :=
  match kind with
  | 0 => inp && !p
  | 1 => !inp && p
  | _ => inp != p

/-- A preset set (R118): a negative value sets 0. Log entry 17 (DEDUCED). -/
def presetOf (v : Word) : Nat := if v.msb then 0 else v.toNat

/-- A timer cell reset (R118, R163). -/
def TimerCell.clear (t : TimerCell) : TimerCell := { t with running := false, elapsed := 0, output := false, input := false }

/-- A running timer cell brought up to date (R117). -/
def State.refreshTimer (s : State) (phys : Nat) : State :=
  let t := s.timer phys
  if t.running then s.setTimer phys { t with elapsed := t.at_ (s.rd CXE_MSCNT_MS) } else s

/-! ## Value change (R159, R160) -/

/-- A pending change applied in one step. -/
def State.applyChange (s : State) : State :=
  match s.cxe.change with
  | none => s
  | some c =>
    let s := s.onCxe fun x => { x with change := none }
    let s := match c with
      | .words wofs vs => (vs.foldl (fun (p : State × Nat) v => (p.1.writeData (4 * p.2) v, p.2 + 1)) (s, wofs)).1
      | .preset cell ms => s.setTimer cell { s.timer cell with preset := presetOf ms }
    let s := (s.raise CXE_EVT_VCHG_DONE).log srcCXE 0x0549 0 []
    (((s.lower CXE_VCHG_RES_PEND).raise CXE_VCHG_RES_DONE).wr CXE_VCHG_RES_CODE 0x0500).reply 0x0500 0 []

/-- A value change refused. -/
def State.changeRefused (s : State) (code reason : Nat) : State :=
  ((s.raise CXE_VCHG_RES_DONE).wr CXE_VCHG_RES_CODE code).reply code reason []

/-- A value change judged in the order of R159 after the BUSY reasons, and made pending. -/
def State.requestChange (s : State) (ok : Bool) (c : ValueChange) : State :=
  match s.supGate with
  | some r => s.changeRefused cBUSY r
  | none =>
    if s.on CXE_STAT_EXCH_PEND then s.changeRefused 0x0503 0
    else if s.cxe.change.isSome then s.changeRefused 0x0502 0
    else if !ok then s.changeRefused 0x0501 0
    else ((s.lower CXE_VCHG_RES_DONE).raise CXE_VCHG_RES_PEND).onCxe fun x => { x with change := some c }

/-- The words of a change lie within one DATA block of the tenant (R159). -/
def State.changeInBlock (s : State) (ten wofs n : Nat) : Bool :=
  s.blocks.any fun d => d.ten == ten && d.holds (4 * wofs) && d.holds (4 * (wofs + n) - 1)

/-- A physical timer cell is used by a task of the tenant. -/
def State.cellOfTenant (s : State) (ten phys : Nat) : Bool :=
  match s.cxe.prog with
  | none => false
  | some p => p.cells.any fun c => !c.edge && c.phys == phys && match c.task with
    | some t => s.taskTen t == ten
    | none => false

/-! ## Activation (R138) -/

/-- A task falls due: a pending activation, or SKIPPED. -/
def State.activate (s : State) (t due : Nat) : State :=
  match s.taskInfo t with
  | none => s
  | some _ =>
    if s.on (CXE_TASK_CFG_DIS t) || (s.act t).isSome then s.skip t
    else s.onCxe fun c => { c with acts := c.acts ++
      [{ task := t, due := due, lane := none, ended := false, overrun := false, late := 0, ms := 0, image := []
         staged := [], sleep := none, rangeNoted := false, qualNoted := false, memNoted := false }] }

/-! ## Snapshot completion and restore (R154 to R156) -/

/-- One step of CRC-32C (reflected polynomial 0x82F6_3B78), and the CRC of some bytes. -/
def crcBits : Nat → Nat → Nat
  | 0, c => c
  | k + 1, c => crcBits k (if c % 2 = 1 then (c / 2) ^^^ 0x82F63B78 else c / 2)
def crcStep (c : Nat) (b : Byte) : Nat := crcBits 8 (c ^^^ b.toNat)
def crc32c (bs : List Byte) : Nat := bs.foldl crcStep 0xFFFFFFFF ^^^ 0xFFFFFFFF

/-- Bytes 0x00 to 0xFB of a snapshot record (Table 5-3). -/
def State.snapRecord (s : State) (seq : Nat) : List Byte :=
  leBytes 4 0x50414E53 ++ leBytes 4 seq ++ leBytes 4 s.cxe.snapId ++ leBytes 4 s.cxe.snapVer ++ leBytes 4 s.cxe.snapMs ++
  leBytes 1 s.cxe.snapMap ++ List.replicate 3 0 ++ leBytes 8 s.cxe.snapAt ++ List.replicate 216 0 ++ leBytes 4 seq

/-- The pending rows copied to the target bank, preserved copies in place of live rows. -/
def State.writeRows (s : State) (t : Nat) : State :=
  let s := if s.cxe.pend.all then s.copyMem dataBase (bankBase t) 0x1FFF00
    else s.cxe.pend.rows.foldl (fun s r => s.copyMem (dataBase + r * rowSize) (bankBase t + r * rowSize) rowSize) s
  s.cxe.kept.foldl (fun s k =>
    let src := dataBase + k.1 * rowSize
    let dst := bankBase t + k.1 * rowSize
    { s with mem := putCells s.mem dst rowSize (k.2.map fun c => (c.1 - src + dst, c.2)) }) s

/-- The snapshot completes (steps 4 and 5 of R154), `us` its duration in µs; a faulty word was written as 0 (R151).
Log entry 6 (DESIGN CHOICE, DEDUCED). -/
def State.completeSnap (s : State) (us : Nat) (faulty : List Nat) : State :=
  let t := s.snapTarget
  let s := s.writeRows t
  let s := faulty.foldl (fun s w => (s.setBytes (bankBase t + 4 * w) [0, 0, 0, 0]).bump HLT_ERR_B_SNAP) s
  let s := match faulty.head? with
    | some w => (s.raise CXE_EVT_MEM_FAULT).log srcCXE 0x054A 0 [.n4 (4 * w)]
    | none => s
  let seq := (s.rd CXE_SNAP_SEQ_SEQ + 1) % 2 ^ 32
  let r := s.snapRecord seq
  let s := s.setBytes (bankBase t + 0x1FFF00) (r ++ leBytes 4 (crc32c r))
  let s := s.onCxe fun c => { c with
    bank0 := if t = 0 then (c.map0, c.map1) else c.bank0
    bank1 := if t = 0 then c.bank1 else (c.map0, c.map1)
    pend := RowSet.none, kept := [] }
  let s := ((s.lower CXE_STAT_SNAP_BUSY).wr CXE_STAT_SNAP_BANK t).wr CXE_SNAP_SEQ_SEQ seq
  (s.wr CXE_SNAP_TIME_LAST us).maxField CXE_SNAP_TIME_MAX us

/-- The record of a bank, and whether the bank is complete (R156). -/
def State.bankRec (s : State) (b : Nat) : List Byte := s.bytes (bankBase b + 0x1FFF00) 256
def State.bankComplete (s : State) (b : Nat) : Bool :=
  let r := s.bankRec b
  leAt r 0 4 == 0x50414E53 && leAt r 0xF8 4 == leAt r 4 4 && leAt r 0xFC 4 == crc32c (r.take 0xFC)

/-- The bank that SUP restores (R156); none when neither is complete. -/
def State.bankToRestore (s : State) : Option Nat :=
  match s.bankComplete 0, s.bankComplete 1 with
  | false, false => none
  | true, false => some 0
  | false, true => some 1
  | true, true =>
    let r0 := s.bankRec 0
    let r1 := s.bankRec 1
    let d := (leAt r1 4 4 + 2 ^ 32 - leAt r0 4 4) % 2 ^ 32
    if d = 0 ∨ d = 2 ^ 31 then (if leAt r0 0x18 8 < leAt r1 0x18 8 then some 1 else some 0)
    else if d < 2 ^ 31 then some 1 else some 0

/-- RESTORE (R156): the named bank is copied as it stands, the counter and the map selection follow its record, and the other
bank becomes all dirty. -/
def State.restoreBank (s : State) (b : Nat) : State :=
  let r := s.bankRec b
  let s := s.copyMem (bankBase b) dataBase 0x1FFF00
  let s := s.onCxe fun c =>
    let m := if b = 0 then c.bank0 else c.bank1
    { c with map0 := m.1, map1 := m.2
             dirty0 := if b = 0 then RowSet.none else ⟨true, []⟩
             dirty1 := if b = 0 then ⟨true, []⟩ else RowSet.none }
  let s := ((s.wr CXE_MSCNT_MS (leAt r 0x10 4)).wr CXE_STAT_MAPSEL (leAt r 0x14 1)).wr CXE_STAT_SNAP_BANK b
  let s := (s.wr CXE_SNAP_SEQ_SEQ (leAt r 4 4)).raise CXE_EVT_RESTORED
  s.log srcCXE 0x0547 0 [.n4 (leAt r 4 4)]

/-! ## Load port (R158) -/

/-- A load-port write falls where it must not disturb the running image. -/
def State.loadPortProtected (s : State) (off : Nat) : Bool :=
  let m := s.rd CXE_STAT_MAPSEL
  s.blocks.any (fun d => d.holds off) ||
  (decide (0x1E1000 + m * 0xA000 ≤ off) && decide (off < 0x1EB000 + m * 0xA000)) ||
  (decide (0x1D0000 ≤ off) && decide (off < 0x1E0000) && s.curMap.timers.any fun t => t.1 == (off - 0x1D0000) / 16) ||
  (decide (0x1E0000 ≤ off) && decide (off < 0x1E0200) && s.curMap.edges.any fun t => t.1 / 32 == (off - 0x1E0000) / 4) ||
  (decide (0x1E0200 ≤ off) && decide (off < 0x1E1000)) || decide (0x1F5000 ≤ off)

end Sys2Proof.Machine
end

