-- ==== Sys2Proof/Machine/FbeOps.lean ====
section
/-! DEFINITION. The field-bus engine's operations: value fields, windows and queues, sending, reception, silence, the
errors of each bus and requests (R252 to R284). -/

namespace Sys2Proof.Machine

/-- FBE's typed part changed. -/
def State.onFbe (s : State) (f : FbePart → FbePart) : State := { s with fbe := f s.fbe }

/-- A declared port and a declared object, and each changed. -/
def State.port (s : State) (n : Nat) : Option BusPort := (s.fbe.ports.find? fun x => x.1 == n).map fun x => x.2
def State.setPort (s : State) (n : Nat) (f : BusPort → BusPort) : State :=
  s.onFbe fun p => { p with ports := p.ports.map fun x => if x.1 = n then (n, f x.2) else x }
def State.obj (s : State) (n : Nat) : Option BusObj := (s.fbe.objs.find? fun x => x.1 == n).map fun x => x.2
def State.setObj (s : State) (n : Nat) (f : BusObj → BusObj) : State :=
  s.onFbe fun p => { p with objs := p.objs.map fun x => if x.1 = n then (n, f x.2) else x }

/-! ## Fields of the directives (Tables 9-3 to 9-5) -/

/-- The type of a port by its number: 0 CAN, 1 RS-485, 2 DALI-2 (R252). -/
def portType (n : Nat) : Nat := if n < 10 then 0 else if n < 20 then 1 else 2

def BusPort.fld (p : BusPort) (w lo n : Nat) : Nat := bitsOf (p.par.getD w 0) lo n
def BusPort.tenant (p : BusPort) : Nat := p.fld 0 24 6
def BusPort.mode (p : BusPort) : Nat := p.fld 0 16 8
def BusPort.wake (p : BusPort) : Nat := p.fld 3 22 2
def BusPort.borec (p : BusPort) : Bool := p.fld 3 21 1 == 1
/-- RETRY of an RS-485 line and of a DALI-2 port. -/
def BusPort.retry (p : BusPort) (type : Nat) : Nat := if type = 1 then p.fld 3 0 4 else p.fld 1 0 4

def BusWin.fld (w : BusWin) (k lo n : Nat) : Nat := bitsOf (w.par.getD k 0) lo n
def BusWin.len (w : BusWin) : Nat := w.fld 2 0 14
def BusWin.period (w : BusWin) : Nat := if w.fld 1 30 2 = 0 then w.fld 1 0 16 * 65536 else 65536 / 2 ^ w.fld 1 30 2

def BusObj.fld (o : BusObj) (w lo n : Nat) : Nat := bitsOf (o.par.getD w 0) lo n
def BusObj.tenant (o : BusObj) : Nat := o.fld 0 24 6
def BusObj.kind (o : BusObj) : Nat := o.fld 0 16 8
def BusObj.port (o : BusObj) : Nat := o.fld 1 27 5
def BusObj.win (o : BusObj) : Nat := o.fld 1 24 3
def BusObj.ph (o : BusObj) : Nat := o.fld 1 0 13
def BusObj.ident (o : BusObj) : Nat := o.par.getD 2 0
def BusObj.mask (o : BusObj) : Nat := leAt o.record 0 4
def BusObj.field (o : BusObj) : Nat := leAt o.record 4 4
def BusObj.ofs (o : BusObj) : Nat := bitsOf o.field 16 10
def BusObj.wid (o : BusObj) : Nat := bitsOf o.field 8 6 + 1
def BusObj.fmt (o : BusObj) : Nat := bitsOf o.field 4 2
def BusObj.be (o : BusObj) : Bool := o.field.testBit 0
def BusObj.scale (o : BusObj) : Word := BitVec.ofNat 32 (leAt o.record 8 4)
def BusObj.offset (o : BusObj) : Word := BitVec.ofNat 32 (leAt o.record 0xC 4)
def BusObj.len (o : BusObj) : Nat := leAt o.record 0x10 2
def BusObj.tmo (o : BusObj) : Nat := leAt o.record 0x12 2
def BusObj.resp (o : BusObj) : Nat := leAt o.record 0x14 2
def BusObj.refreshN (o : BusObj) : Nat := leAt o.record 0x16 1
def BusObj.flags (o : BusObj) : Nat := leAt o.record 0x17 1
def BusObj.onchg (o : BusObj) : Bool := o.flags.testBit 0
def BusObj.crc (o : BusObj) : Bool := o.flags.testBit 1
def BusObj.twice (o : BusObj) : Bool := o.flags.testBit 2
def BusObj.template (o : BusObj) : List Byte := slice o.record 0x20 64
/-- The bits of a DALI-2 frame. -/
def BusObj.daliBits (o : BusObj) : Nat := if bitsOf o.ident 30 2 = 1 then 16 else 24

def okRX : Nat := 1
def okTX : Nat := 2
def okQUERY : Nat := 3

/-! ## Value fields (R259, Table 9-6) -/

/-- The bytes of a field taken most significant first. -/
def swapField (be : Bool) (wid v : Nat) : Nat := if be then leNat (leBytes (wid / 8) v).reverse else v

/-- The value field of a payload. -/
def BusObj.extract (o : BusObj) (payload : List Byte) : Nat :=
  swapField o.be o.wid (bitsOf (leNat payload) o.ofs o.wid)

/-- A payload with its value field replaced. -/
def BusObj.insert (o : BusObj) (payload : List Byte) (v : Nat) : List Byte :=
  let n := leNat payload
  let m := n - bitsOf n o.ofs o.wid * 2 ^ o.ofs + swapField o.be o.wid (v % 2 ^ o.wid) * 2 ^ o.ofs
  leBytes payload.length m

/-- A field as a signed or unsigned number. -/
def BusObj.number (o : BusObj) (v : Nat) : Int :=
  if o.fmt = 1 ∧ v.testBit (o.wid - 1) then (v : Int) - 2 ^ o.wid else (v : Int)

/-- A received field as a point value. -/
def BusObj.receive (o : BusObj) (t : PType) (v : Nat) : Word :=
  match t with
  | .bool => if v = 0 then 0 else 1
  | .real32 => if o.fmt = 2 then BitVec.ofNat 32 v else xAdd (xMul o.scale (fOfInt (o.number v))) o.offset
  | _ => BitVec.ofInt 32 (o.number v)

/-- The field range of FMT and WID. -/
def BusObj.lo (o : BusObj) : Int := if o.fmt = 1 then -(2 ^ (o.wid - 1)) else 0
def BusObj.hi (o : BusObj) : Int := if o.fmt = 1 then 2 ^ (o.wid - 1) - 1 else 2 ^ o.wid - 1

/-- A point value as a transmitted field. -/
def BusObj.send (o : BusObj) (t : PType) (w : Word) : Nat :=
  let sat := fun (x : Int) => (clampInt o.lo o.hi x % (2 ^ o.wid : Int)).toNat
  match t with
  | .bool => if w = 0 then 0 else 1
  | .int32 => sat w.toInt
  | .real32 =>
    if o.fmt = 2 then w.toNat
    else
      let x := (fRnd (xDiv (xSub w o.offset) o.scale)).w
      if isInf x then sat (if fSign x then -(2 ^ 40) else 2 ^ 40)
      else sat (if fSign x then -(truncMag x : Int) else truncMag x)
  | _ => sat w.toNat

/-- One step of CRC-16 (polynomial 0x8005 reflected), and the CRC of some bytes, low byte first (R275). -/
def crc16Bits : Nat → Nat → Nat
  | 0, c => c
  | k + 1, c => crc16Bits k (if c % 2 = 1 then (c / 2) ^^^ 0xA001 else c / 2)
def crc16 (bs : List Byte) : Nat := bs.foldl (fun c b => crc16Bits 8 (c ^^^ b.toNat)) 0xFFFF

/-- The payload that an object sends: its template, or its frame on DALI-2, with the field replaced in a TX. -/
def BusObj.frame (o : BusObj) (t : PType) (w : Word) : List Byte :=
  let base := if portType o.port = 2 then leBytes (o.daliBits / 8) (o.ident % 2 ^ 24) else o.template.take o.len
  let b := if o.kind = okTX then o.insert base (o.send t w) else base
  if portType o.port = 1 ∧ o.crc then b ++ leBytes 2 (crc16 b) else b

/-! ## Ports -/

/-- States of FBE_Pnn_STAT. -/
def bsOFF : Nat := 0
def bsIDLE : Nat := 1
def bsACTIVE : Nat := 2
def bsPASSIVE : Nat := 3
def bsBUSOFF : Nat := 4
def bsRESTRICTED : Nat := 5
def bsSLEEP : Nat := 6

def State.busState (s : State) (n st : Nat) : State := s.wr (FBE_P_STAT_STATE n) st

/-- FBE works: no sleep and no power failure (R283). -/
def State.fbeRuns (s : State) : Bool := s.awake && s.micro 3 && !s.on PWR_STAT_ENTRY

/-- A port may send: declared, enabled to send and not down (R272, R281, R282). -/
def State.maySend (s : State) (n : Nat) : Bool :=
  let st := s.rd (FBE_P_STAT_STATE n)
  s.fbeRuns && s.on (FBE_P_CFG_TXEN n) && st != bsBUSOFF && st != bsRESTRICTED && st != bsSLEEP && st != bsOFF &&
  (portType n != 0 || st != bsIDLE)

/-- QUEUED and the state of each object shown. -/
def State.showQueue (s : State) (n : Nat) : State :=
  match s.port n with
  | none => s
  | some p => s.wr (FBE_P_STAT_QUEUED n) p.queue.length

/-- The status of an object. -/
def State.objState (s : State) (o st : Nat) : State := s.wr (FBE_OBJ_STAT_STATE o) st

/-- The frame of an opening that fell while the object's frame was on the bus. -/
def BusTx.following (t : BusTx) : Option BusTx := t.again.map fun a => ⟨t.obj, a.1, false, a.2.1, a.2.2, 0, none, none⟩

/-- A started frame goes back to its place in the queue, rebuilt where an opening has passed (R262). -/
def BusTx.back (t : BusTx) (tries : Nat) : BusTx :=
  match t.again with
  | none => { t with start := none, tries := tries }
  | some (_, w, bs) => { t with start := none, tries := tries, passed := true, value := w, bytes := bs, again := none }

/-- A frame leaves the queue, and its object is idle or silent again, or queued for an opening that fell meanwhile. -/
def State.unqueue (s : State) (n o : Nat) : State :=
  let after := match s.port n with | some p => (p.queue.filter fun t => t.obj == o).filterMap BusTx.following | none => []
  let s := s.setPort n fun p => { p with queue := (p.queue.filter fun t => t.obj ≠ o) ++ after }
  match s.obj o with
  | none => s.showQueue n
  | some b => (s.objState o (if !after.isEmpty then 2 else if b.silent then 4 else 1)).showQueue n

/-- The queued frames of a port that have not started are cancelled (R265). -/
def State.cancelAll (s : State) (n : Nat) : State :=
  match s.port n with
  | none => s
  | some p => (p.queue.filter fun t => t.start.isNone).foldl (fun s t => s.unqueue n t.obj) s

/-- The frame that has started on a port. -/
def BusPort.current (p : BusPort) : Option BusTx := p.queue.find? fun t => t.start.isSome

/-! ## Openings (R261, R262) -/

/-- A frame queued for this opening, or rebuilt in its place (R262). -/
def State.enqueue (s : State) (n o at_ : Nat) (w : Word) (bytes : List Byte) : State :=
  let s := s.setPort n fun p =>
    if p.queue.any fun t => t.obj == o then
      { p with queue := p.queue.map fun t =>
          if t.obj ≠ o then t
          else if t.start.isNone then { t with passed := true, value := w, bytes := bytes }
          else { t with again := some (at_, w, bytes) } }
    else { p with queue := p.queue ++ [⟨o, at_, false, w, bytes, 0, none, none⟩] }
  let s := match (s.port n).bind fun p => p.queue.find? fun t => t.obj == o with
    | some t => if t.start.isNone then s.objState o 2 else s
    | none => s
  s.showQueue n

/-- One object of an opening window (R261). -/
def State.openObj (n at_ : Nat) (s : State) (o : Nat) : State :=
  match s.obj o with
  | none => s
  | some b =>
    if b.kind = okQUERY then s.enqueue n o at_ 0 (b.frame .uint32 0)
    else
      match s.judge b.tenant b.ph askRead with
      | .refused c hid => (s.refuse 5 b.tenant c 0 b.ph 0 hid).bump (FBE_P_DROP_SUPPRESSED n)
      | .served d =>
        let (v, q, _) := s.effective b.ph
        let queued := match s.port n with | some p => p.queue.any fun t => t.obj == o && t.start.isNone | none => false
        if badQual q || (d.type == .real32 && !isFinite v) then (unq s n o).bump (FBE_P_DROP_SUPPRESSED n)
        else
          let due := b.refreshN ≠ 0 ∧ b.refreshN ≤ b.refresh + 1
          let s := s.setObj o fun b => { b with refresh := if due then 0 else b.refresh + 1 }
          if !b.onchg || queued || b.last.isNone || b.last != some v || decide due then s.enqueue n o at_ v (b.frame d.type v)
          else s
where
  /-- A frame still queued is given up where its value may not be sent. -/
  unq (s : State) (n o : Nat) : State :=
    match s.port n with
    | some p => if p.queue.any fun t => t.obj == o && t.start.isNone then s.unqueue n o else s
    | none => s

/-- The objects of a window in ascending number. -/
def State.windowObjs (s : State) (n w : Nat) : List Nat :=
  (s.fbe.objs.filter fun x => x.2.port == n && x.2.win == w && x.2.kind != okRX).map fun x => x.1

/-- A window opens at `at_` (R256, R261). -/
def State.openWindow (s : State) (n w at_ : Nat) : State :=
  match s.port n with
  | none => s
  | some p =>
    if !s.fbeRuns || !s.on (FBE_P_CFG_TXEN n) || !(p.wins.any fun x => x.win == w) then s
    else
      let s := s.setPort n fun p => { p with wins := p.wins.map fun (x : BusWin) =>
        if x.win = w then { x with opened := some (at_, at_ + (if x.len = 0 then x.period else x.len)) } else x }
      (s.windowObjs n w).foldl (State.openObj n at_) s

/-- A window closes: its frames stay queued and may not start (R264). -/
def State.closeWindow (s : State) (n w : Nat) : State :=
  s.setPort n fun p => { p with wins := p.wins.map fun (x : BusWin) => if x.win = w then { x with opened := none } else x }

/-! ## Sending (R262 to R265) -/

/-- The close of a window that is open at a line time. -/
def BusPort.openAt (p : BusPort) (w t : Nat) : Option (Nat × Nat) :=
  match p.wins.find? (fun x => x.win == w) with
  | some x => x.opened.bind fun oc => if oc.1 ≤ t ∧ t < oc.2 then some oc else none
  | none => none

/-- The arbitration key of a CAN identifier: base identifier, base before extended, the extension (R263). -/
def canKey (ident : Nat) : Nat :=
  if ident.testBit 31 then bitsOf ident 18 11 * 2 ^ 19 + 2 ^ 18 + bitsOf ident 0 18 else bitsOf ident 0 11 * 2 ^ 19

/-- The order of an object within its port (R263). -/
def BusObj.order (o : BusObj) (n : Nat) : Nat := if portType o.port = 0 then canKey o.ident else o.win * 4096 + n

/-- The bits of an RS-485 character (R254). -/
def BusPort.charBits (p : BusPort) : Nat :=
  1 + (if p.fld 2 30 2 = 0 then 8 else 7) + (if p.fld 2 28 2 = 0 then 0 else 1) + (if p.fld 2 27 1 = 1 then 2 else 1)

/-- The time of a frame in ns, rounded up (R264, R279). -/
def BusPort.frameNs (p : BusPort) (o : BusObj) (bytes : List Byte) : Nat :=
  if portType o.port = 1 then
    ceilDiv ((p.fld 2 8 8 + bytes.length * p.charBits + p.fld 2 0 8) * 1000000000) (p.par.getD 1 0) +
    (if o.kind = okQUERY then o.resp * 1000 else 0)
  else (if o.daliBits = 16 then 38 else 54) * 416670

/-- Angle units of a time in ns at the present angle unit, rounded up. -/
def State.laOfNs (s : State) (ns : Nat) : Nat := ceilDiv (ns * 65536 * s.ltu.freq) 1000000000000

/-- A queued frame may start at `t`: its window is open for 4 µs or more, and off CAN the frame can end before the close. -/
def State.fits (s : State) (p : BusPort) (t : Nat) (x : BusTx) : Bool :=
  match s.obj x.obj with
  | none => false
  | some o =>
    match p.openAt o.win t with
    | none => false
    | some (op, cl) =>
      x.start.isNone && decide (op + s.laOfNs 4000 ≤ t) &&
      (portType o.port == 0 || decide (t + s.laOfNs (p.frameNs o x.bytes) ≤ cl))

/-- The first queued frame in the port's order that may start. -/
def State.firstTx (s : State) (p : BusPort) (t : Nat) : List BusTx → Option BusTx
  | [] => none
  | x :: r =>
    let rest := s.firstTx p t r
    if s.fits p t x then
      match rest with
      | some y =>
        let k : BusTx → Nat := fun z => match s.obj z.obj with | some o => o.order z.obj | none => 0
        if k y < k x then some y else some x
      | none => some x
    else rest

/-- A queued frame starts on its bus; `sof` is the line time of its start (R265). Log entry 11 (DESIGN CHOICE, DEDUCED, PRESUMED). -/
def State.frameStart (s : State) (n o sof : Nat) : State :=
  match s.port n with
  | none => s
  | some p =>
    if !s.maySend n || p.current.isSome || p.awaits.isSome then s
    else match s.firstTx p sof p.queue with
      | none => s
      | some x =>
        if x.obj ≠ o then s
        else
          let s := s.setPort n fun p => { p with queue := p.queue.map fun t => if t.obj = o then { t with start := some sof } else t }
          let s := if portType n = 0 then s else s.busState n bsACTIVE
          s.objState o 3

/-- The CAN error counters as the standard's rules leave them, and the state they give (R272).
Log entry 11 (DESIGN CHOICE, DEDUCED, PRESUMED). -/
def State.canCounts (s : State) (n tec rec_ : Nat) : State :=
  let was := s.rd (FBE_P_STAT_STATE n)
  let s := (s.wr (FBE_P_STAT_TEC n) (min 255 tec)).wr (FBE_P_STAT_REC n) (min 255 rec_)
  if was = bsACTIVE ∨ was = bsPASSIVE then
    if 256 ≤ tec then
      let s := s.setPort n fun p => { p with
        queue := p.queue.map (fun t => if t.start.isSome then t.back t.tries else t), recovering := p.borec }
      let s := (s.busState n bsBUSOFF).bump (FBE_P_ARB_BUSOFF n)
      (s.raise FBE_EVT_BUS_OFF).log srcFBE 0x0941 0 [.n1 n]
    else if 128 ≤ tec ∨ 128 ≤ rec_ then
      if was = bsPASSIVE then s
      else ((s.busState n bsPASSIVE).raise FBE_EVT_ERR_PASSIVE).log srcFBE 0x0943 0 [.n1 n]
    else s.busState n bsACTIVE
  else s

/-- The started frame is sent to its end: counts, lateness, and a QUERY awaits its answer (R262, R277, R280).
Log entry 11 (DESIGN CHOICE, DEDUCED, PRESUMED). -/
def State.frameSent (s : State) (n : Nat) : State :=
  match s.port n with
  | none => s
  | some p =>
    match p.current with
    | none => s
    | some x =>
      let late := (x.start.getD x.first) - x.first
      let s := (s.tickField (FBE_P_TXCNT_CNT n)).maxField (FBE_P_LATE_MAXLATE n) late
      let s := if (s.obj x.obj).isSome then s.wr (FBE_OBJ_STAT_LATE x.obj) (min 65535 late) else s
      let s := if x.passed then (s.bump (FBE_P_LATE_DELAYED n)).raise FBE_EVT_DELAYED else s
      let s := (s.setObj x.obj fun b => { b with last := some x.value }).unqueue n x.obj
      let query := match s.obj x.obj with | some b => b.kind == okQUERY | none => false
      let s := if portType n ≠ 0 ∧ s.rd (FBE_P_STAT_STATE n) = bsACTIVE then s.busState n bsIDLE else s
      if query then s.setPort n fun p => { p with awaits := some (x.obj, s.ltu.now) } else s

/-- The started frame goes back to its place in the queue. -/
def State.requeue (s : State) (n : Nat) (tries : Nat) : State :=
  match (s.port n).bind BusPort.current with
  | none => s
  | some x =>
    if (s.obj x.obj).isNone then s.unqueue n x.obj
    else (s.setPort n fun p => { p with
      queue := p.queue.map fun t => if t.obj = x.obj then t.back tries else t }).objState x.obj 2

/-- A collision on an RS-485 line or a DALI-2 bus: a retry, or the frame dropped for this opening (R276, R279). -/
def State.collision (s : State) (n : Nat) : State :=
  match s.port n with
  | none => s
  | some p =>
    match p.current with
    | none => s
    | some x =>
      let s := if portType n = 2 then s.bump (FBE_P_ERRCNT_E1 n) else s
      let s := if s.rd (FBE_P_STAT_STATE n) = bsACTIVE then s.busState n bsIDLE else s
      if x.tries < p.retry (portType n) then (s.requeue n (x.tries + 1)).bump (FBE_P_ARB_ARBLOST n)
      else
        let s := ((s.unqueue n x.obj).bump (FBE_P_ARB_BUSOFF n)).raise FBE_EVT_RETRY_OUT
        s.log srcFBE 0x0949 (match s.obj x.obj with | some b => b.tenant | none => 0) [.n1 n, .n2 x.obj]

/-! ## Reception (R266 to R269) -/

/-- The type of the point of an object. -/
def State.objType (s : State) (b : BusObj) : PType := match (s.point b.ph).defn with | some d => d.type | none => .uint32

/-- An object writes its point with the line time of the frame's start. -/
def State.objWrite (s : State) (o : Nat) (b : BusObj) (v : Word) (q : Byte) (t : Nat) : State :=
  s.sourceWriteAt b.ph 5 o v q (BitVec.ofNat 32 t)

/-- An object keeps its value and takes a quality. -/
def State.objQual (s : State) (o : Nat) (b : BusObj) (q : Byte) : State :=
  let p := s.point b.ph
  if p.fedBy 5 o then s.setPoint b.ph (p.putQual q s.stamp) else s

/-- A match noted: silence ends. Log entry 11 (DESIGN CHOICE, DEDUCED, PRESUMED). -/
def State.noteMatch (s : State) (o : Nat) : State :=
  let s := s.setObj o fun b => { b with matchCyc := s.cyc, silent := false }
  if s.rd (FBE_OBJ_STAT_STATE o) = 4 then s.objState o 1 else s

/-- The payload of a frame. -/
def framePayload : BusFrame → List Byte
  | .can _ _ _ _ d => d
  | .rs485 b _ => b
  | .dali n v => leBytes (n / 8) v
  | .violation => []

/-- A frame matches an RX object (R266). -/
def BusObj.hits (b : BusObj) (f : BusFrame) : Bool :=
  match f with
  | .can ide fdf remote id _ =>
    !remote && ide == b.ident.testBit 31 && fdf == b.ident.testBit 30 &&
    (id.toNat &&& b.mask % 2 ^ 29) == (b.ident % 2 ^ 29 &&& b.mask % 2 ^ 29)
  | .rs485 bytes _ =>
    decide (4 ≤ bytes.length) && (leAt bytes 0 4 &&& b.mask) == (leNat (b.template.take 4) &&& b.mask) &&
    (!b.crc || (decide (6 ≤ bytes.length) && crc16 (bytes.take (bytes.length - 2)) == leNat (bytes.drop (bytes.length - 2))))
  | .dali n v => n == b.daliBits && (v &&& b.mask % 2 ^ 24) == (b.ident % 2 ^ 24 &&& b.mask % 2 ^ 24)
  | .violation => false

/-- A matching object takes the frame's field, or counts a short frame. -/
def State.objTake (n t : Nat) (f : BusFrame) (s : State) (o : Nat) : State :=
  match s.obj o with
  | none => s
  | some b =>
    let pl := framePayload f
    let s := s.noteMatch o
    if pl.length * 8 < b.ofs + b.wid then s.bump (FBE_P_MISS_SHORTFRM n)
    else s.objWrite o b (b.receive (s.objType b) (b.extract pl)) 0 t

/-- A frame in error counted (R275, R278): none where the frame is good. -/
def State.badFrame (s : State) (n : Nat) (f : BusFrame) : Option State :=
  match f with
  | .rs485 _ e =>
    match e with
    | 0 => none
    | 1 => some (s.bump (FBE_P_ERRCNT_E1 n))
    | 2 => some (s.bump (FBE_P_ERRCNT_E2 n))
    | 3 => some (s.bump (FBE_P_ERRCNT_E3 n))
  | .dali b _ => if b = 16 ∨ b = 24 then none else some (s.bump (FBE_P_ERRCNT_E0 n))
  | .violation => some (s.bump (FBE_P_ERRCNT_E0 n))
  | .can .. => none

/-- The frame is of the port's type. -/
def frameOfPort (f : BusFrame) (n : Nat) : Bool :=
  match f with
  | .can .. => portType n == 0
  | .rs485 .. => portType n == 1
  | _ => portType n == 2

/-- An answer to a QUERY is converted and written (R277). Log entry 11 (DESIGN CHOICE, DEDUCED, PRESUMED). -/
def State.answerQuery (s : State) (n t : Nat) (f : BusFrame) : State :=
  match (s.port n).bind fun p => p.awaits with
  | none => s
  | some (o, rel) =>
    match s.obj o with
    | none => s
    | some b =>
      if portType n = 1 ∧ t ≤ rel + s.laOfNs (b.resp * 1000) then
        (s.objTake n t f o).setPort n fun p => { p with awaits := none }
      else s

/-- An RS-485 frame that no object's CRC accepts is counted where an object asks for the CRC. -/
def State.crcMiss (s : State) (n : Nat) (f : BusFrame) : State :=
  match f with
  | .rs485 bytes _ =>
    let bad := decide (bytes.length < 3) || crc16 (bytes.take (bytes.length - 2)) != leNat (bytes.drop (bytes.length - 2))
    if bad && s.fbe.objs.any fun x => x.2.port == n && x.2.kind == okRX && x.2.crc && { x.2 with record := x.2.record.set 0x17 0 }.hits f then
      s.bump (FBE_P_ERRCNT_E0 n)
    else s
  | _ => s

/-- A port receives: declared, out of sleep, on its bus. -/
def State.mayReceive (s : State) (n : Nat) : Bool :=
  let st := s.rd (FBE_P_STAT_STATE n)
  s.awake && s.micro 3 && (s.port n).isSome && st != bsOFF && st != bsBUSOFF && st != bsSLEEP && (portType n != 0 || st != bsIDLE)

/-- A frame received at line time `t` (R266 to R270, R273). -/
def State.frameReceived (s : State) (n : Nat) (f : BusFrame) (t : Nat) (full : Bool) : State :=
  match s.port n with
  | none => s
  | some p =>
    if !s.mayReceive n || !frameOfPort f n then s
    else match s.badFrame n f with
      | some s => s
      | none =>
        let fdIgnored := match f with | .can _ fdf _ _ _ => fdf && p.mode == 1 | _ => false
        let remote := match f with | .can _ _ r _ _ => r | _ => false
        if fdIgnored then s.bump (FBE_P_MISS_FDIGN n)
        else
          let s := (s.tickField (FBE_P_RXCNT_CNT n)).wr (FBE_P_SOF_LO_T_LO n) t
          let s := s.setPort n fun p => { p with sof := t }
          if full then
            let s := (s.bump (FBE_P_DROP_RXOVR n)).raise FBE_EVT_RX_OVR
            if p.ovrRun then s
            else (s.setPort n fun p => { p with ovrRun := true }).log srcFBE 0x0945 0 [.n1 n]
          else
            let s := s.setPort n fun p => { p with ovrRun := false }
            if remote then (if p.mode = 2 then s.bump (FBE_P_MISS_FDIGN n) else s)
            else
              let s := (s.crcMiss n f).answerQuery n t f
              let os := (s.fbe.objs.filter fun x => x.2.port == n && x.2.kind == okRX && x.2.hits f).map fun x => x.1
              os.foldl (State.objTake n t f) s

/-- TMO cycles have passed without a match (R268). -/
def State.silence (s : State) (o : Nat) : State :=
  match s.obj o with
  | none => s
  | some b =>
    if b.tmo = 0 || b.kind == okTX || b.silent || !s.mayReceive b.port || decide (s.cyc ≤ b.matchCyc + b.tmo) then s
    else
      let s := (s.setObj o fun b => { b with silent := true }).objQual o b 0x85
      let s := if s.rd (FBE_OBJ_STAT_STATE o) = 1 then s.objState o 4 else s
      (s.raise FBE_EVT_SILENT).log srcFBE 0x0944 b.tenant [.n2 o]

/-- No answer within RESP (R277). -/
def State.replyTimeout (s : State) (n : Nat) : State :=
  match (s.port n).bind fun p => p.awaits with
  | none => s
  | some (o, _) =>
    if portType n ≠ 1 then s
    else
      let s := s.setPort n fun p => { p with awaits := none }
      match s.obj o with
      | some b => s.objQual o b 0x85
      | none => s

/-- The DALI-2 answer window ends (R280). -/
def State.daliAnswer (s : State) (n : Nat) (a : DaliAnswer) : State :=
  match (s.port n).bind fun p => p.awaits with
  | none => s
  | some (o, _) =>
    if portType n ≠ 2 then s
    else
      let s := s.setPort n fun p => { p with awaits := none }
      match s.obj o, a with
      | none, _ => s
      | some b, .silence => (s.objWrite o b 256 0x85 s.ltu.now).bump (FBE_P_ERRCNT_E2 n)
      | some b, .backward v => (s.noteMatch o).objWrite o b (v.zeroExtend 32) 0 s.ltu.now
      | some b, .violation => ((s.noteMatch o).objWrite o b 257 0 s.ltu.now).bump (FBE_P_ERRCNT_E0 n)

/-! ## Control, sleep and wake (R274, R282, R283) -/

/-- The port's entry into the state in which it receives. -/
def State.portUp (s : State) (n : Nat) : State :=
  let s := s.busState n (if portType n = 0 then (if s.on (FBE_P_CFG_TXEN n) then bsACTIVE else bsRESTRICTED) else bsIDLE)
  s.onFbe fun p => { p with objs := p.objs.map fun x =>
    if x.2.port = n then (x.1, { x.2 with matchCyc := s.cyc, silent := false }) else x }

/-- Sending follows the output stages (R282). -/
def State.busControl (s : State) (on : Bool) : State :=
  (s.fbe.ports.map fun x => x.1).foldl (fun s n =>
    let s := s.wr (FBE_P_CFG_TXEN n) (bit on)
    let s := if on then s else s.cancelAll n
    let st := s.rd (FBE_P_STAT_STATE n)
    if portType n = 0 then
      if on && st == bsRESTRICTED then s.busState n bsACTIVE
      else if !on && (st == bsACTIVE || st == bsPASSIVE) then s.busState n bsRESTRICTED
      else s
    else s) s

/-- Sleep entry and power failure cancel the queued frames; in sleep the transceivers are in low power. -/
def State.busQuiet (s : State) : State := (s.fbe.ports.map fun x => x.1).foldl State.cancelAll s
def State.busSleep (s : State) : State :=
  (s.fbe.ports.map fun x => x.1).foldl (fun s n => (s.cancelAll n).busState n bsSLEEP) s
def State.busWake (s : State) : State :=
  (s.fbe.ports.map fun x => x.1).foldl (fun s n =>
    if s.rd (FBE_P_STAT_STATE n) = bsSLEEP then (if portType n = 0 then s.busState n bsIDLE else s.portUp n) else s) s

/-- What wakes a port: 1 dominant phase, 2 wake frame, 3 error count (R274). -/
def BusPort.wakeCause (p : BusPort) (w : WakeSeen) : Option Nat :=
  match w with
  | .dominant ns => if p.wake = 1 ∧ 1800 ≤ ns then some 1 else none
  | .frame ide fdf id dlc data =>
    let wid := p.par.getD 4 0
    let mask := leAt p.wrec 4 4 % 2 ^ 29
    let cmp := leAt p.wrec 0 4
    let dataOk := !cmp.testBit 31 || (dlc == cmp % 16 && (leNat data &&& leAt p.wrec 0x10 8 &&& leAt p.wrec 8 8) != 0)
    if p.wake = 2 ∧ !fdf ∧ ide = wid.testBit 31 ∧ (id.toNat &&& mask) = (wid % 2 ^ 29 &&& mask) ∧ dataOk then some 2 else none
  | .errors k => if p.wake = 2 ∧ 32 ≤ k then some 3 else none

/-! ## Requests (R284) -/

/-- The result shown in FBE_CRES and answered. -/
def State.busResult (s : State) (code reason : Nat) : State :=
  ((s.raise FBE_CRES_DONE).wr FBE_CRES_CODE code).reply code reason []

/-- A CANCEL. -/
def State.busCancel (s : State) (ten o : Nat) : State :=
  let s := s.lower FBE_CRES_DONE
  match s.supGate, s.obj o with
  | some r, _ => s.busResult cBUSY r
  | none, none => s.busResult 0x0904 0
  | none, some b =>
    match s.judge ten b.ph (askForce none) with
    | .refused c _ => s.busResult c 0
    | .served _ =>
      if b.kind = okRX then s.busResult 0x0903 0
      else match (s.port b.port).bind fun p => p.queue.find? fun t => t.obj == o with
        | none => s.busResult 0x0902 0
        | some t => if t.start.isSome then s.busResult 0x0901 0 else (s.unqueue b.port o).busResult 0x0900 0

/-- A RECOVER. -/
def State.busRecover (s : State) (ten n : Nat) : State :=
  let s := s.lower FBE_CRES_DONE
  match s.supGate, s.port n with
  | some r, _ => s.busResult cBUSY r
  | none, p =>
    if ten ≠ 0 then s.busResult cNO_RIGHT 0
    else match p with
      | none => s.busResult 0x0904 0
      | some _ =>
        if portType n = 0 ∧ s.rd (FBE_P_STAT_STATE n) = bsBUSOFF then
          (s.setPort n fun p => { p with recovering := true }).busResult 0x0900 0
        else s.busResult 0x0905 0

end Sys2Proof.Machine
end

