-- ==== Sys2Proof/Machine/FioOps.lean ====
section
/-! DEFINITION. Universal field I/O: input values and quality, change writes, driven outputs, output faults and bank
feeds (R233 to R248). -/

namespace Sys2Proof.Machine

/-- FIO's typed part changed. -/
def State.onFio (s : State) (f : FioPart → FioPart) : State := { s with fio := f s.fio }

/-- A declared channel, and a channel changed. -/
def State.fch (s : State) (n : Nat) : Option FioCh := (s.fio.chans.find? fun x => x.1 == n).map fun x => x.2
def State.setFch (s : State) (n : Nat) (f : FioCh → FioCh) : State :=
  s.onFio fun p => { p with chans := p.chans.map fun x => if x.1 = n then (n, f x.2) else x }

/-! ## Fields of the directive (Tables 8-1 to 8-3) -/

/-- A field of a parameter word. -/
def fioFld (par : List Nat) (w lo n : Nat) : Nat := bitsOf (par.getD w 0) lo n
def FioCh.fld (c : FioCh) (w lo n : Nat) : Nat := fioFld c.par w lo n
def FioCh.tenant (c : FioCh) : Nat := c.fld 0 24 6
def FioCh.mode (c : FioCh) : Nat := c.fld 0 16 8
def FioCh.src (c : FioCh) : Bool := c.fld 1 31 1 == 1
def FioCh.fol (c : FioCh) : Bool := c.fld 1 15 1 == 1
def FioCh.oph (c : FioCh) : Nat := c.fld 1 0 13
def FioCh.frac (c : FioCh) : Nat := c.fld 2 30 2
def FioCh.chg (c : FioCh) : Bool := c.fld 2 29 1 == 1
def FioCh.wake (c : FioCh) : Bool := c.fld 2 28 1 == 1
def FioCh.opt (c : FioCh) : Nat := c.fld 2 16 8
def FioCh.per (c : FioCh) : Nat := c.fld 2 0 16
def FioCh.angle (c : FioCh) : Nat := c.fld 3 16 16
def FioCh.safe (c : FioCh) : Nat := c.fld 3 0 16
def FioCh.inv (c : FioCh) : Bool := c.opt.testBit 1
def FioCh.period (c : FioCh) : Nat := if c.frac = 0 then c.per * 65536 else 65536 / 2 ^ c.frac

def fmDI : Nat := 1
def fmDO : Nat := 2
def fmAIV : Nat := 3
def fmAII : Nat := 4
def fmAOV : Nat := 5
def fmAOI : Nat := 6
def fmRTD : Nat := 7
def fmPULSE : Nat := 8

/-- Output modes. -/
def isOutMode (m : Nat) : Bool := m == fmDO || m == fmAOV || m == fmAOI

/-- The first update instant at or after `t` (R237). -/
def FioCh.firstAt (c : FioCh) (t : Nat) : Nat :=
  if c.period = 0 then t else t + (((c.angle : Int) - (t : Int)) % (c.period : Int)).toNat

/-! ## Input values (R240) -/

/-- A finite value lies below, or above, the decimal `n / d`. -/
def below (w : Word) (n : Int) (d : Nat) : Bool :=
  let x := fInt w * d
  if 0 ≤ fPow w then decide (x * 2 ^ (fPow w).toNat < n) else decide (x < n * 2 ^ (-fPow w).toNat)
def above (w : Word) (n : Int) (d : Nat) : Bool :=
  let x := fInt w * d
  if 0 ≤ fPow w then decide (n < x * 2 ^ (fPow w).toNat) else decide (n * 2 ^ (-fPow w).toNat < x)

/-- The resistance of a sensor at 0 °C in Ω and its range in °C (Table 8-7). -/
def sensorR0 (opt : Nat) : Nat := if opt % 16 = 0 then 100 else 1000
def sensorLo (opt : Nat) : Int := if opt % 16 = 2 then -60 else -200
def sensorHi (opt : Nat) : Int := if opt % 16 = 2 then 250 else 850

/-- The quality of Table 8-5 for what a channel sensed; a readback shows its fault (Table 8-6).
Log entry 10 (DESIGN CHOICE, DEDUCED). -/
def State.inputQual (s : State) (n : Nat) (c : FioCh) (m : Sensed) (selfTest : Bool) : Byte :=
  if selfTest then 0x86
  else match m with
    | .contact o => if c.opt.testBit 0 && o then 0x83 else 0
    | .analogue v lim =>
      if c.mode = fmAIV then (if below v (-1) 5 then 0x82 else if above v 21 2 then 0x81 else 0)
      else if lim then 0x84
      else if c.opt.testBit 0 then (if above v 41 2 then 0x81 else 0)
      else if below v 18 5 then 0x83 else if below v 19 5 then 0x82 else if above v 41 2 then 0x81 else 0
    | .thermo t r =>
      if (4 * sensorR0 c.opt + 1000) * 1000 < r then 0x83
      else if r < 10000 then 0x84
      else if below t (sensorLo c.opt) 1 then 0x82
      else if above t (sensorHi c.opt) 1 then 0x81 else 0
    | .counter => 0
    | .terminal _ =>
      if (s.rd FIO_STAT_VLOW).testBit (n / 32) then 0x86
      else if s.on (FIO_CH_DIAG_SHORT n) || s.on (FIO_CH_DIAG_LATCH n) then 0x84
      else if s.on (FIO_CH_DIAG_OPEN n) then 0x83 else 0

/-- The value that a channel writes, with NaN under OPEN_WIRE and SHORT in the REAL32 modes; none where what was sensed is
not of the channel's mode. Log entry 10 (DESIGN CHOICE, DEDUCED). -/
def State.inputValue (s : State) (n : Nat) (c : FioCh) (m : Sensed) (q : Byte) : Option Word :=
  let real := fun (w : Word) => if q = 0x83 ∨ q = 0x84 then qNaN else w
  match m with
  | .contact _ => if c.mode = fmDI then some (if c.level != c.inv then 1 else 0) else none
  | .analogue v _ => if c.mode = fmAIV ∨ c.mode = fmAII then some (real v) else none
  | .thermo t _ => if c.mode = fmRTD then some (real t) else none
  | .counter => if c.mode = fmPULSE then some (s.real (FIO_CH_VAL_VAL n)) else none
  | .terminal v => if isOutMode c.mode then some (if c.mode = fmDO then v else real v) else none

/-- An input or readback write at sample instant `x` (R237, R240). -/
def State.writeInput (s : State) (n : Nat) (v : Word) (q : Byte) (x : Nat) : State :=
  let s := s.mapPoints (fun p => p.fedBy 1 n) fun p => p.put v q (BitVec.ofNat 32 x)
  let s := (s.wrReal (FIO_CH_VAL_VAL n) v).wr (FIO_CH_DIAG_QUAL n) q.toNat
  let s := if 128 ≤ q.toNat ∧ q.toNat < 192 then s.raise FIO_EVT_INPUT_BAD else s
  let s := if q = 0x83 then s.raise FIO_EVT_OPEN else s
  if q = 0x84 then s.raise FIO_EVT_SHORT else s

/-- FIO writes points: started, awake, no power failure (R247, Table 15-5). -/
def State.fioWrites (s : State) : Bool := s.fio.started && s.awake

/-- The update instant that falls due now: the next one, or the latest passed where line time was stepped. -/
def FioCh.dueAt (c : FioCh) (now : Nat) : Nat :=
  if 0 < c.period ∧ c.nextAt + c.period ≤ now then c.nextAt + (now - c.nextAt) / c.period * c.period else c.nextAt

/-- An update (R237). An input shows an open wire and a short as present while its last update found one (FIO_CHnnn_DIAG). -/
def State.inputUpdate (s : State) (n : Nat) (m : Sensed) (selfTest : Bool) : State :=
  match s.fch n with
  | none => s
  | some c =>
    let x := c.dueAt s.ltu.now
    if !s.fioWrites || !c.src || decide (s.cycleEnd ≤ x) then s
    else
      let s := s.forwardTo x
      let q := s.inputQual n c m selfTest
      match s.inputValue n c m q with
      | none => s
      | some v =>
        let s := (s.writeInput n v q x).setFch n fun c => { c with nextAt := x + c.period }
        if isOutMode c.mode then s else (s.wr (FIO_CH_DIAG_OPEN n) (bit (q == 0x83))).wr (FIO_CH_DIAG_SHORT n) (bit (q == 0x84))

/-! ## Changes (R238) and wake (R246, R247) -/

/-- A filtered change seen at raw sample instant `x`. Log entry 10 (DESIGN CHOICE, DEDUCED). -/
def State.diChange (s : State) (n : Nat) (level : Bool) (x : Nat) : State :=
  match s.fch n with
  | none => s
  | some c =>
    if c.mode ≠ fmDI ∨ c.level = level then s
    else
      let s := s.setFch n fun c => { c with level := level }
      let s := if c.wake && s.rd PWR_STAT_SLEEP != 0 then s.raise FIO_EVT_WAKE else s
      let s := if c.wake then s.wakeEvent 4 else s
      if !s.fioWrites || !c.chg then s
      else if c.window then s.setFch n fun c => { c with change := some x }
      else
        let v : Word := if level != c.inv then 1 else 0
        (s.writeInput n v 0 x).setFch n fun c => { c with window := true, change := none }

/-- The 50 µs window ends. -/
def State.windowEnd (s : State) (n : Nat) : State :=
  match s.fch n with
  | none => s
  | some c =>
    match c.change with
    | some x =>
      if s.fioWrites then
        let v : Word := if c.level != c.inv then 1 else 0
        (s.writeInput n v 0 x).setFch n fun c => { c with window := true, change := none }
      else s.setFch n fun c => { c with window := false, change := none }
    | none => s.setFch n fun c => { c with window := false }

/-! ## Outputs (R241 to R245) -/

/-- The SAFE value in the units of the mode. -/
def FioCh.safeWord (c : FioCh) : Word :=
  if c.mode = fmDO then BitVec.ofNat 32 c.safe else fOfRatio c.safe 1000

/-- The value in force for an output: the word driven, whether it is SAFE, and whether the value was no number.
Log entry 10 (DESIGN CHOICE, DEDUCED). -/
def State.outputValue (s : State) (c : FioCh) : Word × Bool × Bool :=
  let (v, q, _) := s.effective c.oph
  let err := c.mode != fmDO && !isFinite v
  if s.on FIO_STAT_PFSAFE ∨ err then (c.safeWord, true, err)
  else if badQual q then (c.safeWord, true, false)
  else if c.mode = fmDO then (if v = 1 then 1 else 0, false, false)
  else if c.mode = fmAOV then (fLim v 0 0x41280000, false, false)
  else (fLim v 0 0x41A80000, false, false)

/-- A DO driven on or off, with its switching count (R245). -/
def State.driveDo (s : State) (n : Nat) (on : Bool) : State :=
  let s := if on && !s.on (FIO_CH_DIAG_DRIVEN n) then s.bump (FIO_CH_CNT_SW n) else s
  (s.wr (FIO_CH_DIAG_DRIVEN n) (bit on)).setFch n fun c => { c with drive := some (if on then 1 else 0) }

/-- The stage of a channel can drive: enabled, its bank fed, and no DO fault that holds it off. -/
def State.stageOn (s : State) (n : Nat) (c : FioCh) : Bool :=
  s.on FIO_STAT_OUT_EN && !(s.rd FIO_STAT_VLOW).testBit (n / 32) && !s.on (FIO_CH_DIAG_LATCH n) && !c.waits

/-- A stage switched off or high-impedance. -/
def State.release (s : State) (n : Nat) : State :=
  (s.lower (FIO_CH_DIAG_DRIVEN n)).setFch n fun c => { c with drive := none }

/-- The module's outputs follow their points: S0 with power, or the SAFE values of the power-fail flush (R243, R247). -/
def State.outputsLive (s : State) : Bool := s.fio.started && s.powered && s.rd PWR_STAT_SLEEP == 0

/-- An application (R241, R242): the channel drives the value then in force. Log entry 10 (DESIGN CHOICE, DEDUCED). -/
def State.applyOutput (s : State) (n : Nat) : State :=
  match s.fch n with
  | none => s
  | some c =>
    if !isOutMode c.mode || !s.outputsLive then s
    else
      let (w, safe, err) := s.outputValue c
      let s := s.wr (FIO_CH_DIAG_SAFE_ACT n) (bit safe)
      let s := if err then s.raise (FIO_CH_DIAG_VAL_ERR n) else s
      if !s.stageOn n c then s.release n
      else if c.mode = fmDO then s.driveDo n (w == 1)
      else s.setFch n fun c => { c with drive := some w }

/-- Every declared output applied. -/
def State.applyOutputs (s : State) : State := (s.fio.chans.map fun x => x.1).foldl State.applyOutput s

/-- The output stages enabled with every output applied, and disabled (R244). -/
def State.enableStages (s : State) : State := (s.raise FIO_STAT_OUT_EN).applyOutputs
def State.disableStages (s : State) : State :=
  (s.fio.chans.filter fun x => isOutMode x.2.mode).foldl (fun s x => s.release x.1) (s.lower FIO_STAT_OUT_EN)

/-- LTU_SCHED.EN is set for the first time: outputs are applied and input updates start (R247). -/
def State.fioStart (s : State) : State :=
  if s.fio.started then s
  else
    let now := s.ltu.now
    let s := s.onFio fun p => { p with started := true, chans := p.chans.map fun x => (x.1, { x.2 with nextAt := x.2.firstAt now }) }
    if s.inControl then s.enableStages else s

/-! ## Faults (Table 8-6) -/

/-- FIO_STAT.LATCHED. -/
def State.countLatched (s : State) : State :=
  s.wr FIO_STAT_LATCHED (s.fio.chans.filter fun x => s.on (FIO_CH_DIAG_LATCH x.1)).length

/-- A DO short or overload: switched off, and latched after three consecutive failed retries. -/
def State.doShort (s : State) (n : Nat) : State :=
  match s.fch n with
  | none => s
  | some c =>
    if c.mode ≠ fmDO ∨ !s.on (FIO_CH_DIAG_DRIVEN n) then s
    else
      let s := ((s.raise (FIO_CH_DIAG_SHORT n)).raise FIO_EVT_SHORT).release n
      let r := s.rd (FIO_CH_DIAG_RETRY n) + bit c.retrying
      let s := s.wr (FIO_CH_DIAG_RETRY n) (min 3 r)
      if 3 ≤ r then
        let s := (s.raise (FIO_CH_DIAG_LATCH n)).setFch n fun c => { c with waits := false, retrying := false }
        s.countLatched.log srcFIO 0x0841 c.tenant [.n1 n]
      else s.setFch n fun c => { c with waits := true, retrying := false }

/-- The retry after 100 ms. -/
def State.doRetry (s : State) (n : Nat) : State :=
  match s.fch n with
  | none => s
  | some c => if c.waits then (s.setFch n fun c => { c with waits := false, retrying := true }).applyOutput n else s

/-- An open load, or a current output beyond its compliance voltage: FIO_OPEN once per run. -/
def State.openLoad (s : State) (n : Nat) (c : FioCh) : State :=
  if s.on (FIO_CH_DIAG_OPEN n) then s
  else ((s.raise (FIO_CH_DIAG_OPEN n)).raise FIO_EVT_OPEN).log srcFIO 0x0842 c.tenant [.n1 n]

/-- A fault condition absent for 10 ms; a DO short clears in an on-state, and a latch only by RESET. -/
def State.faultClear (s : State) (n : Nat) (f : OutFault) : State :=
  match s.fch n with
  | none => s
  | some c =>
    match f with
    | .open_ => s.lower (FIO_CH_DIAG_OPEN n)
    | .short =>
      if s.on (FIO_CH_DIAG_LATCH n) ∨ (c.mode = fmDO ∧ !s.on (FIO_CH_DIAG_DRIVEN n)) then s
      else ((s.lower (FIO_CH_DIAG_SHORT n)).wr (FIO_CH_DIAG_RETRY n) 0).setFch n fun c => { c with retrying := false }

/-- The channels of a bank. -/
def State.bankChans (s : State) (b : Nat) : List Nat := (s.fio.chans.map fun x => x.1).filter fun n => n / 32 == b

/-- A bank feed falls below 18.0 V, and is restored (R246); `mv10` is the feed in 10 mV. -/
def State.feedLow (s : State) (b mv10 : Nat) : State :=
  let s := s.wr (FIO_BANK_STAT_VFLD b) mv10
  if s.on (FIO_BANK_STAT_VLOW b) ∨ 1800 ≤ mv10 then s
  else
    let s := ((s.raise (FIO_BANK_STAT_VLOW b)).raiseBit FIO_STAT_VLOW b).raise FIO_EVT_VFLD
    let s := (s.bankChans b).foldl (fun s n => s.release n) s
    s.log srcFIO 0x0843 0 [.n1 b]
def State.feedOk (s : State) (b mv10 : Nat) : State :=
  let s := s.wr (FIO_BANK_STAT_VFLD b) mv10
  if !s.on (FIO_BANK_STAT_VLOW b) ∨ mv10 < 1920 then s
  else
    let s := ((s.lower (FIO_BANK_STAT_VLOW b)).wr FIO_STAT_VLOW (s.rd FIO_STAT_VLOW - 2 ^ b)).raise FIO_EVT_VFLD
    (s.bankChans b).foldl State.applyOutput (s.log srcFIO 0x0844 0 [.n1 b])

/-! ## Requests (R248) -/

/-- The result shown in FIO_CRES and answered. -/
def State.fioResult (s : State) (code reason : Nat) : State :=
  ((s.raise FIO_CRES_DONE).wr FIO_CRES_CODE code).reply code reason []

/-- A RESET of a latched DO. A channel that follows no point has no point to check: NO_POINT. Log entry 10 (DESIGN CHOICE, DEDUCED). -/
def State.fioReset (s : State) (ten n : Nat) : State :=
  let s := s.lower FIO_CRES_DONE
  match s.supGate, s.fch n with
  | some r, _ => s.fioResult cBUSY r
  | none, none => s.fioResult 0x0801 0
  | none, some c =>
    if !c.fol then s.fioResult cNO_POINT 0
    else match s.judge ten c.oph (askForce none) with
      | .refused code _ => s.fioResult code 0
      | .served _ =>
        if s.on (FIO_CH_DIAG_LATCH n) then
          let s := ((s.lower (FIO_CH_DIAG_LATCH n)).lower (FIO_CH_DIAG_SHORT n)).wr (FIO_CH_DIAG_RETRY n) 0
          let s := (s.countLatched.applyOutput n).log srcFIO 0x0845 ten [.n1 n]
          s.fioResult 0x0800 0
        else s.fioResult 0x0802 0

end Sys2Proof.Machine
end

