-- ==== Sys2Proof/Machine/ImgOps.lean ====
section
/-! DEFINITION. The Knaec image as a byte string: header, sections and routine table (R123), the code words (R94, R96), the
/-- Log entry 27 (DESIGN CHOICE). -/
structure of routines and calls (R108 to R111), W15 (R98), and the cost of code (R130). -/

namespace Sys2Proof.Machine

/-- A refusal of the loader (Table 4-13). -/
structure LoadFault where
  code : Nat
  sect : Nat
  task : Nat
  offset : Nat
  a : Nat
  b : Nat
deriving DecidableEq, Repr

/-- A refusal that concerns no task. Log entry 18 (DESIGN CHOICE, DEDUCED). -/
def refusal (code sect offset : Nat) : LoadFault := ⟨code, sect, 255, offset, 0, 0⟩

/-- A check of the loader: the first refusal, or none. -/
abbrev Check := Option LoadFault

/-- A condition demanded. -/
def demand (b : Bool) (f : LoadFault) : Check := if b then none else some f

/-- The first refusal of a list of checks. -/
def firstFault : List Check → Check
  | [] => none
  | some f :: _ => some f
  | none :: t => firstFault t

/-- A parsed image. -/
structure Image where
  id : Nat
  ver : Nat
  pdecl : Nat
  mode : Nat
  setup : List Nat
  code : List Nat
  routines : List (Nat × Nat)
  /-- Initial data records: byte offset in the data image and bytes (R123). -/
  datas : List (Nat × List Byte)
  /-- The bytes that SIG covers, and SIG. -/
  signed : List Byte
  sig : List Byte
deriving DecidableEq, Repr

/-- KN_FORMAT in a section. -/
def badFormat (sect offset : Nat) : LoadFault := refusal 0x0481 sect offset

/-- The little-endian words of some bytes. -/
def wordsOf : List Byte → List Nat
  | a :: b :: c :: d :: t => leNat [a, b, c, d] :: wordsOf t
  | _ => []

/-- The routine table of some words. -/
def routinesOf : List Nat → List (Nat × Nat)
  | a :: n :: t => (a, n) :: routinesOf t
  | _ => []

/-- The initial data records of a section, each padded to 4 bytes; none where a record runs over its end. -/
def recordsOf : Nat → List Byte → Option (List (Nat × List Byte))
  | 0, _ => none
  | n + 1, bs =>
    if bs.isEmpty then some []
    else if bs.length < 8 then none
    else
      let size := leAt bs 4 4
      let room := (size + 3) / 4 * 4
      if bs.length < 8 + room then none
      else (recordsOf n (bs.drop (8 + room))).map fun t => (leAt bs 0 4, slice bs 8 size) :: t

/-- Sections that are not empty do not overlap, in header order. -/
def apart : List (Nat × Nat) → Bool
  | [] => true
  | (o, n) :: t => t.all (fun x => n == 0 || x.2 == 0 || decide (o + n ≤ x.1) || decide (x.1 + x.2 ≤ o)) && apart t

/-- Step 1 of R133: header, section bounds and the routine table. -/
def parseImage (bs : List Byte) : Except LoadFault Image :=
  let w := fun k => leAt bs (4 * k) 4
  let size := bs.length
  let sec := fun k => (w (8 + 2 * k), w (9 + 2 * k))
  let secs := [sec 0, sec 1, sec 2, sec 3]
  let inside := fun (x : Nat × Nat) => x.2 == 0 || (decide (128 ≤ x.1) && decide (x.1 + x.2 + 64 ≤ size))
  let part := fun (x : Nat × Nat) => slice bs x.1 x.2
  let routs := routinesOf (wordsOf (part (sec 2)))
  let nCode := (sec 1).2 / 4
  let recs := recordsOf (size + 1) (part (sec 3))
  let fault := firstFault [
    demand (decide (192 ≤ size)) (badFormat 0 0), demand (w 0 == 0x45414E4B) (badFormat 0 0),
    demand (w 1 == 0x00800001) (badFormat 0 1), demand (w 2 == size && size % 4 == 0) (badFormat 0 2),
    demand (decide (w 5 % 256 ≤ 3) && decide (w 5 / 256 % 256 ≤ 1) && w 5 / 65536 == 0) (badFormat 0 5),
    demand (w 6 == 0) (badFormat 0 6), demand (w 7 == 0) (badFormat 0 7),
    demand ((List.range 16).all fun k => w (16 + k) == 0) (badFormat 0 16),
    demand (inside (sec 0) && (sec 0).2 % 4 == 0) (badFormat 0 8),
    demand (inside (sec 1) && (sec 1).2 % 4 == 0 && decide ((sec 1).2 ≤ 0x100000)) (badFormat 0 10),
    demand (inside (sec 2) && (sec 2).2 % 8 == 0 && decide ((sec 2).2 ≤ 32768)) (badFormat 0 12),
    demand (inside (sec 3)) (badFormat 0 14), demand (apart secs) (badFormat 0 8),
    match routs.findIdx? fun r => decide (nCode < r.1 + r.2) with
      | some k => some (badFormat 3 (2 * k))
      | none => none,
    demand recs.isSome (badFormat 4 0)]
  match fault with
  | some f => .error f
  | none => .ok {
      id := w 3, ver := w 4, pdecl := w 5 % 256, mode := w 5 / 256 % 256
      setup := wordsOf (part (sec 0)), code := wordsOf (part (sec 1)), routines := routs, datas := recs.getD []
      signed := bs.take (size - 64), sig := bs.drop (size - 64) }

/-! ## Code words (R94, R96) -/

/-- A code word with its address; `table` marks a word of a CASE table. -/
structure CodeWord where
  pc : Nat
  w : Nat
  table : Bool
  /-- Bits [31:16] of an EXT before it. -/
  ext : Option Nat
deriving DecidableEq, Repr

/-- The words of a code section in order; a CASE with n from 1 to 1,024 is followed by its table. -/
def scanCode (pc skip : Nat) (ext : Option Nat) : List Nat → List CodeWord
  | [] => []
  | w :: t =>
    if 0 < skip then ⟨pc, w, true, none⟩ :: scanCode (pc + 1) (skip - 1) none t
    else
      let n := if wOP w = 0x09 ∧ wIMM w ≤ 1024 then wIMM w else 0
      ⟨pc, w, false, ext⟩ :: scanCode (pc + 1) n (if wOP w = 0x01 then some (wIMM w) else none) t

/-- The code words of an image. -/
def Image.scan (im : Image) : List CodeWord := scanCode 0 0 none im.code

/-- The word at a code address. -/
def Image.at_ (im : Image) (pc : Nat) : Nat := im.code.getD pc 0xFFFFFFFF

/-- An instruction's 16-bit immediate, completed by an EXT. -/
def CodeWord.imm (c : CodeWord) : Nat := (c.ext.getD 0) * 65536 + wIMM c.w

/-- Where a BR goes when it is taken (R108). -/
def CodeWord.target (c : CodeWord) : Nat := c.pc + 1 + c.imm

/-- The targets of a CASE: its entries and its default (R110). -/
def Image.caseTargets (im : Image) (c : CodeWord) : List Nat :=
  let n := wIMM c.w
  (c.pc + 1 + n) :: (List.range n).map fun k => c.pc + 1 + n + im.at_ (c.pc + 1 + k) % 65536

/-- The words that control may reach by a jump from a word. -/
def Image.targets (im : Image) (c : CodeWord) : List Nat :=
  if c.table then [] else if wOP c.w = 0x03 then [c.target] else if wOP c.w = 0x09 then im.caseTargets c else []

/-- Step 3 of R133: each word by R94, a table word with bits [31:16] at 0; then each EXT by R96.
Log entry 18 (DESIGN CHOICE, DEDUCED). -/
def Image.checkCode (im : Image) : Check :=
  let ws := im.scan
  let bad := ws.find? fun c => if c.table then decide (65536 ≤ c.w) else !wordOk c.w
  let ends := fun (pc : Nat) => ws.any fun d => d.pc == pc && !d.table && takesExt d.w
  let split := ws.find? fun c => !c.table && wOP c.w == 0x01 && !ends (c.pc + 1)
  let after := fun (pc : Nat) => ws.any fun d => d.pc + 1 == pc && !d.table && wOP d.w == 0x01
  let into := ws.find? fun c => (im.targets c).any after
  firstFault [bad.map fun c => refusal 0x0483 2 c.pc, split.map fun c => refusal 0x0484 2 c.pc,
    into.map fun c => refusal 0x0484 2 c.pc,
    (im.routines.findIdx? fun r => after r.1).map fun k => refusal 0x0484 3 (2 * k)]

/-! ## Routines (R108 to R110) -/

/-- What a scan of a routine finds: its loops (LOOP and ENDL addresses), the open LOOPs, innermost first, and a fault. -/
structure Frame where
  loops : List (Nat × Nat)
  open_ : List Nat
  fault : Option Nat
deriving DecidableEq, Repr

/-- KN_STRUCT at a code word. -/
def badStruct (pc : Nat) : LoadFault := refusal 0x0485 2 pc

/-- One word of the scan; `last` is the routine's end. -/
def Frame.word (last : Nat) (f : Frame) (c : CodeWord) : Frame :=
  if f.fault.isSome || c.table then f
  else
    let op := wOP c.w
    if op = 0x06 then
      if 4 ≤ f.open_.length then { f with fault := some c.pc } else { f with open_ := c.pc :: f.open_ }
    else if op = 0x07 then
      match f.open_ with
      | [] => { f with fault := some c.pc }
      | l :: t => { f with open_ := t, loops := (l, c.pc) :: f.loops }
    else if op = 0x08 then (if f.open_.isEmpty then { f with fault := some c.pc } else f)
    else if op = 0x09 then
      if wIMM c.w = 0 ∨ 1024 < wIMM c.w ∨ last < c.pc + 1 + wIMM c.w then { f with fault := some c.pc } else f
    else f

/-- The words of a routine. -/
def Image.body (im : Image) (r : Nat × Nat) : List CodeWord :=
  im.scan.filter fun c => decide (r.1 ≤ c.pc) && decide (c.pc < r.1 + r.2)

/-- The scan of a routine. -/
def Image.frame (im : Image) (r : Nat × Nat) : Frame := (im.body r).foldl (Frame.word (r.1 + r.2)) ⟨[], [], none⟩

/-- A word lies in the body of a loop: after its LOOP, up to its ENDL. -/
def inLoop (l : Nat × Nat) (pc : Nat) : Bool := decide (l.1 < pc) && decide (pc ≤ l.2)

/-- A jump from `p` to `t` is permitted by R108. -/
def Image.jumpOk (im : Image) (r : Nat × Nat) (f : Frame) (p t : Nat) : Bool :=
  decide (r.1 ≤ t) && decide (t < r.1 + r.2) && (im.scan.any fun c => c.pc == t && !c.table) &&
  f.loops.all fun l => inLoop l p == inLoop l t

/-- A word may end a routine: END, RET, or BR with condition AL. -/
def endsRoutine (w : Nat) : Bool := wOP w == 0x02 || wOP w == 0x05 || (wOP w == 0x03 && wD w == 0)

/-- The structure of routine `k` (R108 to R110). -/
def Image.checkRoutine (im : Image) (k : Nat) (r : Nat × Nat) : Check :=
  let f := im.frame r
  let ws := im.body r
  let jump := ws.find? fun c => !((im.targets c).all fun t => im.jumpOk r f c.pc t)
  firstFault [demand (decide (0 < r.2)) (refusal 0x0485 3 (2 * k)), f.fault.map badStruct, f.open_.head?.map badStruct,
    jump.map fun c => badStruct c.pc,
    match ws.getLast? with
      | some c => demand (!c.table && endsRoutine c.w) (badStruct c.pc)
      | none => none]

/-! ## Calls (R111) -/

/-- The CALLs of a routine: address and routine number. -/
def Image.calls (im : Image) (r : Nat × Nat) : List (Nat × Nat) :=
  (im.body r).filterMap fun c => if !c.table && wOP c.w == 0x04 then some (c.pc, c.w % 4096) else none

/-- The routines that a routine calls. -/
def Image.callees (im : Image) (k : Nat) : List Nat := (im.calls (im.routines.getD k (0, 0))).map fun c => c.2

/-- How deep the calls of each routine nest, found for routines whose callees are all found; a routine on a cycle of calls,
or above one, is never found. -/
def Image.depths (im : Image) : Nat → List (Nat × Nat)
  | 0 => []
  | n + 1 =>
    let known := im.depths n
    (List.range im.routines.length).filterMap fun k =>
      let ds := (im.callees k).map fun c => known.find? fun x => x.1 == c
      if ds.all Option.isSome then some (k, ds.foldl (fun m d => max m ((d.getD (0, 0)).2 + 1)) 0) else none

/-- The depth of a routine's calls; none on a cycle. -/
def Image.depth (im : Image) (k : Nat) : Option Nat :=
  ((im.depths (im.routines.length + 1)).find? fun x => x.1 == k).map fun x => x.2

/-- The routines that a routine reaches, itself included. -/
def Image.reachFrom (im : Image) : Nat → List Nat → List Nat
  | 0, rs => rs
  | n + 1, rs => im.reachFrom n (rs ++ ((rs.flatMap im.callees).filter fun k => !rs.contains k).eraseDups)

/-- The routines reachable from an entry. -/
def Image.reach (im : Image) (entry : Nat) : List Nat := im.reachFrom im.routines.length [entry]

/-- The code words, tables left out, of the routines that an entry reaches. -/
def Image.reachWords (im : Image) (entry : Nat) : List CodeWord :=
  (im.reach entry).flatMap fun k => (im.body (im.routines.getD k (0, 0))).filter fun c => !c.table

/-- Every CALL names a routine of the table, and no calls form a cycle. -/
def Image.checkCalls (im : Image) : Check :=
  let unknown := (im.routines.flatMap im.calls).find? fun c => decide (im.routines.length ≤ c.2)
  let cycle := (List.range im.routines.length).find? fun k => (im.depth k).isNone
  let first := fun (k : Nat) => match (im.calls (im.routines.getD k (0, 0))).head? with | some c => c.1 | none => 0
  firstFault [unknown.map fun c => refusal 0x0486 2 c.1, cycle.map fun k => refusal 0x0486 2 (first k)]

/-- The structure of every routine, then the calls. Log entry 18 (DESIGN CHOICE, DEDUCED). -/
def Image.checkStructure (im : Image) : Check :=
  firstFault ((im.routines.zipIdx.map fun x => im.checkRoutine x.2 x.1) ++ [im.checkCalls])

/-- Step 6 of R133: no instruction writes W15, and no LOOP counts in it (R98). -/
def Image.checkLink (im : Image) : Check :=
  let writes := fun (w : Nat) => match opRow (wOP w) with | some r => r.writesD | none => false
  (im.scan.find? fun c => !c.table && wD c.w == 15 && writes c.w).map fun c => refusal 0x0487 2 c.pc

/-! ## Worst-case cost (R130) -/

/-- The base cost of an instruction. -/
def costOf (w : Nat) : Nat := match opRow (wOP w) with | some r => r.cost | none => 0

/-- The best known cost from a word onward to the routine's end. -/
def costAt (m : List (Nat × Nat)) (pc : Nat) : Nat := match m.find? fun x => x.1 == pc with | some x => x.2 | none => 0

/-- Cost from each word of a routine to the end of the region that ends at `stop`, words taken from the last to the first.
A loop counts as one block whose cost stands at its LOOP; `call k` is the cost of routine k. -/
def Image.costBack (im : Image) (call : Nat → Nat) (top : Bool) (stop : Nat) (f : Frame) (m : List (Nat × Nat))
    (block : Nat → Option Nat) : List CodeWord → List (Nat × Nat)
  | [] => m
  | c :: t =>
    let m := im.costBack call top stop f m block t
    let next := fun (pc : Nat) => if pc = stop then 0 else costAt m pc
    let op := wOP c.w
    let k := if c.table then 0
      else if op = 0x02 then costOf c.w
      else if op = 0x05 then (if top then 4 else costOf c.w)
      else if op = 0x03 then costOf c.w + (if wD c.w = 0 then next c.target else max (next c.target) (next (c.pc + 1)))
      else if op = 0x04 then costOf c.w + call (c.w % 4096) + next (c.pc + 1)
      else if op = 0x06 then
        match block c.pc, f.loops.find? fun l => l.1 == c.pc with
        | some b, some l => b + next (l.2 + 1)
        | _, _ => costOf c.w + next (c.pc + 1)
      else if op = 0x09 then costOf c.w + ((im.caseTargets c).map next).foldl max 0
      else costOf c.w + next (c.pc + 1)
    (c.pc, k) :: m

/-- The cost of a loop block: the LOOP and n times its body and ENDL; its inner loops first. `deep` bounds the nesting. -/
def Image.loopCost (im : Image) (call : Nat → Nat) (top : Bool) (r : Nat × Nat) (f : Frame) : Nat → Nat → Option Nat
  | 0, _ => none
  | deep + 1, pc =>
    (f.loops.find? fun l => l.1 == pc).map fun l =>
      let ws := (im.body r).filter fun c => decide (l.1 < c.pc) && decide (c.pc < l.2)
      let m := im.costBack call top l.2 f [] (im.loopCost call top r f deep) ws
      let inner := if l.1 + 1 = l.2 then 0 else costAt m (l.1 + 1)
      let n := wIMM (im.at_ l.1)
      costOf (im.at_ l.1) + n * (inner + costOf (im.at_ l.2))

/-- The cost of a routine from its first word, with the costs of its callees; `top` where RET meets an empty stack. -/
def Image.routineCost (im : Image) (call : Nat → Nat) (top : Bool) (k : Nat) : Nat :=
  let r := im.routines.getD k (0, 0)
  let f := im.frame r
  costAt (im.costBack call top (r.1 + r.2) f [] (im.loopCost call top r f 5) (im.body r)) r.1

/-- The cost of a called routine, calls nesting at most `n` deep. -/
def Image.callCost (im : Image) : Nat → Nat → Nat
  | 0, _ => 0
  | n + 1, k => im.routineCost (im.callCost n) false k

/-- C of a task with an entry routine (R130). -/
def Image.cycles (im : Image) (entry : Nat) : Nat := 16 + im.routineCost (im.callCost 9) true entry

/-- t_wc in sixths of a ns: the real-time port bound for `nIn` handles, and the cycles at the level's frequency (R130). -/
def worstSixths (nIn pdecl cycles : Nat) : Nat :=
  (8 * nIn + 2048) * 20 + cycles * (match pdecl with | 0 => 10 | 1 => 15 | 2 => 30 | _ => 60)

/-- t_wc in ns, rounded up (R150). -/
def worstNs (nIn pdecl cycles : Nat) : Nat := ceilDiv (worstSixths nIn pdecl cycles) 6

/-- t_wc fits a budget of `la` angle units (R131). -/
def fitsBudget (nIn pdecl cycles la : Nat) : Bool :=
  decide (worstSixths nIn pdecl cycles * 4326400 ≤ 6 * la * 1000000000)

/-- A budget of `la` angle units in ns, rounded down (R131). -/
def budgetNs (la : Nat) : Nat := la * 1000000000 / 4326400

end Sys2Proof.Machine
end

