-- ==== Sys2Proof/Machine/MtrOps.lean ====
section
/-! DEFINITION. The metering engine's operations: temperature compensation, classification and accumulation, intervals,
measurement points, presets, checkpoints and reports (R205 to R230). -/

namespace Sys2Proof.Machine

/-- MTR's typed part changed. -/
def State.onMtr (s : State) (f : MtrPart → MtrPart) : State := { s with mtr := f s.mtr }

/-! ## Declarations (Tables 7-5 and 7-7) -/

/-- A field of a parameter word, and a whole word as a pattern. -/
def MeterDecl.fld (d : MeterDecl) (w lo n : Nat) : Nat := bitsOf (d.par.getD w 0) lo n
def MeterDecl.real (d : MeterDecl) (w : Nat) : Word := BitVec.ofNat 32 (d.par.getD w 0)
def MeterDecl.tenant (d : MeterDecl) : Nat := d.fld 0 24 6
def MeterDecl.kind (d : MeterDecl) : Nat := d.fld 0 16 8
def MeterDecl.chan (d : MeterDecl) : Nat := d.fld 0 0 16
def MeterDecl.vch (d : MeterDecl) : Nat := d.fld 1 28 4
def MeterDecl.inv (d : MeterDecl) : Bool := d.fld 1 27 1 == 1
def MeterDecl.rep (d : MeterDecl) : Bool := d.fld 1 26 1 == 1
def MeterDecl.tsel (d : MeterDecl) : Nat := d.fld 1 24 2
def MeterDecl.rslot (d : MeterDecl) : Nat := d.fld 1 16 8
def MeterDecl.avg (d : MeterDecl) : Nat := d.fld 1 13 3
def MeterDecl.thandle (d : MeterDecl) : Nat := d.fld 1 0 13
def MeterDecl.n (d : MeterDecl) : Nat := d.fld 2 0 16
def MeterDecl.scale (d : MeterDecl) : Word := d.real 3
def MeterDecl.noload (d : MeterDecl) : Word := d.real 4
def MeterDecl.recOfs (d : MeterDecl) : Nat := d.par.getD 5 0

/-! ## Channels -/

/-- A current channel, and a channel changed. -/
def State.mch (s : State) (n : Nat) : Option MeterCh := (s.mtr.chans.find? fun x => x.1 == n).map fun x => x.2
def State.setMch (s : State) (n : Nat) (f : MeterCh → MeterCh) : State :=
  s.onMtr fun m => { m with chans := m.chans.map fun x => if x.1 = n then (n, f x.2) else x }

/-- The declaration of a declared channel. -/
def State.mdecl (s : State) (n : Nat) : Option MeterDecl := (s.mch n).bind fun c => c.decl

/-- Flags of Table 7-9. -/
def fCLIP : Nat := 0
def fCAL : Nat := 1
def fTHOLD : Nat := 2
def fUNLOCKED : Nat := 3
def fFAULT : Nat := 4
def fPRESET : Nat := 5
def fWSAT : Nat := 6
def fECC : Nat := 7

/-- A set of flags as a number. -/
def flagsOf (l : List (Nat × Bool)) : Nat := l.foldl (fun m x => if x.2 then setBit m x.1 else m) 0

/-- The mark of the interval in progress. -/
def State.markInterval (s : State) (n bitNo : Nat) : State := s.raiseBit (MTR_CH_STAT_FLAGS n) bitNo

/-- The low words of the cumulative registers shown; the high words are latched by a read (R232). -/
def State.showAcc (s : State) (n : Nat) (acc : List MeterAcc) : State :=
  (List.range 10).foldl (fun s k => s.wr (MTR_CH_ACC_LO_CUM_LO n k) ((acc.getD k ⟨0, 0, 0, 0⟩).cum)) s

/-! ## Temperature (R205, R206) -/

/-- −40 °C, 15 and 145 as REAL32. -/
def rM40 : Word := 0xC2200000
def r105 : Word := 0x42D20000
def r25 : Word := 0x41C80000

/-- Linear interpolation between two neighbouring points of a table of 16. -/
def interpolate (tab : Nat → Word) (t : Word) : Word :=
  let x := xDiv (xMul (xSub t rM40) (utof 15)) (utof 145)
  let i := min 14 (truncMag x)
  let f := xSub x (utof (BitVec.ofNat 32 i))
  xAdd (tab i) (xMul (xSub (tab (i + 1)) (tab i)) f)

/-- The correction at a temperature. Log entry 9 (DESIGN CHOICE, DEDUCED). -/
def MeterDecl.compensate (d : MeterDecl) (t : Word) (hold : Bool) : Compensation :=
  let out := fLt t rM40 || fLt r105 t
  let c := fLim t rM40 r105
  ⟨t, interpolate (fun k => d.record.getD k 0) c, interpolate (fun k => d.record.getD (16 + k) 0) c, out, hold⟩

/-- The temperature of a channel from its source: the value, whether it was held, and the value obtained. -/
def State.sensorTemp (s : State) (d : MeterDecl) (c : MeterCh) : Word × Bool × Option Word :=
  if d.tsel = 0 then (r25, false, c.obtained)
  else if d.tsel = 2 then
    let t := fOfRatioInt (sint16 (s.rd HLT_TEMP_NOW)) 10
    (t, false, some t)
  else
    let (v, q, _) := s.effective d.thandle
    if badQual q || !isFinite v then (c.obtained.getD r25, true, c.obtained) else (fFlush v, false, some (fFlush v))

/-- A channel reads its temperature at a cycle boundary; the correction applies from the next one. -/
def State.readTemp (s : State) (n : Nat) : State :=
  match s.mch n with
  | none => s
  | some c =>
    match c.decl with
    | none => s
    | some d =>
      let (t, hold, obt) := s.sensorTemp d c
      let s := s.setMch n fun c => { c with compNext := some (d.compensate t hold), obtained := obt, holdRun := hold, readTemp := false }
      if hold && !c.holdRun then s.log srcMTR 0x0743 d.tenant [.n1 n] else s

/-- The correction read at the last boundary takes effect. -/
def State.applyComp (s : State) (n : Nat) : State :=
  match (s.mch n).bind fun c => c.compNext with
  | none => s
  | some k =>
    let s := s.setMch n fun c => { c with comp := k, compNext := none }
    ((s.wr (MTR_CH_TEMP_T n) k.temp.toNat).wr (MTR_CH_GAIN_VAL n) k.gain.toNat).wr (MTR_CH_PHASE_VAL n) k.phase.toNat

/-! ## Accumulation (R207 to R211) -/

/-- The energies of a cycle by accumulator (Table 7-2), INV applied. -/
def energies (inv : Bool) (m : CurrentCycle) : List (Nat × Nat) :=
  let sg : Int := if inv then -1 else 1
  let p := sg * m.p
  let p1 := sg * m.p1
  let q1 := sg * m.q1
  let kr := if 0 ≤ p1 then (if 0 ≤ q1 then 4 else 7) else (if 0 ≤ q1 then 5 else 6)
  [(if 0 ≤ p then 0 else 1, p.natAbs), (if 0 ≤ p1 then 2 else 3, p1.natAbs), (kr, q1.natAbs), (if 0 ≤ p then 8 else 9, m.sa)]

/-- The apparent power of a cycle lies below a positive REAL32 threshold (R208): S = 28,800 × sa / (2^32 × K) VA. -/
def belowNoload (th : Word) (sa samples : Nat) : Bool :=
  if isZero th then false
  else if 0 ≤ fPow th then decide (sa * 28800 < fNum th * 2 ^ (fPow th).toNat * 2 ^ 32 * samples)
  else decide (sa * 28800 * 2 ^ (-fPow th).toNat < fNum th * 2 ^ 32 * samples)

/-- An accumulator after energy `e` in 2^-32 units: fraction, whole part modulo 2^48, wraps (R210). -/
def MeterAcc.add (a : MeterAcc) (e : Nat) : MeterAcc :=
  let f := a.frac + e
  let c := a.cum + f / 2 ^ 32
  { a with frac := f % 2 ^ 32, cum := c % 2 ^ 48, wrap := satAdd 255 a.wrap (c / 2 ^ 48) }

/-- Energy added to accumulator `k` of a channel, with MT_WRAP. -/
def State.addEnergy (n : Nat) (s : State) (ke : Nat × Nat) : State :=
  match s.mch n with
  | none => s
  | some c =>
    let a := c.acc.getD ke.1 ⟨0, 0, 0, 0⟩
    let b := a.add ke.2
    let s := s.setMch n fun c => { c with acc := c.acc.set ke.1 b }
    if a.cum + (a.frac + ke.2) / 2 ^ 32 < 2 ^ 48 then s
    else (s.raise MTR_EVT_WRAP).log srcMTR 0x0741 c.tenant [.n1 n, .n1 ke.1]

/-- What a cycle adds to a channel, with its marks (R204, R206, R208, R209, R211). -/
def State.judgeMeter (s : State) (c : MeterCh) (d : MeterDecl) (cyc samples : Nat) (m : CurrentCycle) (v : Option VoltageCycle) :
    MeterAdd :=
  let fault := m.fault || (match v with | some v => v.fault | none => false)
  let clip := m.clip || (match v with | some v => v.clip | none => false)
  let low := belowNoload d.noload m.sa samples
  let marks := flagsOf [(fCLIP, clip), (fCAL, c.comp.outside), (fTHOLD, c.comp.hold),
    (fUNLOCKED, s.rd LTU_STAT_STATE != stLOCK), (fFAULT, fault), (fWSAT, c.acc.any fun a => a.wrap == 255)]
  if fault then ⟨cyc, [], 0, 0, marks⟩
  else ⟨cyc, if low then [] else energies d.inv m, bit low, 1, marks⟩

/-- A cycle's contribution added to a channel. -/
def State.applyAdd (s : State) (n : Nat) (a : MeterAdd) : State :=
  let s := a.adds.foldl (State.addEnergy n) s
  let s := s.setMch n fun c => { c with noload := c.noload + a.noload, metered := c.metered + a.metered }
  s.wr (MTR_CH_STAT_FLAGS n) (s.rd (MTR_CH_STAT_FLAGS n) ||| a.marks)

/-! ## Measurement points (R217, R218) -/

/-- MTR writes the points bound to a quantity through port 3; in S2 it writes none (R424). -/
def State.quantity (s : State) (q : Nat) (v : Word) (ql : Byte) : State :=
  if s.rd PWR_STAT_SLEEP = 2 then s else s.sourceWrite 2 q v ql

/-- An interval point; in S2 it follows at wake (R424). -/
def State.intervalPoint (s : State) (q : Nat) (v : Word) (ql : Byte) : State :=
  if s.rd PWR_STAT_SLEEP = 2 then s.onMtr fun m => { m with deferred := m.deferred ++ [(q, v, ql)] } else s.quantity q v ql

/-- The interval points that waited for the wake. Log entry 9 (DESIGN CHOICE, DEDUCED). -/
def State.meterWake (s : State) : State :=
  s.mtr.deferred.foldl (fun s d => s.quantity d.1 d.2.1 d.2.2) (s.onMtr fun m => { m with deferred := [] })

/-- The quality of a window or an interval by its marks. -/
def markQual (marks : Nat) : Byte :=
  if marks.testBit fFAULT then 0x86 else if marks.testBit fCLIP then 0x81 else if marks.testBit fCAL then 0x44 else 0

/-- The mean of a quantity over cycles, each an energy in 2^-32 units over K samples, as a ratio. -/
def meanPower (f : CurrentCycle → Int) (w : List (Nat × CurrentCycle)) : Int × Nat :=
  let r := w.foldl (fun (x : Int × Nat) c => (x.1 * c.1 + f c.2 * 28800 * x.2, x.2 * c.1)) ((0 : Int), 1)
  (r.1, r.2 * 2 ^ 32 * w.length)

/-- 100 × the root of a ratio; without a fundamental the spec states no THD. Log entry 9 (DESIGN CHOICE, DEDUCED). -/
def State.thd (s : State) (h f : Nat) : Word × State := if f = 0 then (BitVec.ofNat 32 s.openValue, s.tookOpen) else (fSqrtRatio (10000 * h) f, s)

/-- The phase with INV applied, in −180° to +180°. -/
def phiOf (inv : Bool) (w : Word) : Word := if inv then (if fLt 0 w then xSub w (utof 180) else xAdd w (utof 180)) else w

/-- The measurement points of a current channel at the end of its window. -/
def State.writeWindow (s : State) (n : Nat) (d : MeterDecl) (c : MeterCh) : State :=
  let w := c.window
  let q := markQual c.marks
  let sum := fun (f : CurrentCycle → Nat) => (w.map fun x => f x.2).sum
  let sg : Int := if d.inv then -1 else 1
  let p := meanPower (fun m => sg * m.p) w
  let sa := meanPower (fun m => (m.sa : Int)) w
  let (thd, s) := s.thd (sum CurrentCycle.harm2) (sum CurrentCycle.fund2)
  let ratio := fun (x : Int × Nat) => fOfRatioInt x.1 x.2
  let one := 2 ^ 40 * w.length
  let vals : List Word := [fSqrtRatio (sum CurrentCycle.total2) one, fSqrtRatio (sum CurrentCycle.fund2) one, ratio p,
    ratio (meanPower (fun m => sg * m.p1) w), ratio (meanPower (fun m => sg * m.q1) w), ratio sa, thd,
    if sa.1 = 0 then 0 else fOfRatioInt p.1 sa.1.natAbs,
    match w.getLast? with | some x => phiOf d.inv x.2.phi | none => 0,
    c.comp.temp]
  (vals.foldl (fun (x : State × Nat) v => (x.1.quantity x.2 v q, x.2 + 1)) (s, 64 * n + 16)).1

/-- The frequency over some cycles in Hz; 0 when no crossing was found. -/
def freqMean (fs : List (Option Nat)) : Word :=
  let l := fs.filterMap id
  if l.isEmpty then 0 else fOfRatio l.sum (1000 * l.length)

/-- The measurement points of a voltage channel at the end of its window. -/
def State.writeVolt (s : State) (k : Nat) (w : List VoltageCycle) : State :=
  let q := markQual (flagsOf [(fFAULT, w.any VoltageCycle.fault), (fCLIP, w.any VoltageCycle.clip)])
  let sum := fun (f : VoltageCycle → Nat) => (w.map f).sum
  let (thd, s) := s.thd (sum VoltageCycle.harm2) (sum VoltageCycle.fund2)
  let one := 2 ^ 40 * w.length
  let vals : List Word := [fSqrtRatio (sum VoltageCycle.total2) one, fSqrtRatio (sum VoltageCycle.fund2) one, thd,
    freqMean (w.map VoltageCycle.freq), match w.getLast? with | some v => v.phase | none => 0]
  (vals.foldl (fun (x : State × Nat) v => (x.1.quantity x.2 v q, x.2 + 1)) (s, 3072 + 16 * k)).1

/-! ## Reports (R227 to R230) -/

/-- A report lost: counted and recorded with its tenant. -/
def State.loseReport (s : State) (ten : Nat) : State :=
  ((s.bump MTR_REPQ_LOST).raise MTR_EVT_REPORT_LOST).log srcMTR 0x0747 ten []

/-- The next sequence number of a tenant's reports, and the number taken. -/
def State.reportSeq (s : State) (ten : Nat) : Nat := ((s.mtr.seqs.find? fun x => x.1 == ten).map fun x => x.2).getD 0
def State.setReportSeq (s : State) (ten q : Nat) : State :=
  s.onMtr fun m => { m with seqs := (ten, q % 2 ^ 32) :: m.seqs.filter fun x => x.1 ≠ ten }

/-- The identity of the image in force. -/
def State.imageId (s : State) : Nat := match s.cxe.prog with | some p => p.id | none => 0
def State.imageVer (s : State) : Nat := match s.cxe.prog with | some p => p.ver | none => 0

/-- A channel record joins its tenant's report of the line time `x`, or begins it. Only a module in control produces
reports (R339). -/
def State.reportChan (s : State) (d : MeterDecl) (x : Nat) (r : ChanRec) : State :=
  if !d.rep || !s.inControl then s
  else if s.mtr.queue.any fun q => q.tenant == d.tenant && q.stop == x then
    s.onMtr fun m => { m with queue := m.queue.map fun q =>
      if q.tenant = d.tenant ∧ q.stop = x then { q with chans := q.chans ++ [r] } else q }
  else if 256 ≤ s.mtr.queue.length then s.loseReport d.tenant
  else
    let q := s.reportSeq d.tenant
    let s := (s.setReportSeq d.tenant (q + 1)).onMtr fun m => { m with
      queue := m.queue ++ [⟨d.tenant, q, s.imageId, x, s.utc, d.rslot, [r]⟩] }
    s.wr MTR_REPQ_PEND s.mtr.queue.length

/-- The 144 bytes of a channel record (Table 7-9). -/
def ChanRec.encode (r : ChanRec) : List Byte :=
  leBytes 1 r.ch ++ leBytes 1 r.flags ++ leBytes 2 0 ++ leBytes 4 r.noload ++ leBytes 4 r.metered ++
  r.ints.flatMap (leBytes 4) ++ r.cums.flatMap (leBytes 6) ++ r.wraps.flatMap (leBytes 1) ++ leBytes 6 0 ++
  leBytes 8 r.start ++ leBytes 8 r.stop

/-- The bytes of a report before its signature (Table 7-8). -/
def Report.encode (r : Report) (serial hflags sigerr : Nat) : List Byte :=
  let start := r.chans.foldl (fun m c => min m c.start) r.stop
  leBytes 4 0x52544D4D ++ leBytes 2 1 ++ leBytes 1 r.tenant ++ leBytes 1 r.chans.length ++ leBytes 4 r.seq ++
  leBytes 4 r.imageId ++ leBytes 8 serial ++ leBytes 8 start ++ leBytes 8 r.stop ++ leBytes 8 r.utc ++ leBytes 1 r.slot ++
  leBytes 1 hflags ++ leBytes 2 sigerr ++ leBytes 12 0 ++ r.chans.flatMap ChanRec.encode

/-- The tenants that have a channel with REP = 1, each once. -/
def State.reportTenants (s : State) : List Nat :=
  (s.mtr.chans.filterMap fun x => x.2.decl.bind fun d => if d.rep then some d.tenant else none).eraseDups

/-- The report area and a tenant's share of it (R230). -/
def reportArea : Nat := 0x4000000
def State.reportShare (s : State) : Nat := reportArea / max 1 s.reportTenants.length

/-- Bytes that some stored reports take. -/
def bytesOf (l : List StoredReport) : Nat := (l.map fun r => r.bytes.length).sum

/-- The report that is overwritten first for a new report of `ten`; reports of other tenants outside the set only where
the whole area is full. -/
def State.victim (s : State) (ten : Nat) (whole : Bool) : Option StoredReport :=
  let outside := fun (r : StoredReport) => whole && !(s.reportTenants.contains r.tenant) && r.tenant != ten
  let own := fun (r : StoredReport) => r.tenant == ten
  let st := s.mtr.store
  match st.find? (fun r => outside r && r.acked), st.find? (fun r => own r && r.acked),
      st.find? (fun r => outside r && !r.acked), st.find? (fun r => own r && !r.acked) with
  | some r, _, _, _ => some r
  | none, some r, _, _ => some r
  | none, none, some r, _ => some r
  | none, none, none, r => r

/-- Space made for `n` bytes of a tenant's report. -/
def State.makeRoom (s : State) (ten n : Nat) : Nat → State
  | 0 => s
  | k + 1 =>
    let whole := decide (reportArea < bytesOf s.mtr.store + n)
    let share := decide (s.reportShare < bytesOf (s.mtr.store.filter fun r => r.tenant == ten) + n)
    if !whole && !share then s
    else match s.victim ten whole with
      | none => s
      | some v =>
        let s := s.onMtr fun m => { m with store := m.store.erase v }
        (if v.acked then s else s.loseReport v.tenant).makeRoom ten n k

/-- The oldest waiting report signed and stored (R227, R229): `err` is Hearth's code where it refused before signing. -/
def State.storeReport (s : State) (err : Nat) (orphanAfter : Bool) (sig : List Byte) (serial : Nat) : State :=
  match s.mtr.queue with
  | [] => s
  | r :: t =>
    let s := s.onMtr fun m => { m with queue := t }
    let s := s.wr MTR_REPQ_PEND t.length
    let body := r.encode serial (bit (err != 0) + 2 * bit (orphanAfter && err == 0)) err
    let bytes := body ++ (if err = 0 then padTo 64 (sig.take 64) else List.replicate 64 0)
    let s := s.makeRoom r.tenant bytes.length s.mtr.store.length
    let s := s.onMtr fun m => { m with store := m.store ++ [⟨r.tenant, r.seq, bytes, false⟩] }
    if err = 0 then s else (s.raise MTR_EVT_SIGN_FAIL).log srcMTR 0x0746 r.tenant [.n2 err]

/-! ## Intervals (R213 to R215) -/

/-- A channel's interval closed at line time `x`: interval registers, counts, flags, points and report. -/
def State.closeInterval (s : State) (n x : Nat) : State :=
  match s.mch n with
  | none => s
  | some c =>
    let flags := s.rd (MTR_CH_STAT_FLAGS n)
    let gain := fun (a : MeterAcc) => (a.cum + 2 ^ 48 - a.start) % 2 ^ 48
    let ints := c.acc.map fun a => min 0xFFFFFFFF (gain a)
    let s := (List.range 10).foldl (fun s k => s.wr (MTR_CH_INT_INT n k) (ints.getD k 0)) s
    let s := if c.acc.any fun a => decide (0xFFFFFFFF < gain a) then
        (s.raise MTR_EVT_INT_SAT).log srcMTR 0x0745 c.tenant [.n1 n]
      else s
    let s := ((s.wr (MTR_CH_NOLOAD_CNT n) c.noload).wr (MTR_CH_METERED_CNT n) c.metered).wr (MTR_CH_LATCH_LO_X_LO n) x
    let q : Byte := if flags.testBit fFAULT then 0x86 else 0
    let vals := ints ++ [c.noload, c.metered]
    let s := (vals.foldl (fun (y : State × Nat) v => (y.1.intervalPoint y.2 (BitVec.ofNat 32 v) q, y.2 + 1)) (s, 64 * n)).1
    let s := match c.decl with
      | some d => s.reportChan d x
          ⟨n, flags, c.noload, c.metered, ints, c.acc.map MeterAcc.cum, c.acc.map MeterAcc.wrap, c.start, x⟩
      | none => s
    let s := s.setMch n fun c => { c with
      acc := c.acc.map fun (a : MeterAcc) => { a with start := a.cum }, noload := 0, metered := 0, start := x, latch := x, pend := none }
    s.wr (MTR_CH_STAT_FLAGS n) 0

/-- A latch that waited for its last cycle is completed. -/
def State.latchPending (s : State) (n : Nat) : State :=
  match (s.mch n).bind fun c => c.pend with
  | some x => if x / 65536 ≤ s.mtr.open_ then s.closeInterval n x else s
  | none => s

/-- A kind 1 event at X: the interval is closed once the cycle that ends at X is closed (R213).
Log entry 9 (DESIGN CHOICE, DEDUCED). -/
def State.latchAt (s : State) (n x : Nat) : State :=
  if (s.mdecl n).isNone then s
  else if !s.on MTR_STAT_RUN then s.closeInterval n x
  else (s.setMch n fun c => { c with pend := some x }).latchPending n

/-! ## The end of a cycle -/

/-- A voltage channel's cycle. -/
def State.closeVolt (cyc : Nat) (partial_ : Bool) (s : State) (m : VoltageCycle) : State :=
  let k := m.vs.val
  match (s.mtr.volts.find? fun x => x.1 == k).map fun x => x.2 with
  | none => s
  | some v =>
    let fs := (m.freq :: v.freqs).take 16
    let w := v.window ++ [m]
    let s := ((s.wr (MTR_VS_STAT_CLIP k) (bit m.clip)).wr (MTR_VS_STAT_FAULT k) (bit m.fault)).wr (MTR_VS_STAT_CYC k) cyc
    let s := (s.wr (MTR_VS_RMS_VRMS k) (fSqrtRatio m.total2 (2 ^ 40)).toNat).wr (MTR_VS_FREQ_F k) (freqMean fs).toNat
    let fin := !partial_ && (cyc + 1) % 2 ^ v.decl.avg == 0
    let s := if fin then s.writeVolt k w else s
    s.onMtr fun x => { x with volts := x.volts.map fun y =>
      if y.1 = k then (k, { v with freqs := fs, window := if fin then [] else w }) else y }

/-- A current channel's cycle: accumulation, counts, marks and the window (R207 to R210, R217). -/
def State.closeChan (cyc samples : Nat) (partial_ : Bool) (vs : List VoltageCycle) (s : State) (m : CurrentCycle) : State :=
  let n := m.ch.val
  match s.mch n with
  | none => s
  | some c =>
    match c.decl with
    | none => s
    | some d =>
      let a := s.judgeMeter c d cyc samples m (vs.find? fun v => v.vs.val == d.vch)
      let fault := a.marks.testBit fFAULT
      let s := if a.marks.testBit fCLIP then s.raise MTR_EVT_CLIP else s
      let s := if fault then
          let s := s.raise MTR_EVT_FAULT
          if c.faultRun then s else s.log srcMTR 0x0742 d.tenant [.n1 n]
        else s
      let s := (s.applyAdd n a).setMch n fun c => { c with
        faultRun := fault, done := if partial_ then s.ltu.now else (cyc + 1) * 65536
        window := c.window ++ [(samples, m)], marks := c.marks ||| a.marks, recent := (a :: c.recent).take 4 }
      let s := s.wr (MTR_CH_STAT_CYC n) cyc
      let s := match s.mch n with
        | some c =>
          let s := s.showAcc n c.acc
          if !partial_ && (cyc + 1) % 2 ^ d.avg == 0 then
            (s.writeWindow n d c).setMch n fun c => { c with window := [], marks := 0 }
          else s
        | none => s
      s

/-- A channel's meter record as the link carries it after cycle `cyc` (Table 11-6). -/
def State.meterMirror (s : State) (cyc n : Nat) (c : MeterCh) : MeterMirror where
  ch := Fin.ofNat 48 n
  closed := BitVec.ofNat 56 (cyc * 65536)
  cum := c.acc.map MeterAcc.cum
  frac := c.acc.map MeterAcc.frac
  wrap := c.acc.map MeterAcc.wrap
  start := c.acc.map MeterAcc.start
  noload := BitVec.ofNat 32 c.noload
  metered := BitVec.ofNat 32 c.metered
  flags := BitVec.ofNat 8 (s.rd (MTR_CH_STAT_FLAGS n))
  istart := BitVec.ofNat 56 c.start
  seq := BitVec.ofNat 32 (s.reportSeq c.tenant)

/-- Every declared channel's meter record mirrored after cycle `cyc` (R338). -/
def State.mirrorMeters (s : State) (cyc : Nat) : State :=
  (s.mtr.chans.filter fun x => x.2.decl.isSome).foldl (fun s x => s.mirror (.meter (s.meterMirror cyc x.1 x.2))) s

/-- A meter record applied in the standby (R339): the channel takes the record, and the module's own contributions for the
cycles after the record's, `shift` local cycles from the twin's, are added again. -/
def State.applyMeterMirror (s : State) (m : MeterMirror) (shift : Int) : State :=
  let n := m.ch.val
  match s.mch n with
  | none => s
  | some c =>
    let closed := ((m.closed.toNat / 65536 : Nat) : Int) - shift
    let acc := (List.range 10).map fun k => (⟨m.cum.getD k 0, m.frac.getD k 0, m.wrap.getD k 0, m.start.getD k 0⟩ : MeterAcc)
    let s := s.setMch n fun c => { c with
      acc := acc, noload := m.noload.toNat, metered := m.metered.toNat
      start := (((m.istart.toNat : Nat) : Int) - shift * 65536).toNat }
    let s := (s.wr (MTR_CH_STAT_FLAGS n) m.flags.toNat).setReportSeq c.tenant m.seq.toNat
    let later := (c.recent.filter fun a => decide (closed < (a.cycle : Int))).reverse
    let s := later.foldl (fun s a => s.applyAdd n a) s
    match s.mch n with
    | some c => s.showAcc n c.acc
    | none => s

/-- A line cycle closed (R200, R203, R224): a whole cycle, or where metering stops the part of the present one.
Log entry 9 (DESIGN CHOICE, DEDUCED). -/
def State.closeCycle (s : State) (samples : Nat) (cs : List CurrentCycle) (vs : List VoltageCycle) : State :=
  if !s.on MTR_STAT_RUN then s
  else
    let part := s.mtr.stopping && s.cyc == s.mtr.open_
    if !part && s.cyc ≤ s.mtr.open_ then s
    else
      let cyc := s.mtr.open_
      let s := vs.foldl (State.closeVolt cyc part) s
      let s := cs.foldl (State.closeChan cyc samples part vs) s
      let s := (s.onMtr fun m => { m with open_ := cyc + 1, stopping := m.stopping && !part }).wr MTR_STAT_CYC cyc
      let s := ((s.mtr.chans.map fun x => x.1).foldl State.latchPending s).mirrorMeters cyc
      if part then s.lower MTR_STAT_RUN else s

/-! ## Cycle boundaries (R206, R215, R224) -/

/-- MTR meters: the scheduler runs, power is good and the module is not in S3. -/
def State.meters (s : State) : Bool :=
  s.on LTU_SCHED_EN && s.powered && !s.on PWR_STAT_PF && s.rd PWR_STAT_SLEEP != 3 && !s.mtr.stopping && s.micro 2

/-- Metering starts at this boundary: restored intervals are closed where accumulation had stopped, and new ones open. -/
def State.meterStart (s : State) : State :=
  let s := (s.raise MTR_STAT_RUN).onMtr fun m => { m with open_ := s.cyc }
  (s.mtr.chans.filter fun x => x.2.decl.isSome).foldl (fun s x =>
    let n := x.1
    let s := if x.2.restored then s.closeInterval n x.2.done else s
    s.setMch n fun c => { c with
      restored := false, readTemp := true, start := if c.restored || c.done = 0 then s.ltu.now else c.start }) s

/-- MTR at a cycle boundary: metering starts, corrections apply, temperatures are read. -/
def State.meterBoundary (s : State) : State :=
  if !s.meters then s
  else
    let s := if s.on MTR_STAT_RUN then s else s.meterStart
    let ns := s.mtr.chans.map fun x => x.1
    let s := ns.foldl State.applyComp s
    ns.foldl (fun s n => match s.mch n with
      | some c => if c.decl.isSome && (c.readTemp || s.cyc % 64 == 0) then s.readTemp n else s
      | none => s) s

/-! ## Presets (R216) -/

/-- The result shown in MTR_CRES and answered. -/
def State.meterResult (s : State) (code reason : Nat) : State :=
  ((s.raise MTR_CRES_DONE).wr MTR_CRES_CODE code).reply code reason []

/-- A preset judged and made pending. -/
def State.presetRequest (s : State) (ten ch k valX value : Nat) : State :=
  let s := s.lower MTR_CRES_DONE
  match s.supGate with
  | some r => s.meterResult cBUSY r
  | none =>
    if ten ≠ 0 then s.meterResult 0x0701 0
    else if (s.mdecl ch).isNone then s.meterResult 0x0702 0
    else if 10 ≤ k ∨ valX ≠ 0 ∨ 2 ^ 48 ≤ value then s.meterResult 0x0703 0
    else s.onMtr fun m => { m with presets := m.presets ++ [⟨ch, k, value, s.cyc⟩] }

/-- The checkpoint of R225 written to the copy that alternates. -/
def State.meterCheckpoint (s : State) : State :=
  if s.hlt.supRestart then s
  else
    let q := fun (c : Option MeterCkpt) => (c.map fun x => x.seq).getD 0
    let k : MeterCkpt := {
      seq := max (q s.mtr.ckpt0) (q s.mtr.ckpt1) + 1
      time := s.mtr.open_ * 65536
      chans := s.mtr.chans.map fun x => (x.1, ⟨x.2.tenant, x.2.acc, x.2.noload, x.2.metered, s.rd (MTR_CH_STAT_FLAGS x.1), x.2.start, x.2.done⟩)
      seqs := s.mtr.seqs }
    s.onMtr fun m => if q m.ckpt0 ≤ q m.ckpt1 then { m with ckpt0 := some k } else { m with ckpt1 := some k }

/-- One preset applied; the interval's start moves with it, so that its gain counts measured energy alone.
Log entry 9 (DESIGN CHOICE, DEDUCED). -/
def State.applyPreset (s : State) (j : PresetJob) : State :=
  match s.mch j.ch with
  | none => s.meterResult 0x0702 0
  | some c =>
    let a := c.acc.getD j.k ⟨0, 0, 0, 0⟩
    let b : MeterAcc := ⟨j.value, 0, 0, (a.start + j.value + 2 ^ 48 - a.cum) % 2 ^ 48⟩
    let s := s.setMch j.ch fun c => { c with acc := c.acc.set j.k b }
    let s := (s.showAcc j.ch (c.acc.set j.k b)).markInterval j.ch fPRESET
    let s := (s.raise MTR_EVT_PRESET).log srcMTR 0x0744 c.tenant [.n1 j.ch, .n1 j.k, .n6 a.cum, .n6 j.value]
    s.meterCheckpoint.meterResult 0x0700 0

/-- Presets whose cycle has ended and been accumulated are applied. -/
def State.applyPresets (s : State) : State :=
  let due := s.mtr.presets.filter fun j => decide (j.cycle < s.mtr.open_) || !s.on MTR_STAT_RUN
  due.foldl State.applyPreset (s.onMtr fun m => { m with presets := m.presets.filter fun j => !due.contains j })

/-! ## Checkpoint and memory errors (R225, R226) -/

/-- The complete copy with the higher sequence number. -/
def MtrPart.latest (m : MtrPart) : Option MeterCkpt :=
  match m.ckpt0, m.ckpt1 with
  | some a, some b => if a.seq < b.seq then some b else some a
  | some a, none => some a
  | none, b => b

/-- A channel's accumulators reloaded after an uncorrectable error (R226). -/
def State.reloadChan (s : State) (n : Nat) : State :=
  let saved := s.mtr.latest.bind fun k => (k.chans.find? fun x => x.1 == n).map fun x => x.2
  match s.mch n with
  | none => s
  | some c =>
    let s := match saved with
      | some v => s.setMch n fun c => { c with acc := v.acc, noload := v.noload, metered := v.metered, start := v.start }
      | none => s.setMch n fun c => { c with acc := List.replicate 10 ⟨0, 0, 0, 0⟩, noload := 0, metered := 0 }
    let s := match s.mch n with
      | some c => s.showAcc n c.acc
      | none => s
    let s := match saved with
      | some v => s.wr (MTR_CH_STAT_FLAGS n) v.flags
      | none => s
    (((s.markInterval n fECC).raise MTR_EVT_ECC).log srcMTR 0x0748 c.tenant [.n1 n]).uncorrectable

end Sys2Proof.Machine
end

