-- ==== Sys2Proof/Machine/NetOps.lean ====
section
/-! DEFINITION. The network part's Ethernet side: addresses, reception and its rules, the ring switch and its transmit
queues, and UPT frames with their counter and CMAC (R287 to R312). -/

namespace Sys2Proof.Machine

/-- NET's typed part changed. -/
def State.onNet (s : State) (f : NetPart → NetPart) : State := { s with net := f s.net }

/-- Big-endian bytes, as Ethernet and IPv4 order them. -/
def beBytes (n v : Nat) : List Byte := (leBytes n v).reverse

/-- A big-endian number of `n` bytes at an offset. -/
def beAt (bs : List Byte) (off n : Nat) : Nat := beNat (slice bs off n)

/-! ## Addresses (R292) -/

def State.ownMac (s : State) : Nat := s.rd NET_MAC_HI_MAC % 65536 * 2 ^ 32 + s.rd NET_MAC_LO_MAC
def derivedMac (addr : Nat) : Nat := 0x0A5A7E000000 + addr
def pairMac (addr : Nat) : Nat := 0x0A5A7E100000 + addr
def broadcastMac : Nat := 0xFFFFFFFFFFFF
def siteMac : Nat := 0x0B5A7E000001
def ringMac : Nat := 0x0B5A7E000002
def ptpMac : Nat := 0x011B19000000
def ptpPeerMac : Nat := 0x0180C200000E

/-- The module belongs to a pair and answers the pair address. -/
def State.pairMember (s : State) : Bool := s.rd PLK_STAT_ROLE != 0 && s.on NET_ADDR_PEN

/-- The module accepts frames for a destination (R292). -/
def State.acceptsMac (s : State) (d : Nat) : Bool :=
  d == s.ownMac || d == derivedMac (s.rd NET_ADDR_MADDR) || (s.pairMember && d == pairMac (s.rd NET_ADDR_PADDR)) ||
  d == broadcastMac || d == siteMac || d == ringMac || d == ptpMac || d == ptpPeerMac

/-- A group address: the first octet's lowest bit. -/
def isGroup (d : Nat) : Bool := (d / 2 ^ 40) % 2 == 1

/-- The ring switch works as a member or manager (R291): MODE 3 acts as 0. -/
def State.ringMode (s : State) : Nat :=
  let m := s.rd NET_RING_CFG_MODE
  if s.on NET_CFG_EN ∧ (m = 1 ∨ m = 2) then m else 0

/-- ETH1 is blocked: the manager's ring is closed (R295). -/
def State.blocked (s : State) (port : Nat) : Bool := s.ringMode == 2 && s.on NET_RING_STAT_BLOCKED && port == 1

/-- What stands before the payload of an Ethernet frame: addresses, one C-tag (R287), EtherType and payload offset. -/
structure EthHead where
  dst : Nat
  src : Nat
  tag : Option Nat
  etype : Nat
  off : Nat
deriving DecidableEq, Repr

def ethHead (bs : List Byte) : EthHead :=
  let t := beAt bs 12 2
  if t = 0x8100 then ⟨beAt bs 0 6, beAt bs 6 6, some (beAt bs 14 2), beAt bs 16 2, 18⟩
  else ⟨beAt bs 0 6, beAt bs 6 6, none, t, 14⟩

/-- The tag's priority and VLAN. -/
def EthHead.pcp (h : EthHead) : Nat := match h.tag with | some t => t / 2 ^ 13 % 8 | none => 0
def EthHead.vid (h : EthHead) : Nat := match h.tag with | some t => t % 4096 | none => 0

/-! ## Transmit queues (R293, R296 to R298) -/

/-- Frames of a port's local queue, and bytes in its transit buffer. -/
def State.queued (s : State) (port q : Nat) : Nat :=
  (s.net.tx.filter fun f => f.port == port && f.queue == q && !f.transit).length
def State.transitBytes (s : State) (port : Nat) : Nat :=
  ((s.net.tx.filter fun f => f.port == port && f.transit).map fun f => f.bytes.length).sum

/-- A frame enters a port's queue, or is dropped and counted where it is full; false where it is dropped. -/
def State.txEnqueue (s : State) (port q : Nat) (transit : Bool) (bs : List Byte) (desc : Option Nat) (stamp : Bool) : State × Bool :=
  if transit && decide (131072 < s.transitBytes port + bs.length) then (s.bump (NET_P_TXERR_TRANSIT port), false)
  else if !transit && decide (256 ≤ s.queued port q) then (s.bump (NET_P_TXQ_DROPS port q), false)
  else
    ((s.lower (NET_P_STAT_LPI port)).onNet fun n => { n with
      tx := n.tx ++ [⟨port, q, transit, bs, s.ltu.now, s.ms, desc, stamp⟩] }, true)

/-- A frame padded to the least length before its FCS (Table 10-2). -/
def padFrame (bs : List Byte) : List Byte := padTo 60 bs

/-- The ports that the module's own frame to a destination takes (R294). -/
def State.portsFor (s : State) (dst : Nat) : List Nat :=
  if s.ringMode == 2 && s.on NET_RING_STAT_BLOCKED then [0]
  else if isGroup dst then [0, 1]
  else match s.net.learned.find? fun l => l.mac == dst with
    | some l => [l.port]
    | none => [0, 1]

/-- A frame of the module's own queued on each of its ports. -/
def State.sendOn (s : State) (ports : List Nat) (q : Nat) (bs : List Byte) : State :=
  ports.foldl (fun s p => (s.txEnqueue p q false (padFrame bs) none false).1) s

/-- The frame that a port transmits next: the highest class, transit before local (R296). -/
def bestFrame : List TxFrame → Option TxFrame
  | [] => none
  | f :: t =>
    match bestFrame t with
    | none => some f
    | some b => if f.queue < b.queue ∨ (f.queue = b.queue ∧ !f.transit ∧ b.transit) then some b else some f
def State.nextFrame (s : State) (port : Nat) : Option TxFrame := bestFrame (s.net.tx.filter fun f => f.port == port)

/-- A descriptor's STATUS written back (Table 10-4), and its timestamp: nanoseconds and seconds of PTP time. -/
def State.descStatus (s : State) (addr v : Nat) : State := s.setByte (addr + 15) (BitVec.ofNat 8 v)
def State.descStamp (s : State) (addr sec ns : Nat) : State :=
  s.setBytes (addr + 16) (leBytes 4 (ns / 8 * 8) ++ leBytes 4 sec)

/-- A port's next frame is transmitted (R298): its wait in la of local line time, the counts, the write-back. -/
def State.frameOut (s : State) (port sec ns : Nat) : State :=
  match s.nextFrame port with
  | none => s
  | some f =>
    let wait := s.ltu.now - f.entered
    let s := s.onNet fun n => { n with
      tx := n.tx.erase f, sent := (port, f.bytes) :: n.sent.filter fun x => x.1 ≠ port }
    let s := s.tickField (NET_P_TXCNT_CNT port)
    let s := if f.transit then s else
      let s := s.maxField (NET_P_TXQ_WAITMAX port f.queue) wait
      if 65536 < wait then s.bump (NET_P_TXQ_STARVED port f.queue) else s
    match f.desc with
    | none => s
    | some a => if f.stamp then (s.descStatus a 0).descStamp a sec ns else s.descStatus a 0

/-! ## Internet checksums and headers -/

/-- The one's complement sum of the 16-bit words of some bytes, and the checksum of it. -/
def onesSum : List Byte → Nat
  | [] => 0
  | [a] => a.toNat * 256
  | a :: b :: t => a.toNat * 256 + b.toNat + onesSum t
def foldSum (n : Nat) : Nat :=
  let a := n % 65536 + n / 65536
  let b := a % 65536 + a / 65536
  b % 65536 + b / 65536
def inetCheck (bs : List Byte) : Nat := 65535 - foldSum (onesSum bs)

/-- Bytes replaced at an offset. -/
def overlay (bs : List Byte) (off : Nat) (new : List Byte) : List Byte :=
  bs.take off ++ new ++ bs.drop (off + new.length)

/-- An Ethernet header from the module to a destination. -/
def State.etherTo (s : State) (dst : Nat) (tag : Option Nat) (q etype : Nat) : List Byte :=
  beBytes 6 dst ++ beBytes 6 s.ownMac ++
  (match tag with | some t => beBytes 2 0x8100 ++ beBytes 2 (q * 2 ^ 13 + t % 2 ^ 13) | none => []) ++ beBytes 2 etype

/-! ## What SUP answers (R302) -/

/-- An ARP request for the module's address. -/
def State.isArp (s : State) (bs : List Byte) (h : EthHead) : Bool :=
  h.etype == 0x0806 && s.rd NET_IPV4_ADDR != 0 && beAt bs h.off 8 == 0x0001080006040001 &&
  beAt bs (h.off + 24) 4 == s.rd NET_IPV4_ADDR

/-- An ICMP echo request to the module, with its header of 20 bytes. -/
def State.isEcho (s : State) (bs : List Byte) (h : EthHead) : Bool :=
  h.etype == 0x0800 && s.rd NET_IPV4_ADDR != 0 && beAt bs h.off 1 == 0x45 && beAt bs (h.off + 9) 1 == 1 &&
  beAt bs (h.off + 16) 4 == s.rd NET_IPV4_ADDR && beAt bs (h.off + 20) 1 == 8

/-- SUP's receive queue: ARP and echo requests are answered in Q0, everything else is discarded (R302, Table 10-3). -/
def State.supReceive (s : State) (port : Nat) (bs : List Byte) : State :=
  let h := ethHead bs
  let eth := fun etype => s.etherTo h.src h.tag 0 etype
  if s.hlt.supRestart then s
  else if s.isArp bs h then
    let sender := slice bs (h.off + 8) 10
    let out := eth 0x0806 ++ beBytes 8 0x0001080006040002 ++ beBytes 6 s.ownMac ++ beBytes 4 (s.rd NET_IPV4_ADDR) ++ sender
    s.sendOn [port] 0 out
  else if s.isEcho bs h then
    let total := beAt bs (h.off + 2) 2
    let ip := slice bs h.off 20
    let ip := overlay (overlay ip 12 (slice ip 16 4)) 16 (slice ip 12 4)
    let icmp := overlay (slice bs (h.off + 20) (total - 20)) 0 (beBytes 4 0)
    s.sendOn [port] 0 (eth 0x0800 ++ ip ++ overlay icmp 2 (beBytes 2 (inetCheck icmp)))
  else s

/-! ## Reception (R288, R292 to R294, R301) -/

/-- A rule matches a frame (R301). -/
def State.ruleMatches (s : State) (h : EthHead) (n : Nat) : Bool :=
  s.on (NET_RULE_A_EN n) &&
  (!s.on (NET_RULE_A_MVID n) || (h.tag.isSome && h.vid == s.rd (NET_RULE_A_VID n))) &&
  (!s.on (NET_RULE_A_MPCP n) || (h.tag.isSome && h.pcp == s.rd (NET_RULE_A_PCP n))) &&
  (!s.on (NET_RULE_A_MET n) || h.etype == s.rd (NET_RULE_B_ETYPE n))

/-- A frame given to a receive queue (R302). -/
def State.toQueue (s : State) (port q : Nat) (bs : List Byte) (ten : Option Nat) : State :=
  let c := s.rd (NET_RXQ_CFG_CONS q)
  if c = 1 then s.supReceive port bs
  else if c ≠ 0 then s
  else if 512 ≤ (s.net.rx.filter fun f => f.queue == q).length then s.bump (NET_RXQ_CFG_DROP q)
  else s.onNet fun n => { n with rx := n.rx ++ [⟨port, q, bs, ten⟩] }

/-- An accepted frame decided by the first matching rule, or by RXDEF (R301). -/
def State.steer (s : State) (port : Nat) (bs : List Byte) (h : EthHead) : State :=
  match (List.range 64).find? fun n => s.ruleMatches h n with
  | some n =>
    let s := s.bump (NET_RULE_B_HITS n)
    if s.on (NET_RULE_A_DROP n) then s
    else s.toQueue port (s.rd (NET_RULE_A_RXQ n)) bs (if s.on (NET_RULE_A_TENCHK n) then some (s.rd (NET_RULE_A_TEN n)) else none)
  | none => if s.rd NET_CFG_RXDEF < 8 then s.toQueue port (s.rd NET_CFG_RXDEF) bs none else s

/-- A source address learned (R294). -/
def State.learn (s : State) (mac port : Nat) : State :=
  s.onNet fun n =>
    let rest := n.learned.filter fun l => l.mac ≠ mac
    if 1024 ≤ rest.length then n else { n with learned := ⟨mac, port, s.ms⟩ :: rest }

/-- A ring control frame: UPT type RING to the ring multicast address (R295). -/
def State.isRingControl (s : State) (bs : List Byte) (h : EthHead) : Bool :=
  h.etype == s.rd NET_UPT_CFG_ETYPE && h.dst == ringMac && beAt bs (h.off + 1) 1 == 8

/-- A frame that the ring switch passes to the other port (R292, R293). -/
def State.forwards (s : State) (h : EthHead) : Bool :=
  !s.acceptsMac h.dst || h.dst == broadcastMac || h.dst == siteMac || (s.pairMember && h.dst == pairMac (s.rd NET_ADDR_PADDR))

/-- A PAUSE frame (Table 10-1). -/
def isPause (h : EthHead) : Bool := h.etype == 0x8808

/-- An accepted frame switched and delivered (R292, R301). -/
def State.switchFrame (s : State) (port : Nat) (bs : List Byte) : State :=
  let h := ethHead bs
  if h.etype = 0x88F7 then s
  else if s.isRingControl bs h then
    if s.ringMode = 0 then s else s.onNet fun n => { n with ring := n.ring ++ [⟨port, 7, bs, none⟩] }
  else if s.blocked port then s
  else if s.ringMode ≠ 0 ∧ (h.src = s.ownMac ∨ h.src = derivedMac (s.rd NET_ADDR_MADDR)) then s.bump NET_RING_STAT_LOOP
  else
    let s := s.learn h.src port
    let other := 1 - port
    let s := if s.ringMode ≠ 0 ∧ s.forwards h ∧ !s.blocked other then (s.txEnqueue other h.pcp true bs none false).1 else s
    if s.acceptsMac h.dst then s.steer port bs h else s

/-- A frame received on a port, `bs` without its FCS (R288). -/
def State.frameIn (s : State) (port : Nat) (bs : List Byte) (fcsOk : Bool) : State :=
  let len := bs.length + 4
  if !s.on (NET_P_STAT_LINK port) || !s.awake then s
  else
    let s := s.lower (NET_P_STAT_LPI port)
    if len < 64 then s.bump (NET_P_RXERR_RUNT port)
    else if s.rd NET_CFG_MAXF < len then s.bump (NET_P_RXERR_OVERSIZE port)
    else if !fcsOk then s.bump (NET_P_RXERR_FCS port)
    else if isPause (ethHead bs) then s.bump (NET_P_RXERR_PAUSE port)
    else (s.tickField (NET_P_RXCNT_CNT port)).switchFrame port bs

/-! ## UPT frames (R307 to R311) -/

/-- Types of Table 10-6. -/
def uREAD : Nat := 1
def uWRITE : Nat := 2
def uSUBSCRIBE : Nat := 3
def uNOTICE : Nat := 4
def uEVENT : Nat := 5
def uCOMMAND : Nat := 6
def uRING : Nat := 8

/-- A header of some bytes. -/
def UptHdr.parse (bs : List Byte) : UptHdr where
  type := leAt bs 1 1
  resp := leAt bs 2 1 % 2 == 1
  last := leAt bs 2 1 / 2 % 2 == 1
  ten := leAt bs 3 1 % 64
  dst := leAt bs 4 2
  src := leAt bs 6 2
  key := leAt bs 8 1
  tid := leAt bs 10 2
  seg := leAt bs 12 2
  len := leAt bs 14 2
  count := leAt bs 16 4
  epoch := leAt bs 20 4

/-- The bytes of a header. -/
def UptHdr.bytes (h : UptHdr) : List Byte :=
  leBytes 1 1 ++ leBytes 1 h.type ++ leBytes 1 (bit h.resp + 2 * bit h.last) ++ leBytes 1 h.ten ++ leBytes 2 h.dst ++
  leBytes 2 h.src ++ leBytes 1 h.key ++ leBytes 1 0 ++ leBytes 2 h.tid ++ leBytes 2 h.seg ++ leBytes 2 h.len ++
  leBytes 4 h.count ++ leBytes 4 h.epoch

/-- A type with a response. -/
def isRequestType (t : Nat) : Bool := t == uREAD || t == uWRITE || t == uSUBSCRIBE || t == uCOMMAND
def isOneWay (t : Nat) : Bool := t == uNOTICE || t == uEVENT || t == uRING

/-- The checks of R309 over a UPT payload. -/
def uptFormatOk (bs : List Byte) : Bool :=
  let h := UptHdr.parse bs
  decide (32 ≤ bs.length) && decide (32 + h.len ≤ bs.length) && leAt bs 0 1 == 1 && decide (leAt bs 2 1 < 4) &&
  decide (leAt bs 3 1 < 64) && leAt bs 9 1 == 0 && decide (h.key ≤ 127) &&
  (isRequestType h.type || (isOneWay h.type && !h.resp)) &&
  ((h.type == uCOMMAND && !h.resp) || (h.seg == 0 && h.last))

/-- The key bound to a key number (R310). -/
def State.netKey (s : State) (n : Nat) : Except Nat KeySlot :=
  if n < 128 ∧ s.on (NET_KEY_EN n) then s.boundKey (s.rd (NET_KEY_SLOT n)) uMAC [0, 1] else .error ksNO_SLOT
def State.netKeyOk (s : State) (n : Nat) : Bool := match s.netKey n with | .ok _ => true | .error _ => false
def State.netKeyTen (s : State) (n : Nat) : Option Nat := match s.netKey n with | .ok k => some k.tenant | .error _ => none

/-- The MAC of a frame: the leading 8 bytes of the CMAC of header and body. -/
def frameMac (k : KeySlot) (bs : List Byte) : List Byte := fit 8 (Config.cmac k.material bs)

/-- The next counter taken (R311): a count that wraps raises the epoch, which is stored first. -/
def State.takeCtr (s : State) : State :=
  if s.net.count + 1 < 2 ^ 32 then s.onNet fun n => { n with count := n.count + 1 }
  else
    let e := (s.net.epoch + 1) % 2 ^ 32
    { (s.onNet fun n => { n with epoch := e, count := 0 }) with cfg := { s.cfg with epoch := e } }

/-- The epoch raised (R311). -/
def State.raiseEpoch (s : State) : State :=
  let e := (s.cfg.epoch + 1) % 2 ^ 32
  { (s.onNet fun n => { n with epoch := e, count := 0 }) with cfg := { s.cfg with epoch := e } }

/-- The UPT payload of a frame of the module's own, under the key and the present counter. -/
def State.uptPayload (s : State) (k : KeySlot) (h : UptHdr) (body : List Byte) : List Byte :=
  let h := { h with len := body.length, epoch := s.net.epoch, count := s.net.count }
  let bs := h.bytes ++ body
  bs ++ frameMac k bs

/-- IPv4 and UDP headers before a UPT payload; identification and time to live are the sender's own (R306). -/
def State.udpTo (s : State) (ip port : Nat) (id ttl : Nat) (payload : List Byte) : List Byte :=
  let ulen := 8 + payload.length
  let head := beBytes 2 0x4500 ++ beBytes 2 (20 + ulen) ++ beBytes 2 id ++ beBytes 2 0 ++ beBytes 1 ttl ++ beBytes 1 17 ++
    beBytes 2 0 ++ beBytes 4 (s.rd NET_IPV4_ADDR) ++ beBytes 4 ip
  let udp := beBytes 2 (s.rd NET_UPT_CFG_UDP_PORT) ++ beBytes 2 port ++ beBytes 2 ulen ++ beBytes 2 0 ++ payload
  let pseudo := beBytes 4 (s.rd NET_IPV4_ADDR) ++ beBytes 4 ip ++ beBytes 2 17 ++ beBytes 2 ulen ++ udp
  overlay head 10 (beBytes 2 (inetCheck head)) ++ overlay udp 6 (beBytes 2 (inetCheck pseudo))

/-- The tag of a frame that the module originates for a tenant (R308). -/
def State.tenTag (s : State) (ten : Nat) : Option Nat := if s.on (NET_TEN_TAG ten) then some (s.rd (NET_TEN_VID ten)) else none

/-- A frame that the module originates, sent under a key number to a MAC address on some ports; nothing leaves without a
usable key. -/
def State.originateOn (s : State) (ports : List Nat) (q mac : Nat) (h : UptHdr) (body : List Byte) : State :=
  match s.netKey h.key with
  | .error _ => s
  | .ok k =>
    if !s.on NET_CFG_EN then s
    else
      let h := { h with ten := k.tenant }
      let bs := s.etherTo mac (s.tenTag k.tenant) q (s.rd NET_UPT_CFG_ETYPE) ++ s.uptPayload k h body
      (s.takeCtr).sendOn ports q bs

/-- A frame that the module originates, on the ports that lead to its destination (R294). -/
def State.originate (s : State) (q mac : Nat) (h : UptHdr) (body : List Byte) : State :=
  s.originateOn (s.portsFor mac) q mac h body

/-- Segments of a body of at most `mss` bytes. -/
def segments (mss : Nat) (body : List Byte) : Nat → List (List Byte)
  | 0 => [body]
  | n + 1 => if body.length ≤ mss then [body] else body.take mss :: segments mss (body.drop mss) n

/-- One frame of a response to a request (R306, R308): back along its path, the tag copied with the queue as priority. -/
def State.respondFrame (s : State) (q : Nat) (m : UptMsg) (seg : Nat) (last : Bool) (body : List Byte) : State :=
  match s.netKey m.hdr.key with
  | .error _ => s
  | .ok k =>
    let h := { m.hdr with resp := true, last := last, seg := seg, dst := m.hdr.src, src := m.hdr.dst }
    let pay := s.uptPayload k h body
    match m.path.udp with
    | none =>
      let bs := s.etherTo m.path.mac m.path.tag q (s.rd NET_UPT_CFG_ETYPE) ++ pay
      (s.takeCtr).sendOn [m.path.port] q bs
    | some (ip, port) =>
      let bs := s.etherTo m.path.mac m.path.tag q 0x0800 ++
        s.udpTo ip port (Config.freeValue s.free) (Config.freeValue (s.free + 1)) pay
      ((s.tookOpens 2).takeCtr).sendOn [m.path.port] q bs

/-- The bytes of a response frame before its body, with the CMAC, and the largest body that a frame carries (R300). -/
def State.maxBody (s : State) (p : UptPath) : Nat :=
  s.rd NET_CFG_MAXF - 4 - (14 + (if p.tag.isSome then 4 else 0) + (if p.udp.isSome then 28 else 0) + 24) - 8

/-- The queue of a response (Table 10-3). -/
def responseQueue (type : Nat) : Nat := if type = uCOMMAND then 3 else 5

/-- A response kept for 2 s, up to 256, the oldest evicted (R314). -/
def State.keepResponse (s : State) (m : UptMsg) (body : List Byte) : State :=
  if m.hdr.type = uREAD then s
  else
    let new : KeptResponse := ⟨m.hdr.src, m.hdr.key, m.hdr.type, m.hdr.tid, body, s.ms⟩
    let live := (s.net.kept.filter fun (k : KeptResponse) => decide (s.ms < k.ms + 2000)) ++ [new]
    s.onNet fun n => { n with kept := live.drop (live.length - 256) }

/-- A response sent: in one frame, or segmented in Q1 (R299, R300). -/
def State.sendResponse (s : State) (m : UptMsg) (body : List Byte) : State :=
  let mss := s.maxBody m.path
  if body.length ≤ mss then s.respondFrame (responseQueue m.hdr.type) m 0 true body
  else
    let segs := segments mss body body.length
    (segs.foldl (fun (x : State × Nat) b =>
      (x.1.respondFrame 1 m x.2 (x.2 + 1 == segs.length) b, x.2 + 1)) (s, 0)).1

/-- A request answered: its response is kept and sent; a standby sends none (R322). -/
def State.respond (s : State) (m : UptMsg) (body : List Byte) : State := (s.keepResponse m body).sendResponse m body

/-- BUSY with a reason (R298, R315), sent under no cache. -/
def State.respondBusy (s : State) (m : UptMsg) (reason : Nat) : State :=
  (s.bump NET_UPT_CNT_B_BUSY).sendResponse m (leBytes 2 cBUSY ++ leBytes 1 reason ++ leBytes 1 0)

/-! ## Replay (R312) -/

/-- What the replay check decides. -/
inductive Replay where
  | pass | full | replayed | unsynced | notReady
deriving DecidableEq, Repr

/-- The epochs stored in MRAM. -/
def State.storeEpochs (s : State) : State :=
  { s with cfg := { s.cfg with epochs := s.net.replay.map fun e => (e.src, e.key, e.epoch) } }

/-- An entry replaced, or added. -/
def State.setReplay (s : State) (e : ReplayEntry) : State :=
  s.onNet fun n => { n with replay := (n.replay.filter fun x => !(x.src == e.src && x.key == e.key)) ++ [e] }

/-- A frame's counter judged (R312). -/
def State.judgeReplay (s : State) (h : UptHdr) : State × Replay :=
  match s.net.replay.find? fun x => x.src == h.src && x.key == h.key with
  | none =>
    if 8192 ≤ s.net.replay.length then (s.bump NET_UPT_CNT_B_RPL_FULL, .full)
    else if s.hlt.supRestart then (s, .notReady)
    else ((s.setReplay ⟨h.src, h.key, h.epoch, h.count, 1, true⟩).storeEpochs, .pass)
  | some e =>
    if e.epoch < h.epoch then
      if s.hlt.supRestart then (s, .notReady)
      else ((s.setReplay ⟨h.src, h.key, h.epoch, h.count, 1, true⟩).storeEpochs, .pass)
    else if h.epoch < e.epoch then (s, .replayed)
    else if !e.synced then (s, .unsynced)
    else if e.high < h.count then
      let d := h.count - e.high
      (s.setReplay { e with high := h.count, bitmap := (if 64 ≤ d then 0 else e.bitmap * 2 ^ d % 2 ^ 64) + 1 }, .pass)
    else
      let d := e.high - h.count
      if d < 64 ∧ !e.bitmap.testBit d then (s.setReplay { e with bitmap := e.bitmap + 2 ^ d }, .pass)
      else (s, .replayed)

/-- A replay counted and recorded. -/
def State.noteReplay (s : State) : State :=
  ((s.bump NET_UPT_CNT_A_REPLAY).raise NET_EVT_REPLAY).log srcNET 0x0A46 0 []

/-- An authentication failure counted and recorded (R313). -/
def State.noteAuth (s : State) : State := ((s.bump NET_UPT_CNT_A_AUTH).raise NET_EVT_AUTH).log srcNET 0x0A45 0 []

/-- The MAC address of a UPT address: the derived address of a module, or of a pair. -/
def uptMac (pair : Bool) (addr : Nat) : Nat := if pair then pairMac addr else derivedMac addr

/-- A header of a one-way frame or a request of the module's own; its tenant and counter are filled when sent. -/
def ownHdr (type src dst key tid : Nat) : UptHdr := ⟨type, false, true, 0, dst, src, key, tid, 0, 0, 0, 0⟩

/-- REPLAY_SYNC sent to an address, at most once per second (R312, R318). -/
def State.sendReplaySync (s : State) (h : UptHdr) (mac : Nat) : State :=
  if s.net.syncs.any fun x => x.1 == h.src && decide (s.ms < x.2 + 1000) then s
  else
    (s.onNet fun n => { n with syncs := (h.src, s.ms) :: n.syncs.filter fun x => x.1 ≠ h.src }).originate 4 mac
      (ownHdr uEVENT h.dst h.src h.key 0) (leBytes 2 2 ++ leBytes 2 0)

/-- The checks of a frame's key, tenant and CMAC: the key under which it is good (steps 3 and 5 of R313). -/
def State.authentic (s : State) (h : UptHdr) (bs : List Byte) : Bool :=
  match s.netKey h.key with
  | .error _ => false
  | .ok k => k.tenant == h.ten && slice bs (24 + h.len) 8 == frameMac k (bs.take (24 + h.len))

/-- The refusal of a key counted in Hearth where the slot is an orphan (R362). -/
def State.countKeyRefusal (s : State) (n : Nat) : State :=
  match s.netKey n with
  | .error c => s.countRefusal c
  | .ok _ => s

/-! ## The ring (R295) -/

/-- A ring control frame sent from a port: 1 TEST, 2 OPEN, 3 CLOSE, 4 LINK_DOWN. -/
def State.sendRing (code : Nat) (s : State) (port : Nat) : State :=
  let seq := s.net.testSeq % 65536
  s.originateOn [port] 7 ringMac (ownHdr uRING (s.rd NET_ADDR_MADDR) 0xFFFF 0 0) (leBytes 1 code ++ leBytes 1 port ++ leBytes 2 seq)

/-- The ring's state shown: 1 closed, 2 open; the learned addresses are flushed (R294).
Log entry 13 (DESIGN CHOICE, DEDUCED, PRESUMED). -/
def State.ringState (s : State) (st : Nat) : State :=
  (((s.wr NET_STAT_RING st).wr NET_RING_STAT_STATE st).wr NET_RING_STAT_BLOCKED (bit (s.ringMode == 2 && st == 1))).onNet
    fun n => { n with learned := [] }

/-- The manager's millisecond: the last test frames judged, new ones sent from each port. -/
def State.ringTest (s : State) : State :=
  if s.ringMode ≠ 2 then s
  else
    let g0 := s.net.seen.contains 0
    let g1 := s.net.seen.contains 1
    let s := s.onNet fun n => { n with
      miss0 := if g0 then 0 else n.miss0 + 1, miss1 := if g1 then 0 else n.miss1 + 1
      okRun := if g0 && g1 then n.okRun + 1 else 0, seen := [], testSeq := n.testSeq + 1 }
    [0, 1].foldl (State.sendRing 1) s

/-- The ring is declared open (R295). -/
def State.ringOpen (s : State) : State :=
  if s.ringMode = 2 ∧ s.rd NET_RING_STAT_STATE ≠ 2 ∧ (3 ≤ s.net.miss0 ∨ 3 ≤ s.net.miss1 ∨ s.net.linkDown) then
    let s := ((s.ringState 2).bump NET_RING_STAT_OPENS).onNet fun n => { n with linkDown := false, okRun := 0 }
    (([0, 1].foldl (State.sendRing 2) s).raise NET_EVT_RING).log srcNET 0x0A43 0 []
  else s

/-- The ring is closed again (R295). -/
def State.ringClose (s : State) : State :=
  if s.ringMode = 2 ∧ s.rd NET_RING_STAT_STATE = 2 ∧ 64 ≤ s.net.okRun then
    ([0, 1].foldl (State.sendRing 3) (s.ringState 1)).log srcNET 0x0A44 0 []
  else s

/-- A good ring control frame acts: the manager notes tests and LINK_DOWN, a member follows OPEN and CLOSE. -/
def State.ringAct (s : State) (port code : Nat) (own : Bool) : State :=
  if s.ringMode = 2 then
    if code = 1 ∧ own then s.onNet fun n => { n with seen := port :: n.seen.filter fun p => p ≠ port }
    else if code = 4 then s.onNet fun n => { n with linkDown := true }
    else s
  else if code = 2 then (if s.rd NET_RING_STAT_STATE = 2 then s else s.bump NET_RING_STAT_OPENS).ringState 2
  else if code = 3 then s.ringState 1
  else s

/-- The oldest received ring control frame checked as a UPT frame under key number 0, and handled (R295, R309 to R312). -/
def State.ringFrame (s : State) : State :=
  match s.net.ring with
  | [] => s
  | f :: t =>
    let s := s.onNet fun n => { n with ring := t }
    let e := ethHead f.bytes
    let bs := f.bytes.drop e.off
    let h := UptHdr.parse bs
    if !uptFormatOk bs || h.len != 4 then s.bump NET_UPT_CNT_A_LENERR
    else if h.key ≠ 0 ∨ !s.authentic h bs then (s.countKeyRefusal h.key).noteAuth
    else match s.judgeReplay h with
      | (s, .pass) => s.ringAct f.port (leAt bs 24 1) (h.src == s.rd NET_ADDR_MADDR)
      | (s, .replayed) => s.noteReplay
      | (s, .unsynced) => s.sendReplaySync h e.src
      | (s, _) => s

/-! ## Ports (R287, R289, R290) -/

/-- A port's link comes up. -/
def State.linkUp (s : State) (port speed : Nat) : State :=
  let s := ((s.raise (NET_P_STAT_LINK port)).wr (NET_P_STAT_SPEED port) speed).lower (NET_P_STAT_NEG_FAIL port)
  (s.raise NET_EVT_LINK).log srcNET 0x0A41 0 [.n1 port]

/-- A port loses its link; a ring member reports it at once on its other port. -/
def State.linkLost (s : State) (port : Nat) : State :=
  let s := ((s.lower (NET_P_STAT_LINK port)).wr (NET_P_STAT_SPEED port) 0).lower (NET_P_STAT_LPI port)
  let s := (s.raise NET_EVT_LINK).log srcNET 0x0A42 0 [.n1 port]
  if s.ringMode = 1 then s.sendRing 4 (1 - port) else s

/-- No shift began within the last 60 s (R289). -/
def State.mayShift (s : State) (port : Nat) : Bool :=
  !(s.net.shifts.any fun x => x.1 == port && decide (s.ms < x.2 + 60000))

/-- A shift recorded. -/
def State.shifted (s : State) (port : Nat) (down : Bool) : State :=
  let s := s.onNet fun n => { n with shifts := (port, s.ms) :: n.shifts.filter fun x => x.1 ≠ port }
  ((s.wr (NET_P_STAT_DS port) (bit down)).raise NET_EVT_SHIFT).log srcNET 0x0A47 0 [.n1 port]

/-- A frame of Q6 or Q7 has waited longer than 1 ms at a port. -/
def State.urgentWaits (s : State) (port : Nat) : Bool :=
  s.net.tx.any fun f => f.port == port && decide (6 ≤ f.queue) && decide (f.ms + 1 < s.ms)

/-! ## Descriptors (R299, R300) -/

/-- A transmit descriptor (Table 10-4). -/
structure TxDesc where
  at_ : Nat
  addr : Nat
  len : Nat
  hlen : Nat
  mss : Nat
  flags : Nat
  queue : Nat
  ports : Nat
deriving DecidableEq, Repr

/-- A descriptor in memory. -/
def State.descAt (s : State) (a : Nat) : TxDesc :=
  let bs := s.bytes a 32
  ⟨a, leAt bs 0 4, leAt bs 4 3, leAt bs 8 2, leAt bs 10 2, leAt bs 12 1, leAt bs 13 1 % 8, leAt bs 14 1 % 4⟩

/-- Where the UPT header stands in a template: behind Ethernet, or behind IPv4 and UDP. -/
def uptOffset (tmpl : List Byte) : Nat :=
  let h := ethHead tmpl
  if h.etype = 0x0800 then h.off + 28 else h.off

/-- The template holds a UPT header. -/
def hasUpt (tmpl : List Byte) : Bool :=
  let o := uptOffset tmpl
  decide (o + 24 ≤ tmpl.length) && leAt tmpl o 1 == 1

/-- A descriptor error (R299). -/
def State.descBad (s : State) (d : TxDesc) : Bool :=
  let maxf := s.rd NET_CFG_MAXF
  d.len == 0 ||
  (if d.flags.testBit 0 then
    decide (65536 < d.len) || decide (d.hlen < 14) || decide (128 < d.hlen) || decide (d.mss < 256) ||
    decide (maxf - 4 < d.hlen + d.mss + 8) || (d.flags.testBit 3 && !hasUpt (s.bytes d.addr d.hlen))
  else decide (maxf - 4 < d.len))

/-- The ports of a descriptor. -/
def TxDesc.portList (d : TxDesc) : List Nat := [0, 1].filter fun p => d.ports.testBit p

/-- A segment's IPv4 and UDP headers fixed up as the descriptor asks; `k` its number (R300). -/
def fixIp (d : TxDesc) (k : Nat) (bs : List Byte) : List Byte :=
  let o := (ethHead bs).off
  let bs := if d.flags.testBit 2 then
      let ulen := bs.length - o - 20
      let bs := overlay (overlay bs (o + 24) (beBytes 2 ulen)) (o + 26) (beBytes 2 0)
      let pseudo := slice bs (o + 12) 8 ++ beBytes 2 17 ++ beBytes 2 ulen ++ bs.drop (o + 20)
      overlay bs (o + 26) (beBytes 2 (inetCheck pseudo))
    else bs
  if d.flags.testBit 1 then
    let bs := overlay bs (o + 2) (beBytes 2 (bs.length - o))
    let bs := overlay (overlay bs (o + 4) (beBytes 2 (beAt bs (o + 4) 2 + k))) (o + 10) (beBytes 2 0)
    overlay bs (o + 10) (beBytes 2 (inetCheck (slice bs o 20)))
  else bs

/-- A segment's frame: template, payload part, UPT fix-up with its CMAC, then the outer headers (R300). -/
def State.segFrame (s : State) (d : TxDesc) (tmpl part : List Byte) (k : Nat) (last : Bool) : List Byte :=
  let bs := tmpl ++ part
  if !d.flags.testBit 3 then fixIp d k bs
  else
    let o := uptOffset tmpl
    let h := UptHdr.parse (tmpl.drop o)
    let ctr := h.epoch * 2 ^ 32 + h.count + k
    let h := { h with seg := k, len := part.length, last := last, epoch := ctr / 2 ^ 32 % 2 ^ 32, count := ctr % 2 ^ 32 }
    let upt := h.bytes ++ part
    match s.netKey h.key with
    | .ok key => fixIp d k (tmpl.take o ++ upt ++ frameMac key upt)
    | .error _ => fixIp d k (tmpl.take o ++ upt ++ List.replicate 8 0)

/-- Frames queued on a descriptor's ports: `false` where a queue was full. -/
def State.queueFrame (s : State) (d : TxDesc) (ok : Bool) (bs : List Byte) (last : Bool) : State × Bool :=
  d.portList.foldl (fun x p =>
    let r := x.1.txEnqueue p d.queue false (padFrame bs) (if last then some d.at_ else none) (d.flags.testBit 4)
    (r.1, x.2 && r.2)) (s, ok)

/-- A descriptor submitted (R299). -/
def State.transmit (s : State) (a : Nat) : State :=
  let d := s.descAt a
  if s.descBad d then
    (d.portList.foldl (fun s p => s.bump (NET_P_TXERR_DESC_ERR p)) (s.descStatus a 1)).raise NET_EVT_DESC_ERR
  else if d.flags.testBit 0 then
    let tmpl := s.bytes d.addr d.hlen
    let segs := segments d.mss (s.bytes (d.addr + d.hlen) d.len) d.len
    let r := segs.foldl (fun (x : (State × Bool) × Nat) part =>
      let last := x.2 + 1 == segs.length
      (x.1.1.queueFrame d x.1.2 (x.1.1.segFrame d tmpl part x.2 last) last, x.2 + 1)) ((s, true), 0)
    if r.1.2 then r.1.1 else r.1.1.descStatus a 2
  else
    let r := s.queueFrame d true (s.bytes d.addr d.len) true
    if r.2 then r.1 else r.1.descStatus a 2

/-! ## IEEE 1588 (R303, R304) -/

/-- The port states of IEEE 1588 that matter here (PRESUMED). Log entry 13 (DESIGN CHOICE, DEDUCED, PRESUMED). -/
def ptpMASTER : Nat := 6
/-- Log entry 13 (DESIGN CHOICE, DEDUCED, PRESUMED). -/
def ptpUNCALIBRATED : Nat := 8
/-- Log entry 13 (DESIGN CHOICE, DEDUCED, PRESUMED). -/
def ptpSLAVE : Nat := 9

/-- The port's state, and whether PTP works on the port. -/
def State.ptpState (s : State) (port : Nat) : Nat := if port = 0 then s.rd NET_PTP_STAT_P0STATE else s.rd NET_PTP_STAT_P1STATE
def State.ptpPort (s : State) (port : Nat) : Bool := s.on NET_PTP_CFG_EN && s.micro 4 && (port == 0 || s.on NET_PTP_CFG_BC)

/-- A PTP message sent in Q7: its type and domain stand as IEEE 1588 lays them out, the rest is the engine's own. -/
def State.ptpSend (s : State) (port type len mac : Nat) : State :=
  let rest := openBytes s len
  let msg := overlay (overlay rest 0 (leBytes 1 (leAt rest 0 1 / 16 * 16 + type))) 4 (leBytes 1 (s.rd NET_PTP_CFG_DOMAIN))
  (s.tookOpens len).sendOn [port] 7 (s.etherTo mac none 7 0x88F7 ++ msg)

/-- The PTP engine's interval for a kind of message: 0 Sync, 1 Announce, 2 Pdelay_Req, 3 Delay_Req (Table 10-6a). A two-step
Sync is followed by its Follow_Up. -/
def State.ptpInterval (s : State) (port kind : Nat) : State :=
  let st := s.ptpState port
  if !s.ptpPort port then s
  else match kind with
    | 0 =>
      if st ≠ ptpMASTER then s
      else
        let s := s.ptpSend port 0 44 ptpMac
        if s.on NET_PTP_CFG_ONESTEP then s else s.ptpSend port 8 44 ptpMac
    | 1 => if st = ptpMASTER then s.ptpSend port 11 64 ptpMac else s
    | 2 => if s.on NET_PTP_CFG_P2P then s.ptpSend port 2 54 ptpPeerMac else s
    | _ => if !s.on NET_PTP_CFG_P2P ∧ (st = ptpSLAVE ∨ st = ptpUNCALIBRATED) then s.ptpSend port 1 44 ptpMac else s

/-- SYNC, the port states and the offset (R304). -/
def State.ptpSync (s : State) (sync : Bool) (p0 p1 ofs : Nat) : State :=
  let old := s.on NET_PTP_STAT_SYNC
  let s := ((s.wr NET_PTP_STAT_P0STATE p0).wr NET_PTP_STAT_P1STATE (if s.on NET_PTP_CFG_BC then p1 else 0)).wr NET_PTP_OFS_OFS ofs
  if old = sync ∨ !s.micro 4 then s
  else (((s.wr NET_PTP_STAT_SYNC (bit sync)).wr NET_STAT_PTP_SYNC (bit sync)).raise NET_EVT_PTP).log srcNET 0x0A48 0 []

end Sys2Proof.Machine
end

