-- ==== Sys2Proof/Machine/UptOps.lean ====
section
/-! DEFINITION. The Umnesel point transport: acceptance of frames, transactions, publications and subscriptions
(R302, R306, R313 to R322). -/

namespace Sys2Proof.Machine

/-! ## Acceptance (R302, R306, R313) -/

/-- What a frame of the UPT engine's queues holds: a UPT payload with the way back, an IPv4 frame for SUP, an IPv4 frame
with options or a fragment, or nothing of interest. -/
inductive UptIn where
  | upt (bs : List Byte) (path : UptPath)
  | forSup
  | malformed
  | other
deriving DecidableEq, Repr

/-- A frame classified (R302, R306). -/
def State.classify (s : State) (f : RxFrame) : UptIn :=
  let h := ethHead f.bytes
  let ip := s.rd NET_IPV4_ADDR
  if h.etype = s.rd NET_UPT_CFG_ETYPE then .upt (f.bytes.drop h.off) ⟨f.port, h.src, h.tag, none⟩
  else if h.etype ≠ 0x0800 then .other
  else
    let o := h.off
    let mine := ip != 0 && beAt f.bytes (o + 16) 4 == ip && beAt f.bytes (o + 9) 1 == 17
    if !mine then .forSup
    else if beAt f.bytes o 1 ≠ 0x45 ∨ beAt f.bytes (o + 6) 2 % 0x4000 ≠ 0 then .malformed
    else if beAt f.bytes (o + 22) 2 ≠ s.rd NET_UPT_CFG_UDP_PORT then .forSup
    else
      let n := beAt f.bytes (o + 24) 2 - 8
      .upt (slice f.bytes (o + 28) n) ⟨f.port, h.src, h.tag, some (beAt f.bytes (o + 12) 4, beAt f.bytes (o + 20) 2)⟩

/-- The frame that the UPT engine serves next: the oldest of its highest queue that holds one (R302). -/
def State.nextRx (s : State) : Option RxFrame :=
  (List.range 8).reverse.findSome? fun q =>
    if s.rd (NET_RXQ_CFG_CONS q) = 0 then s.net.rx.find? fun f => f.queue == q else none

/-- The destination is the module's, its pair's, or every module of an EVENT (step 2 of R313). -/
def State.uptMine (s : State) (h : UptHdr) : Bool :=
  h.dst == s.rd NET_ADDR_MADDR || (s.pairMember && h.dst == s.rd NET_ADDR_PADDR) || (h.dst == 0xFFFF && h.type == uEVENT)

/-- The module sends responses to a request: a standby sends none for the pair address (R322). -/
def State.answers (s : State) (h : UptHdr) : Bool :=
  s.inControl || !(s.pairMember && h.dst == s.rd NET_ADDR_PADDR && s.rd NET_ADDR_PADDR != s.rd NET_ADDR_MADDR)

/-- A request that the standby discards (R322). -/
def State.standbyDrops (s : State) (h : UptHdr) : Bool :=
  isRequestType h.type && !h.resp && h.type != uSUBSCRIBE && !s.answers h

/-- BUSY where the module answers. -/
def State.busyIf (s : State) (m : UptMsg) (reason : Nat) : State :=
  if s.answers m.hdr then s.respondBusy m reason else s

/-- The requests of a tenant accepted in the present second (R313). -/
def State.rateOf (s : State) (ten : Nat) : Nat :=
  match s.net.rates.find? fun x => x.1 == ten with
  | some (_, sec, n) => if sec = s.ms / 1000 then n else 0
  | none => 0
/-- Log entry 13 (DESIGN CHOICE, DEDUCED, PRESUMED). -/
def State.countRate (s : State) (ten : Nat) : State :=
  let n := s.rateOf ten + 1
  s.onNet fun x => { x with rates := (ten, s.ms / 1000, n) :: x.rates.filter fun r => r.1 ≠ ten }

/-- The kept response that a request matches (R314). -/
def State.keptFor (s : State) (h : UptHdr) : Option KeptResponse :=
  s.net.kept.find? fun k =>
    k.src == h.src && k.key == h.key && k.type == h.type && k.tid == h.tid && decide (s.ms < k.ms + 2000)

/-- Steps 8 to 11 of R313 for a request; one-way frames and responses go to the queue at once. -/
def State.acceptMsg (s : State) (m : UptMsg) : State :=
  let push := fun (s : State) => s.onNet fun n => { n with queue := n.queue ++ [m] }
  if !isRequestType m.hdr.type || m.hdr.resp then push s
  else if s.standbyDrops m.hdr then s
  else match s.keptFor m.hdr with
    | some k => if s.answers m.hdr ∧ m.hdr.seg = 0 then s.sendResponse m k.body else s
    | none =>
      let rate := s.rd (NET_TEN_RATE m.hdr.ten)
      if rate ≠ 0 ∧ rate ≤ s.rateOf m.hdr.ten then s.busyIf m 0x41
      else
        let s := s.countRate m.hdr.ten
        if 256 ≤ s.net.queue.length then s.busyIf m 0x40 else push s

/-- Step 7 of R313: a response matches an outstanding request. -/
def State.expected (s : State) (h : UptHdr) : Bool :=
  !h.resp || s.net.requests.any fun r => r.addr == h.src && r.key == h.key && r.tid == h.tid

/-- A UPT payload accepted or discarded in the order of R313. -/
def State.uptAccept (s : State) (ten : Option Nat) (bs : List Byte) (path : UptPath) : State :=
  let h := UptHdr.parse bs
  let m : UptMsg := ⟨h, slice bs 24 h.len, path⟩
  let oneWay := isOneWay h.type || h.resp
  if !uptFormatOk bs || h.type == uRING then s.bump NET_UPT_CNT_A_LENERR
  else if !s.uptMine h then s.bump NET_UPT_CNT_A_NOTMINE
  else if s.netKeyTen h.key ≠ some h.ten then (s.countKeyRefusal h.key).noteAuth
  else if ten.isSome ∧ ten ≠ some h.ten then s.bump NET_UPT_CNT_B_TENANT
  else if !s.authentic h bs then s.noteAuth
  else
    match s.judgeReplay h with
    | (s, .full) => s
    | (s, .replayed) => s.noteReplay
    | (s, .unsynced) => if oneWay then s.sendReplaySync h path.mac else s.busyIf m 0x42
    | (s, .notReady) => if oneWay then s else s.busyIf m 0x45
    | (s, .pass) => if s.expected h then s.acceptMsg m else s

/-- The UPT engine takes its next frame (R302, R313). -/
def State.uptReceive (s : State) : State :=
  if !s.on NET_CFG_EN || !s.awake || !s.micro 4 then s
  else match s.nextRx with
    | none => s
    | some f =>
      let s := s.onNet fun n => { n with rx := n.rx.erase f }
      match s.classify f with
      | .upt bs path => s.uptAccept f.tenchk bs path
      | .forSup => s.supReceive f.port f.bytes
      | .malformed => s.bump NET_UPT_CNT_A_LENERR
      | .other => s

/-- The oldest accepted transaction, where it is of this type, runs `f`; otherwise nothing happens. -/
def State.onMsg (s : State) (type : Nat) (resp : Bool) (f : State → UptMsg → State) : State :=
  match s.net.queue with
  | [] => s
  | m :: t => if m.hdr.type = type ∧ m.hdr.resp = resp then f (s.onNet fun n => { n with queue := t }) m else s

/-- A request answered where the module answers. -/
def State.answerTo (s : State) (m : UptMsg) (body : List Byte) : State := if s.answers m.hdr then s.respond m body else s

/-! ## READ and WRITE (R315, R316) -/

/-- The header of a response body. -/
def respHead (code reason count : Nat) : List Byte := leBytes 2 code ++ leBytes 1 reason ++ leBytes 1 count
def badBody : List Byte := respHead 0x0A01 0 0

/-- COUNT records of `n` bytes behind `head` bytes; none where COUNT or LEN is inconsistent. -/
def records (head n : Nat) (body : List Byte) : Option (List (List Byte)) :=
  let c := leAt body 0 1
  if 1 ≤ c ∧ c ≤ 64 ∧ body.length = head + n * c then some ((List.range c).map fun k => slice body (head + n * k) n) else none

/-- A selector served (R316). -/
def State.readOne (port ten : Nat) (x : State × List Byte) (r : List Byte) : State × List Byte :=
  let s := x.1
  let sel := leAt r 0 2
  let h := sel % 8192
  let e := sel / 8192
  match s.judge ten h askRead with
  | .served _ =>
    let p := s.point h
    (s, x.2 ++ respHead 0 0 (p.elem 1).toNat ++ leBytes 4 (p.elem e).toNat ++ leBytes 4 (p.elem 2).toNat)
  | .refused c hid => (s.refuse port ten c 0 h e hid, x.2 ++ respHead c 0 0 ++ leBytes 8 0)

/-- READ served. -/
def State.uptRead (s : State) (m : UptMsg) : State :=
  match records 2 2 m.body with
  | none => s.answerTo m badBody
  | some rs =>
    let r := rs.foldl (State.readOne 7 m.hdr.ten) (s, respHead 0x0A00 0 rs.length)
    r.1.answerTo m r.2

/-- A record written (R316); a TYPE that is no type differs from every point's. -/
def State.writeOne (port ten : Nat) (x : State × List Byte) (r : List Byte) : State × List Byte :=
  let s := x.1
  let h := leAt r 0 2
  let v := BitVec.ofNat 32 (leAt r 4 4)
  let t := PType.ofCode (leAt r 2 1)
  match s.judge ten h ⟨.write, true, t, false⟩ with
  | .served _ =>
    if t.isNone then (s.refuse port ten cTYPE_MISMATCH 0 h 0 false, x.2 ++ respHead cTYPE_MISMATCH 0 0)
    else ((s.setPoint h ((s.point h).put v 0 s.stamp)).mirrorPoints [h], x.2 ++ respHead 0 0 0)
  | .refused c hid => (s.refuse port ten c 0 h 0 hid, x.2 ++ respHead c 0 0)

/-- WRITE served, record by record. -/
def State.uptWrite (s : State) (m : UptMsg) : State :=
  match records 4 8 m.body with
  | none => s.answerTo m badBody
  | some rs =>
    let r := rs.foldl (State.writeOne 7 m.hdr.ten) (s, respHead 0x0A00 0 rs.length)
    r.1.answerTo m r.2

/-! ## Publications (R321) -/

/-- NET_STAT.PUBS. -/
def State.countPubs (s : State) : State := s.wr NET_STAT_PUBS s.net.pubs.length

/-- The type code of a point. -/
def State.typeCode (s : State) (h : Nat) : Nat := match (s.point h).defn with | some d => d.type.code | none => 0

/-- A publication's place. -/
def samePub (addr subno : Nat) (p : Publication) : Bool := p.addr == addr && p.subno == subno

/-- A SUBSCRIBE record served: cancelled, refused, or created and refreshed. -/
def State.subscribeOne (m : UptMsg) (x : State × List Byte) (r : List Byte) : State × List Byte :=
  let s := x.1
  let subno := leAt r 0 2
  let h := leAt r 2 2
  let mode := leAt r 4 1
  let rest := s.net.pubs.filter fun p => !samePub m.hdr.src subno p
  let done := fun (s : State) => (s, x.2 ++ respHead 0 0 (s.typeCode h))
  if mode = 0xFF then done (s.onNet fun n => { n with pubs := rest })
  else match s.judge m.hdr.ten h askRead with
    | .refused c hid => (s.refuse 7 m.hdr.ten c 0 h 0 hid, x.2 ++ respHead c 0 0)
    | .served _ =>
      if 2048 ≤ rest.length then ((s.bump NET_UPT_CNT_B_BUSY), x.2 ++ respHead cBUSY 0x43 0)
      else
        let p := s.point h
        let old := s.net.pubs.find? (samePub m.hdr.src subno)
        let new : Publication := {
          addr := m.hdr.src, src := m.hdr.dst, subno := subno, ten := m.hdr.ten, key := m.hdr.key
          mac := if m.hdr.src < 4096 then derivedMac m.hdr.src else m.path.mac
          handle := h, mode := if mode = 1 then 1 else 0, per := max 1 (leAt r 6 2), tmo := leAt r 8 2
          refreshed := s.cyc
          sent := match old with | some o => o.sent | none => if mode = 1 then s.cyc else s.cyc - 1
          value := match old with | some o => o.value | none => p.elem 0
          qual := match old with | some o => o.qual | none => p.equal }
        done (s.onNet fun n => { n with pubs := rest ++ [new] })

/-- SUBSCRIBE served by the publisher. -/
def State.uptSubscribe (s : State) (m : UptMsg) : State :=
  match records 4 12 m.body with
  | none => s.answerTo m badBody
  | some rs =>
    let r := rs.foldl (State.subscribeOne m) (s, respHead 0x0A00 0 rs.length)
    r.1.countPubs.answerTo m r.2

/-- A notice record, the publication after it (none where R76 no longer admits it), and the refusal counted. -/
def State.noticeRec (s : State) (p : Publication) : List Byte × Option Publication :=
  let pt := s.point p.handle
  let row := fun (code type : Nat) (q : Byte) (v ts : Word) =>
    leBytes 2 p.subno ++ leBytes 2 code ++ leBytes 1 type ++ [q] ++ leBytes 2 0 ++ leBytes 4 v.toNat ++ leBytes 4 ts.toNat
  match s.judge p.ten p.handle askRead with
  | .served d =>
    (row 0 d.type.code pt.equal pt.eval pt.ets, some { p with sent := s.cyc, value := pt.eval, qual := pt.equal })
  | .refused _ _ => (row cNO_POINT 0 0 0 0, none)

/-- The notices of one subscriber sent, up to 64 records a frame. -/
def State.noticeFrames (s : State) (p : Publication) : List (List Byte) → Nat → State
  | _, 0 => s
  | [], _ => s
  | rs, n + 1 =>
    let now := rs.take 64
    let body := leBytes 1 now.length ++ leBytes 3 0 ++ now.flatten
    (s.originate 6 p.mac (ownHdr uNOTICE p.src p.addr p.key 0) body).noticeFrames p (rs.drop 64) n

/-- Publications of one subscriber address, key and own address share frames. -/
def sameSubscriber (a b : Publication) : Bool := a.addr == b.addr && a.key == b.key && a.src == b.src

/-- The notices of some publications sent, subscriber by subscriber (R321). -/
def State.sendNotices (s : State) : List Publication → Nat → State
  | _, 0 => s
  | [], _ => s
  | p :: t, n + 1 =>
    let mine := p :: t.filter (sameSubscriber p)
    let rs := mine.map s.noticeRec
    let s := (s.noticeFrames p (rs.map fun r => r.1) rs.length).onNet fun x => { x with
      pubs := (x.pubs.filter fun y => !(mine.any fun z => samePub z.addr z.subno y)) ++ rs.filterMap fun r => r.2 }
    s.sendNotices (t.filter fun q => !sameSubscriber p q) n

/-- Notices of the publications that `sel` picks, by the module in control. -/
def State.notify (s : State) (sel : Publication → Bool) : State :=
  if !s.inControl || !s.awake || !s.micro 4 then s
  else
    let ps := s.net.pubs.filter sel
    (s.sendNotices ps ps.length).countPubs

/-- A periodic publication is due in the present cycle. -/
def State.periodicDue (s : State) (p : Publication) : Bool := p.mode == 0 && s.cyc % p.per == 0 && p.sent != s.cyc

/-- An on-change publication is due: a change at most every PER lc, a repetition after half of TMO. -/
def State.changeDue (s : State) (p : Publication) : Bool :=
  let pt := s.point p.handle
  let since := s.cyc - p.sent
  let changed := pt.eval != p.value || pt.equal != p.qual
  p.mode == 1 && ((changed && decide (p.per ≤ since)) || (decide (1 ≤ since) && decide (p.tmo / 2 ≤ since)))

/-! ## Subscriptions (R320) -/

/-- The fields of a subscription (Table 10-8). -/
def Subscr.fld (b : Subscr) (w lo n : Nat) : Nat := bitsOf (b.par.getD w 0) lo n
def Subscr.tenant (b : Subscr) : Nat := b.fld 0 24 6
def Subscr.mode (b : Subscr) : Nat := b.fld 0 16 8
def Subscr.raddr (b : Subscr) : Nat := b.fld 1 16 16
def Subscr.rpair (b : Subscr) : Bool := b.fld 1 15 1 == 1
def Subscr.rh (b : Subscr) : Nat := b.fld 1 0 13
def Subscr.per (b : Subscr) : Nat := b.fld 2 16 16
def Subscr.tmo (b : Subscr) : Nat := b.fld 2 0 16
def Subscr.ph (b : Subscr) : Nat := b.fld 3 16 13
def Subscr.key (b : Subscr) : Nat := b.fld 3 0 7

/-- States of NET_SUBn_STAT. -/
def sbSUBSCRIBING : Nat := 1
def sbACTIVE : Nat := 2
def sbSTALE : Nat := 3
def sbSILENT : Nat := 4
def sbENDED : Nat := 5
def sbTYPE : Nat := 6

/-- A subscription, and one changed. -/
def State.sub (s : State) (n : Nat) : Option Subscr := (s.net.subs.find? fun x => x.1 == n).map fun x => x.2
def State.setSub (s : State) (n : Nat) (f : Subscr → Subscr) : State :=
  s.onNet fun x => { x with subs := x.subs.map fun y => if y.1 = n then (n, f y.2) else y }

/-- A subscription's state with its event, PH's quality and the code shown (R320). -/
def State.subEnds (s : State) (n st code : Nat) (q : Byte) (event : Nat) : State :=
  let ten := match s.sub n with | some b => b.tenant | none => 0
  let s := (s.sourceQual 7 n q).wr (NET_SUB_STAT_STATE n) st
  ((s.wr (NET_SUB_STAT_LASTCODE n) code).raise NET_EVT_SUB).log srcNET event ten [.n2 n]

/-- Two subscriptions have one publisher. -/
def samePublisher (a b : Subscr) : Bool := a.raddr == b.raddr && a.rpair == b.rpair && a.key == b.key

/-- A SUBSCRIBE record. -/
def subRecord (cancel : Bool) (x : Nat × Subscr) : List Byte :=
  leBytes 2 x.1 ++ leBytes 2 x.2.rh ++ leBytes 1 (if cancel then 0xFF else x.2.mode) ++ leBytes 1 0 ++ leBytes 2 x.2.per ++
  leBytes 2 x.2.tmo ++ leBytes 2 0

/-- One SUBSCRIBE frame of at most 64 records under a TID. -/
def State.subscribeFrame (s : State) (cancel : Bool) (tid : Nat) (xs : List (Nat × Subscr)) : State :=
  match xs with
  | [] => s
  | x :: _ =>
    let b := x.2
    let body := leBytes 1 xs.length ++ leBytes 3 0 ++ xs.flatMap (subRecord cancel)
    s.originate 5 (uptMac b.rpair b.raddr) (ownHdr uSUBSCRIBE (s.rd NET_ADDR_MADDR) b.raddr b.key tid) body

/-- SUBSCRIBE sent for some subscriptions, publisher by publisher, 64 records a frame; each request waits for its response. -/
def State.subscribe (s : State) (cancel : Bool) : List (Nat × Subscr) → Nat → State
  | _, 0 => s
  | [], _ => s
  | x :: t, n + 1 =>
    let mine := (x :: t.filter fun y => samePublisher x.2 y.2).take 64
    let tid := s.net.nextTid
    let s := s.subscribeFrame cancel tid mine
    let req : SubRequest := ⟨x.2.raddr, x.2.rpair, x.2.key, tid, mine.map fun y => y.1, s.cyc⟩
    let s := s.onNet fun z => { z with
      nextTid := (tid + 1) % 65536, requests := if cancel then z.requests else z.requests ++ [req] }
    s.subscribe cancel (t.filter fun y => !(mine.any fun m => m.1 == y.1)) n

/-- SUBSCRIBE sent for every subscription that `sel` picks; earlier requests for them no longer count. -/
def State.subscribeAll (s : State) (sel : Nat → Bool) : State :=
  let xs := if s.micro 4 then s.net.subs.filter fun x => sel x.1 else []
  let s := s.onNet fun n => { n with requests := n.requests.filter fun r => !(r.subs.any sel) }
  let s := xs.foldl (fun s x =>
    if s.rd (NET_SUB_STAT_STATE x.1) = sbENDED ∨ s.rd (NET_SUB_STAT_STATE x.1) = 0 then s.wr (NET_SUB_STAT_STATE x.1) sbSUBSCRIBING
    else s) s
  s.subscribe false xs xs.length

/-- LTU_SCHED.EN first set: every subscription is asked for, and again every 256 lc (R320). -/
def State.startSubs (s : State) : State :=
  (s.subscribeAll fun _ => true).onNet fun n => { n with nextRefresh := s.cyc + 256 }

/-- A NOTICE record applied (R320). -/
def State.noticeOne (m : UptMsg) (s : State) (r : List Byte) : State :=
  let n := leAt r 0 2
  let code := leAt r 2 2
  match s.sub n with
  | none => s
  | some b =>
    if b.raddr ≠ m.hdr.src ∨ b.key ≠ m.hdr.key ∨ s.rd (NET_SUB_STAT_STATE n) = sbTYPE then s
    else if code ≠ 0 then s.subEnds n sbENDED code 0x86 0x0A49
    else if leAt r 4 1 ≠ s.typeCode b.ph then s.subEnds n sbTYPE code 0x86 0x0A49
    else
      let q : Byte := BitVec.ofNat 8 (leAt r 5 1)
      let s := s.sourceWrite 7 n (BitVec.ofNat 32 (leAt r 8 4)) (if q = 0x20 then 0 else q)
      let s := (s.wr (NET_SUB_STAT_STATE n) sbACTIVE).wr (NET_SUB_STAT_LASTCODE n) code
      s.setSub n fun b => { b with notice := s.cyc, tries := 0 }

/-- A NOTICE applied. -/
def State.uptNotice (s : State) (m : UptMsg) : State :=
  match records 4 16 m.body with
  | none => s
  | some rs => rs.foldl (State.noticeOne m) s

/-- A record of a SUBSCRIBE response, for the subscription of its place (R320). -/
def State.responseOne (s : State) (x : Nat × List Byte) : State :=
  let n := x.1
  let code := leAt x.2 0 2
  match s.sub n with
  | none => s
  | some b =>
    let s := s.setSub n fun b => { b with tries := 0 }
    if s.rd (NET_SUB_STAT_STATE n) = sbTYPE then s
    else if code ≠ 0 then s.subEnds n sbENDED code 0x86 0x0A49
    else if leAt x.2 3 1 ≠ s.typeCode b.ph then s.subEnds n sbTYPE code 0x86 0x0A49
    else
      let s := s.wr (NET_SUB_STAT_LASTCODE n) code
      let st := s.rd (NET_SUB_STAT_STATE n)
      if st = sbACTIVE ∨ st = sbSTALE then s
      else (s.wr (NET_SUB_STAT_STATE n) sbACTIVE).setSub n fun b => { b with notice := s.cyc }

/-- A response taken: BUSY with REPLAY_SYNC raises the epoch (R311), a good one carries one record per subscription asked. -/
def State.uptResponse (s : State) (m : UptMsg) : State :=
  match s.net.requests.find? fun r => r.addr == m.hdr.src && r.key == m.hdr.key && r.tid == m.hdr.tid with
  | none => s
  | some r =>
    let s := s.onNet fun n => { n with requests := n.requests.erase r }
    let code := leAt m.body 0 2
    if code = cBUSY ∧ leAt m.body 2 1 = 0x42 then s.raiseEpoch
    else if code ≠ 0x0A00 then s
    else (r.subs.zip ((List.range r.subs.length).map fun k => slice m.body (4 + 4 * k) 4)).foldl State.responseOne s

/-- A SUBSCRIBE without response for 16 lc (R320). -/
def State.subRetry (s : State) (tid : Nat) : State :=
  match s.net.requests.find? fun r => r.tid == tid with
  | none => s
  | some r =>
    if s.cyc < r.sent + 16 then s
    else
      let s := r.subs.foldl (fun s n => s.setSub n fun b => { b with tries := b.tries + 1 }) s
      let silent := fun (n : Nat) => match s.sub n with | some b => decide (3 ≤ b.tries) | none => true
      if r.subs.all silent then
        let s := s.onNet fun n => { n with requests := n.requests.erase r }
        r.subs.foldl (fun s n =>
          if s.rd (NET_SUB_STAT_STATE n) = sbSILENT ∨ (s.sub n).isNone then s
          else s.subEnds n sbSILENT (s.rd (NET_SUB_STAT_LASTCODE n)) 0x85 0x0A4B) s
      else
        let xs := s.net.subs.filter fun x => r.subs.contains x.1
        (s.subscribeFrame false tid xs).onNet fun n => { n with
          requests := n.requests.map fun q => if q = r then { r with sent := s.cyc } else q }

/-- The same subscription in two images (R320). -/
def sameSub (a b : Subscr) : Bool :=
  a.tenant == b.tenant && a.raddr == b.raddr && a.rh == b.rh && a.key == b.key

/-- The subscriptions at an exchange's X (R320). -/
def State.exchangeSubs (s : State) : State :=
  let old := s.net.subs
  let new := s.net.subNext.map fun par => (bitsOf (par.getD 0 0) 0 16, (⟨par, 0, s.cyc⟩ : Subscr))
  let keeps := fun (x : Nat × Subscr) => old.find? fun o => o.1 == x.1 && sameSub o.2 x.2
  let gone := old.filter fun o => !(new.any fun x => x.1 == o.1 && sameSub o.2 x.2)
  let s := s.subscribe true gone gone.length
  let s := gone.foldl (fun s o => (s.wr (NET_SUB_STAT_STATE o.1) 0).wr (NET_SUB_STAT_LASTCODE o.1) 0) s
  let s := s.onNet fun n => { n with
    subs := new.map fun x => match keeps x with
      | some o => (x.1, { o.2 with par := x.2.par })
      | none => x
    subNext := []
    requests := n.requests.filter fun r => !(r.subs.any fun k => gone.any fun o => o.1 == k) }
  let fresh := new.filter fun x => (keeps x).isNone
  let retry := new.filter fun x => s.rd (NET_SUB_STAT_STATE x.1) == sbTYPE
  let s := retry.foldl (fun s x => s.wr (NET_SUB_STAT_STATE x.1) sbSUBSCRIBING) s
  let s := s.wr NET_STAT_SUBS new.length
  let ask := (fresh ++ retry).map fun x => x.1
  if s.on LTU_SCHED_EN then s.subscribeAll fun n => ask.contains n else s

/-! ## Events (R318) -/

/-- An announcement's event data (R318). -/
def Announcement.bytes (a : Announcement) (sec ns : Nat) : List Byte :=
  leBytes 2 (a.sender.toNat + a.rank.toNat * 4096) ++ leBytes 1 (bit a.virt + 2 * bit a.siteOk + 4 * bit a.isMaster) ++
  leBytes 7 a.siteTime.toNat ++ leBytes 6 sec ++ leBytes 4 ns ++ leBytes 4 a.freq

/-- An announcement of some event data. -/
def announcementOf (d : List Byte) : Announcement where
  sender := BitVec.ofNat 12 (leAt d 0 2)
  rank := BitVec.ofNat 4 (leAt d 0 2 / 4096)
  virt := leAt d 2 1 % 2 == 1
  siteOk := leAt d 2 1 / 2 % 2 == 1
  isMaster := leAt d 2 1 / 4 % 2 == 1
  siteTime := BitVec.ofNat 56 (leAt d 3 7)
  freq := leAt d 20 4

/-- The announcements of this boundary sent, `sec` and `ns` the PTP time of its crossing (R55, R318).
Log entry 4 (DESIGN CHOICE, DEDUCED). -/
def State.sendAnnouncements (s : State) (sec ns : Nat) : State :=
  let s := s.announced.foldl (fun s a =>
    s.originate 7 siteMac (ownHdr uEVENT (s.rd NET_ADDR_MADDR) 0xFFFF 0 0) (leBytes 2 1 ++ leBytes 2 24 ++ Announcement.bytes a sec ns)) s
  { s with announced := [] }

/-- An EVENT handled (R318). -/
def State.uptEvent (s : State) (m : UptMsg) (localTime : BitVec 56) : State :=
  let code := leAt m.body 0 2
  let n := leAt m.body 2 2
  if m.body.length ≠ 4 + n then s.bump NET_UPT_CNT_A_LENERR
  else if code = 1 ∧ n = 24 ∧ m.hdr.key = 0 ∧ m.hdr.ten = 0 then s.announcementIn (announcementOf (m.body.drop 4)) localTime
  else if code = 2 ∧ n = 0 then s.raiseEpoch
  else s.bump NET_UPT_CNT_A_LENERR

/-! ## Exchange and key bindings -/

/-- A write of NET_KEYn: a change of EN or SLOT frees every replay entry of the key (R312). -/
def State.bindKey (s : State) (n : Nat) (en : Bool) (slot : Nat) : State :=
  if s.rd (NET_KEY_EN n) = bit en ∧ s.rd (NET_KEY_SLOT n) = slot then s
  else
    let s := (s.wr (NET_KEY_EN n) (bit en)).wr (NET_KEY_SLOT n) slot
    (s.onNet fun x => { x with replay := x.replay.filter fun e => e.key ≠ n }).storeEpochs

end Sys2Proof.Machine
end

