-- ==== Sys2Proof/Machine/DclOps.lean ====
section
/-! DEFINITION. The setup section: directives, their ranges and named bits (step 4 of R133: R125 to R129, R168, R219), and the
declarations that they make. -/

namespace Sys2Proof.Machine

/-- Directive kinds (Table 4-10). -/
def dLINE : Nat := 1
def dTENANT : Nat := 2
def dDATA : Nat := 3
def dPOINT : Nat := 4
def dCELL : Nat := 5
def dTASK : Nat := 6
def dFIO : Nat := 7
def dLOOP : Nat := 8
def dMETER : Nat := 9
def dBUSPORT : Nat := 10
def dBUSNODE : Nat := 11
def dBUSWIN : Nat := 12
def dSUBSCR : Nat := 13
def dPAIR : Nat := 14

/-- N of a directive kind; none for an unknown kind. -/
def paramCount : Nat → Option Nat
  | 1 => some 3 | 2 => some 1 | 3 => some 4 | 4 => some 2 | 5 => some 3 | 6 => some 4 | 7 => some 4 | 8 => some 12
  | 9 => some 8 | 10 => some 6 | 11 => some 4 | 12 => some 3 | 13 => some 4 | 14 => some 2 | _ => none

/-- A parameter word, and a field of one. -/
def Directive.word (d : Directive) (k : Nat) : Nat := d.params.getD k 0
def Directive.fld (d : Directive) (k lo n : Nat) : Nat := bitsOf (d.word k) lo n

/-- The tenant, mode and index of a common word (R127). -/
def Directive.ten (d : Directive) : Nat := d.fld 0 24 6
def Directive.mode (d : Directive) : Nat := d.fld 0 16 8
def Directive.idx (d : Directive) : Nat := d.fld 0 0 16

/-- The bits of a word outside a mask are 0. -/
def only (mask w : Nat) : Bool := w &&& (2 ^ 32 - 1 - mask) == 0

/-- The bits that the layout of a directive names, word by word (R125). -/
def Directive.masks (d : Directive) : List Nat :=
  let port := if d.kind = dBUSPORT then d.idx else 0
  match d.kind with
  | 1 => [0x0FFF0000, 0x003FFFFF, 0x8F07FF00]
  | 2 => [0xBF003FFF]
  | 3 => [0xBF000000, 0xFFFFFFFF, 0xFFFFFFFF, 0xFFFFFFFF]
  | 4 => [0xBFF81FFF, 0xFFFF01FF]
  | 5 => [0x80000FFF, 0xFFFFFFFF, 0xFFFFFFFF]
  | 6 => [0xFF1FFFFF, 0xC000FFFF, 0xFFFFFFFF, 0xFF1F0FFF]
  | 7 => [0x3FFFFFFF, 0x9FFF9FFF, 0xFFFFFFFF, 0xFFFFFFFF]
  | 8 => [0x3FF0FFFF, 0x1FFF1FFF, 0x1FFFDFFF, 0xFFF0FFFF, 0xFFFF] ++ List.replicate 7 0xFFFFFFFF
  | 9 => if d.mode = 1 then [0x3FFFFFFF, 0xE000, 0, 0xFFFFFFFF, 0xFFFFFFFF, 0xFFFFFFFF, 0, 0]
    else [0x3FFFFFFF, 0xFFFFFFFF, 0xFFFF, 0xFFFFFFFF, 0xFFFFFFFF, 0xFFFFFFFF, 0, 0]
  | 10 => 0x3FFFFFFF :: (match portType port with
    | 0 => [0xFFFF7F7F, 0x1F1F0F0F, 0xFFF00000, 0x9FFFFFFF, 0xFFFFFFFF]
    | 1 => [0xFFFFFFFF, 0xFEFFFFFF, 0xF, 0, 0]
    | _ => [0xF, 0, 0, 0, 0])
  | 11 => [0x3FFFFFFF, 0xFF001FFF, 0xFFFFFFFF, 0xFFFFFFFF]
  | 12 => [0x3F00FFFF, 0xE000FFFF, 0xFFFF3FFF]
  | 13 => [0x3FFFFFFF, 0xFFFF9FFF, 0xFFFFFFFF, 0x1FFF007F]
  | _ => [0xFFFFFFFF, 0xFFFFFFFF]

/-- A period declared by FRAC and PER: PER from 1 with whole cycles, 0 otherwise. -/
def perOk (frac per : Nat) : Bool := if frac = 0 then per != 0 else per == 0

/-- The period of a directive's word `k`: FRAC in [31:30], PER in [15:0] (R60). -/
def Directive.periodAt (d : Directive) (k : Nat) : Nat :=
  if d.fld k 30 2 = 0 then d.fld k 0 16 * 65536 else 65536 / 2 ^ d.fld k 30 2

/-- The ranges of a directive's fields that step 4 judges. -/
def Directive.rangesOk (im : Image) (d : Directive) : Bool :=
  match d.kind with
  | 1 => decide (d.fld 0 16 4 ≤ 11)
  | 2 => d.ten != 0
  | 3 => d.word 2 != 0 && d.word 2 % 256 == 0 && d.word 3 != 0xFFFFFFFF
  | 4 => d.fld 0 31 1 == 1
  | 5 => d.word 1 != 0xFFFFFFFF && (if d.fld 0 31 1 = 0 then decide (d.word 2 < 2 ^ 31) else d.word 2 == 0)
  | 6 => perOk (d.fld 0 30 2) (d.fld 0 0 16) && d.fld 3 24 8 != 0 && decide (d.fld 3 0 12 < im.routines.length) &&
      (if d.fld 1 30 1 = 0 then d.word 2 == 0 else d.word 2 != 0 && decide (d.word 2 < d.periodAt 0))
  | 7 => decide (d.idx < 256)
  | 8 => decide (d.idx < 128) && (d.fld 0 21 2 != 0 || d.fld 2 16 13 == 0) && d.fld 2 14 2 != 3 &&
      (decide (64 ≤ d.idx) || d.fld 2 14 2 == 0) && (d.fld 2 14 2 == 2 || d.fld 2 0 13 == 0) &&
      perOk (d.fld 3 30 2) (d.fld 3 0 16) && (d.fld 3 28 1 == 1 || d.fld 3 24 4 == 0) && d.word 5 % 4 == 0
  | 9 =>
    if d.mode = 0 then decide (d.idx < 48) && decide (d.fld 1 28 4 ≤ 11) && d.fld 1 24 2 != 3 &&
      (d.fld 1 26 1 == 1 || d.fld 1 16 8 == 0) && (d.fld 1 24 2 == 1 || d.fld 1 0 13 == 0) && d.word 2 != 0 && d.word 5 % 4 == 0
    else d.mode == 1 && decide (d.idx < 12)
  | 10 => decide (d.idx < 28)
  | 11 => decide (d.idx < 4096)
  | 12 => decide (d.idx < 224) && (d.fld 1 30 2 != 0 || d.fld 1 0 16 != 0)
  | 13 => decide (d.idx < 2048)
  | _ => true

/-- The tenant that a directive names (R126): none for LINE, TENANT and CELL, and for PAIR, which R345 judges. -/
def Directive.tenant (d : Directive) : Nat :=
  match d.kind with
  | 1 | 2 | 5 | 14 => 0
  | 4 => d.fld 0 22 6
  | _ => d.ten

/-- The directive follows its tenant's TENANT directive; one with a common word demands the tenant enabled (R126, R127). -/
def Directive.tenantOk (before : List Directive) (d : Directive) : Bool :=
  d.tenant == 0 || before.any fun t => t.kind == dTENANT && t.ten == d.tenant && (decide (d.kind < dFIO) || t.fld 0 31 1 == 1)

/-- The object that a directive declares, in numbers: two equal ones are refused (R125). -/
def Directive.object (d : Directive) : Option (List Nat) :=
  match d.kind with
  | 1 => some [1]
  | 2 => some [2, d.ten]
  | 3 => some [3, d.word 3]
  | 4 => some [4, d.fld 0 0 13]
  | 6 => some [6, d.fld 0 16 5]
  | 5 | 14 => none
  | 9 => some [9, d.mode, d.idx]
  | k => some [k, d.idx]

/-- Bytes of the DATA image below the cell and record area (R152). -/
def dataTop : Nat := 0x1D0000

/-- Two blocks overlap. -/
def overlap (o1 n1 o2 n2 : Nat) : Bool := decide (o1 < o2 + n2) && decide (o2 < o1 + n1)

/-- A DATA block lies as R128 demands. -/
def Directive.placed (before : List Directive) (d : Directive) : Bool :=
  d.kind != dDATA || (d.word 1 % 256 == 0 && decide (d.word 1 + d.word 2 ≤ dataTop) &&
    !(before.any fun b => b.kind == dDATA && overlap (b.word 1) (b.word 2) (d.word 1) (d.word 2)))

/-- Step 4 over one directive, after those before it. -/
def Directive.check (im : Image) (before : List Directive) (d : Directive) : Check :=
  let bad := refusal 0x048C 1 d.at_
  let entry := if d.kind = dTASK then { bad with task := d.fld 0 16 5 } else bad
  firstFault [
    demand ((d.params.zip d.masks).all fun x => only x.2 x.1) bad,
    demand (d.kind != dTASK || decide (d.fld 3 0 12 < im.routines.length)) entry,
    demand (d.rangesOk im) bad, demand (d.tenantOk before) bad,
    demand (d.object.isNone || !(before.any fun b => b.object == d.object)) bad,
    demand (d.placed before) (refusal 0x048E 1 d.at_)]

/-- The setup section executed in order (R125). -/
def runSetup (im : Image) : Nat → List Directive → List Nat → Nat → Except LoadFault (List Directive)
  | 0, before, _, _ => .ok before
  | _, before, [], _ => .ok before
  | n + 1, before, w :: t, at_ =>
    let d : Directive := ⟨bitsOf w 16 8, at_, t.take (bitsOf w 0 16)⟩
    let shape := w / 2 ^ 24 == 0xFD && paramCount d.kind == some (bitsOf w 0 16) && d.params.length == bitsOf w 0 16
    match firstFault [demand shape (refusal 0x048C 1 at_), d.check im before] with
    | some f => .error f
    | none => runSetup im n (before ++ [d]) (t.drop d.params.length) (at_ + 1 + d.params.length)

/-- Step 4 of R133: the directives, and task 0 among them (R129). -/
def Image.directives (im : Image) : Except LoadFault (List Directive) :=
  match runSetup im (im.setup.length + 1) [] im.setup 0 with
  | .error f => .error f
  | .ok ds => if ds.any fun d => d.kind == dTASK && d.fld 0 16 5 == 0 then .ok ds else .error (refusal 0x048D 1 0)

/-! ## Declarations -/

/-- An image after step 4. -/
structure Loaded where
  im : Image
  dirs : List Directive
deriving DecidableEq, Repr

/-- The directives of a kind in ascending index. -/
def insertByIdx (key : Directive → Nat) (d : Directive) : List Directive → List Directive
  | [] => [d]
  | x :: t => if key d < key x then d :: x :: t else x :: insertByIdx key d t
def Loaded.of (L : Loaded) (kind : Nat) : List Directive :=
  let key := fun (d : Directive) => match d.kind with
    | 4 => d.fld 0 0 13 | 6 => d.fld 0 16 5 | 9 => d.mode * 48 + d.idx | 5 => d.fld 0 31 1 * 4096 + d.fld 0 0 12 | _ => d.idx
  (L.dirs.filter fun d => d.kind == kind).foldl (fun l d => insertByIdx key d l) []

/-- A point definition; the owner's R right is always set (R75). None for a reserved TYPE, VIS or SRC_KIND. -/
def Directive.point (d : Directive) : Option PointDef :=
  match Vis.ofCode (d.fld 0 28 2), PType.ofCode (d.fld 0 19 3) with
  | some v, some t =>
    if d.fld 1 28 4 ≤ 8 then some ⟨v, d.fld 0 22 6, t, d.fld 1 28 4, d.fld 1 16 12, setBit (d.fld 1 0 9) 0⟩ else none
  | _, _ => none

/-- The point definitions by handle. -/
def Loaded.points (L : Loaded) : List (Nat × PointDef) :=
  (L.of dPOINT).filterMap fun d => d.point.map fun p => (d.fld 0 0 13, p)
def Loaded.point (L : Loaded) (h : Nat) : Option PointDef := (L.points.find? fun x => x.1 == h).map fun x => x.2

/-- A DATA block (R128). -/
def Directive.data (d : Directive) : DataInfo := ⟨d.word 3, d.word 1, d.word 2, d.fld 0 31 1 == 1, d.ten⟩
def Loaded.blocks (L : Loaded) : List DataInfo := (L.dirs.filter fun d => d.kind == dDATA).map Directive.data

/-- The declared tasks; the handles that their code reaches come later (R113, R115). -/
def Directive.taskInfo (d : Directive) (reads writes : List Nat) : TaskInfo where
  task := d.fld 0 16 5
  tenant := d.ten
  per := d.fld 0 0 16
  frac := d.fld 0 30 2
  site := d.fld 1 31 1 == 1
  cmt := d.fld 1 30 1 == 1
  angle := d.fld 1 0 16
  cofs := d.word 2
  lanes := d.fld 3 24 8
  prio := d.fld 3 16 5
  entry := d.fld 3 0 12
  reads := reads
  writes := writes

/-- The handles of a task's reachable PRDs or PWRs, ascending. -/
def Image.handles (im : Image) (op entry : Nat) : List Nat :=
  let hs := (im.reachWords entry).filterMap fun c => if wOP c.w = op then some (wHANDLE c.w) else none
  (List.range 8192).filter fun h => hs.contains h

/-- The tasks of an image. -/
def Loaded.tasks (L : Loaded) : List TaskInfo :=
  (L.of dTASK).map fun d => d.taskInfo (L.im.handles 0x60 (d.fld 3 0 12)) (L.im.handles 0x61 (d.fld 3 0 12))

/-- The tenant's quota of points: tenant 0 keeps PDIR_TEN0_CFG, every other has that of its TENANT directive (R77). -/
def Loaded.quota (L : Loaded) (s : State) (t : Nat) : Nat :=
  if t = 0 then min 8192 (s.rd (PDIR_TEN_CFG_QUOTA 0))
  else match L.dirs.find? fun d => d.kind == dTENANT && d.ten == t with
    | some d => min 8192 (d.fld 0 0 14)
    | none => 0

/-- A tenant is enabled by the image. -/
def Loaded.enables (L : Loaded) (t : Nat) : Bool :=
  t == 0 || L.dirs.any fun d => d.kind == dTENANT && d.ten == t && d.fld 0 31 1 == 1

/-- A reference for read that R76 would serve (R78). -/
def Loaded.mayRead (L : Loaded) (t h : Nat) : Bool :=
  L.enables t && (match L.point h with
    | some d => (match judgeDef t d askRead with | .served _ => true | .refused _ _ => false)
    | none => false)

end Sys2Proof.Machine
end

