-- ==== Sys2Proof/Machine/ExchOps.lean ====
section
/-! DEFINITION. What an exchange, or the first load, changes in the closed-loop engine, metering, field I/O and the field
buses at X (R182, R188, R215, R247, R283). -/

namespace Sys2Proof.Machine

/-- Every register field of an address range set to 0. -/
def State.clearRange (s : State) (lo n : Nat) : State :=
  { s with regs := s.regs.filter fun x => decide (x.1 < lo * 32) || decide ((lo + n) * 32 ≤ x.1) }

/-! ## Closed-loop engine -/

/-- CLE_LOOPn_CFG of a declared loop. -/
def State.showLoopCfg (s : State) (n : Nat) (d : LoopDecl) (head : Bool) : State :=
  let s := ((s.raise (CLE_LOOP_CFG_EN n)).wr (CLE_LOOP_CFG_ACT n) (bit d.direct)).wr (CLE_LOOP_CFG_SPSRC n) d.spsrc
  let s := ((s.wr (CLE_LOOP_CFG_SVSEL n) d.svsel).wr (CLE_LOOP_CFG_GEN n) (bit d.gen)).wr (CLE_LOOP_CFG_HEAD n) (bit head)
  ((s.wr (CLE_LOOP_CFG_GROUP n) d.group).wr (CLE_LOOP_CFG_PVTRIP n) d.pvtrip).wr (CLE_LOOP_CFG_TENANT n) d.tenant

/-- A loop that is new to the module (R182). -/
def Loop.fresh (d : LoopDecl) : Loop where
  decl := d
  coef := d.coefs
  coefNext := none
  qprev := 0
  tgt := none
  uApp := d.oman
  offer := d.oman
  xtal := 0
  first := true
  rechg := false
  pcnt := 0
  pts := 0
  pfreq := 0
  wrote := 0

/-- A loop without a record starts as START gives (R182). -/
def State.startLoop (s : State) (n : Nat) (d : LoopDecl) : State :=
  let s := (s.wr (CLE_LOOP_STAT_MODE n) (if d.startAuto then lmAUTO else lmMANUAL)).wrReal (CLE_LOOP_MAN_VAL n) d.oman
  s.onCle fun c => { c with loops := c.loops ++ [(n, Loop.fresh d)] }

/-- A matched loop keeps its state; new coefficients act at X, or wait for MANUAL in a channel loop in AUTO (R188). -/
def State.matchLoop (s : State) (n : Nat) (d : LoopDecl) (L : Loop) : State :=
  let same := L.decl.coefs == d.coefs
  let waits := !same && !d.isZone && s.rd (CLE_LOOP_STAT_MODE n) == lmAUTO
  let M : Loop := { L with
    decl := d
    coef := if same || waits then L.coef else d.coefs
    coefNext := if same then L.coefNext else if waits then some d.coefs else none
    rechg := L.rechg || (!same && d.isZone) }
  let s := s.wr (CLE_LOOP_STAT_COEF_PEND n) (bit M.coefNext.isSome)
  s.onCle fun c => { c with loops := c.loops ++ [(n, M)] }

/-- The heads and member counts of the groups shown. -/
def State.showGroups (s : State) : State :=
  (List.range 16).foldl (fun s g =>
    let ms := s.cle.loops.filter fun x => x.2.decl.gen && x.2.decl.group == g
    match ms.head? with
    | none => ((s.lower (CLE_GRP_STAT_EN g)).wr (CLE_GRP_STAT_HEAD g) 0).wr (CLE_GRP_STAT_COUNT g) 0
    | some h => ((s.raise (CLE_GRP_STAT_EN g)).wr (CLE_GRP_STAT_HEAD g) h.1).wr (CLE_GRP_STAT_COUNT g) ms.length) s

/-- The loops of the new image at X, with their delay bounds (R188, R190). Log entry 8 (DESIGN CHOICE, DEDUCED). -/
def State.exchangeLoops (s : State) (bounds : List (Nat × Nat)) : State :=
  let old := s.cle.loops
  let new := s.cle.next
  let matched := fun (x : Nat × LoopDecl) => old.find? fun o => o.1 == x.1 && o.2.decl.tenant == x.2.tenant
  let s := (old.filter fun o => !(new.any fun x => x.1 == o.1 && x.2.tenant == o.2.decl.tenant)).foldl
    (fun s o => s.clearRange (0x40030400 + 64 * o.1) 64) s
  let s := s.onCle fun c => { c with loops := [], next := [], jobs := c.jobs.filter fun j => new.any fun x => x.1 == j.loop }
  let s := new.foldl (fun s x => match matched x with
    | some o => s.matchLoop x.1 x.2 o.2
    | none => s.startLoop x.1 x.2) s
  let s := new.foldl (fun s x =>
    let s := s.showLoopCfg x.1 x.2 ((s.unit x.1).head? == some x.1)
    let s := s.wr (CLE_LOOP_BOUND_BOUND x.1) (match bounds.find? fun b => b.1 == x.1 with | some b => b.2 | none => 0)
    match s.loop x.1 with
    | some L => s.showCoef x.1 L
    | none => s) s
  s.showGroups.countLoops

/-- At start-up each declared loop takes its record: mode, MAN, coefficients and trip state (R182). -/
def State.restoreLoops (s : State) : State :=
  (s.cle.loops.foldl (fun s x => match s.cfg.loops.find? fun r => r.1 == x.1 with
    | none => s
    | some (_, r) =>
      let s := ((s.wr (CLE_LOOP_STAT_MODE x.1) r.mode).wrReal (CLE_LOOP_MAN_VAL x.1) r.man).wr (CLE_LOOP_STAT_TRIPSRC x.1) r.trip
      let s := s.setLoop x.1 fun L => { L with coef := r.coef }
      match s.loop x.1 with
      | some L => s.showCoef x.1 L
      | none => s) s).countLoops

/-! ## Metering -/

/-- A correction that needs no temperature source: 25 °C. -/
def MeterDecl.start (d : MeterDecl) : Compensation := d.compensate r25 false

/-- Ten empty accumulators. -/
def noEnergy : List MeterAcc := List.replicate 10 ⟨0, 0, 0, 0⟩

/-- A channel that is new to the module. -/
def MeterCh.fresh (d : MeterDecl) (now : Nat) : MeterCh where
  decl := some d
  tenant := d.tenant
  acc := noEnergy
  noload := 0
  metered := 0
  start := now
  latch := 0
  done := 0
  pend := none
  restored := false
  window := []
  marks := 0
  faultRun := false
  holdRun := false
  obtained := none
  comp := d.start
  compNext := none
  readTemp := true
  recent := []

/-- MTR_CHnn_CFG and MTR_CHnn_N. -/
def State.showMeterCfg (s : State) (n : Nat) (d : MeterDecl) : State :=
  let s := ((s.raise (MTR_CH_CFG_EN n)).wr (MTR_CH_CFG_INV n) (bit d.inv)).wr (MTR_CH_CFG_REP n) (bit d.rep)
  let s := ((s.wr (MTR_CH_CFG_TSEL n) d.tsel).wr (MTR_CH_CFG_AVG n) d.avg).wr (MTR_CH_CFG_VCH n) d.vch
  ((s.wr (MTR_CH_CFG_RSLOT n) d.rslot).wr (MTR_CH_CFG_TENANT n) d.tenant).wr (MTR_CH_N_N n) d.n

/-- The compensation in use shown. -/
def State.showComp (s : State) (n : Nat) (k : Compensation) : State :=
  ((s.wr (MTR_CH_TEMP_T n) k.temp.toNat).wr (MTR_CH_GAIN_VAL n) k.gain.toNat).wr (MTR_CH_PHASE_VAL n) k.phase.toNat

/-- A channel cleared for another tenant, with MT_PRESET (R215). -/
def State.changeMeterTenant (s : State) (n : Nat) (d : MeterDecl) : State :=
  let s := s.setMch n fun _ => MeterCh.fresh d s.ltu.now
  ((s.wr (MTR_CH_STAT_FLAGS n) 0).markInterval n fPRESET).log srcMTR 0x0744 d.tenant [.n1 n]

/-- A current channel of the new image at X (R215). Log entry 9 (DESIGN CHOICE, DEDUCED). -/
def State.exchangeMeter (s : State) (d : MeterDecl) : State :=
  let n := d.chan
  let s := match s.mch n with
    | none => s.onMtr fun m => { m with chans := m.chans ++ [(n, MeterCh.fresh d s.ltu.now)] }
    | some c =>
      if c.tenant ≠ d.tenant then
        (if c.decl.isSome then s.closeInterval n s.ltu.now else s).changeMeterTenant n d
      else if c.decl.isSome then
        s.setMch n fun c => { c with decl := some d, comp := d.compensate c.comp.temp c.comp.hold, compNext := none, readTemp := true }
      else
        let acc := c.acc.map fun (a : MeterAcc) => { a with start := a.cum }
        (s.setMch n fun _ => { (MeterCh.fresh d s.ltu.now) with acc := acc }).wr (MTR_CH_STAT_FLAGS n) 0
  let s := s.showMeterCfg n d
  match s.mch n with
  | some c => (s.showComp n c.comp).showAcc n c.acc
  | none => s

/-- MTR's declarations at X: dropped channels are closed and reported under the old parameters. -/
def State.exchangeMeters (s : State) : State :=
  let cs := s.mtr.next.filter fun d => d.kind == 0
  let vs := s.mtr.next.filter fun d => d.kind == 1
  let gone := s.mtr.chans.filter fun x => x.2.decl.isSome && !(cs.any fun d => d.chan == x.1)
  let s := gone.foldl (fun s x =>
    ((s.closeInterval x.1 s.ltu.now).setMch x.1 fun c => { c with decl := none, window := [], marks := 0 }).clearRange
      (0x40041000 + 256 * x.1) 4) s
  let s := cs.foldl State.exchangeMeter s
  let s := (List.range 12).foldl (fun s k => s.clearRange (0x40044000 + 32 * k) 4) s
  let volt := fun (d : MeterDecl) => match s.mtr.volts.find? fun v => v.1 == d.chan with
    | some v => (d.chan, { v.2 with decl := d })
    | none => (d.chan, ⟨d, [], []⟩)
  let s := s.onMtr fun m => { m with next := [], volts := vs.map volt }
  let s := vs.foldl (fun s d => ((s.raise (MTR_VS_CFG_EN d.chan)).wr (MTR_VS_CFG_AVG d.chan) d.avg).wr (MTR_VS_CFG_REF d.chan)
    (bit (s.rd LTU_CFG_REF == d.chan))) s
  (s.wr MTR_STAT_DECL_CS cs.length).wr MTR_STAT_DECL_VS vs.length

/-- The meter checkpoint restored at start-up (R225). -/
def State.restoreMeters (s : State) : State :=
  match s.mtr.latest with
  | none => s.log srcMTR 0x074A 0 []
  | some k =>
    let s := s.onMtr fun m => { m with
      seqs := k.seqs
      chans := k.chans.map fun x => (x.1, { (MeterCh.fresh ⟨[], []⟩ 0) with
        decl := none, tenant := x.2.tenant, acc := x.2.acc, noload := x.2.noload, metered := x.2.metered
        start := x.2.start, done := x.2.done }) }
    let s := k.chans.foldl (fun s x => s.wr (MTR_CH_STAT_FLAGS x.1) x.2.flags) s
    s.log srcMTR 0x0749 0 []

/-- A current channel declared at start-up over a restored one (R225). -/
def State.startMeter (s : State) (d : MeterDecl) : State :=
  let n := d.chan
  let s := match s.mch n with
    | none => s.onMtr fun m => { m with chans := m.chans ++ [(n, MeterCh.fresh d s.ltu.now)] }
    | some c =>
      if c.tenant = d.tenant then
        s.setMch n fun c => { c with decl := some d, restored := true, comp := d.start, readTemp := true }
      else (s.closeInterval n c.done).changeMeterTenant n d
  let s := s.showMeterCfg n d
  match s.mch n with
  | some c => (s.showComp n c.comp).showAcc n c.acc
  | none => s

/-- MTR's declarations of the stored image at start-up. -/
def State.startMeters (s : State) : State :=
  let cs := s.mtr.next.filter fun d => d.kind == 0
  let s := cs.foldl State.startMeter s
  s.exchangeMeters

/-! ## Field I/O -/

/-- A channel that starts. Log entry 10 (DESIGN CHOICE, DEDUCED). -/
def FioCh.fresh (par : List Nat) (at_ : Nat) : FioCh :=
  let c : FioCh := ⟨par, false, false, none, 0, none, false, false⟩
  { c with nextAt := c.firstAt at_ }

/-- FIO_CHnnn_CFG. -/
def State.showFioCfg (s : State) (n : Nat) (c : FioCh) : State :=
  let s := ((s.wr (FIO_CH_CFG_MODE n) c.mode).wr (FIO_CH_CFG_SRC n) (bit c.src)).wr (FIO_CH_CFG_FOL n) (bit c.fol)
  let s := ((s.wr (FIO_CH_CFG_CHG n) (bit c.chg)).wr (FIO_CH_CFG_WAKE n) (bit c.wake)).wr (FIO_CH_CFG_FILT n) (c.fld 2 24 4)
  (s.wr (FIO_CH_CFG_TENANT n) c.tenant).wr (FIO_CH_CFG_OPH n) (if c.fol then c.oph else 0)

/-- The field channels of the new image at X (R247); a new channel's first input update is 1 ms after X. -/
def State.exchangeFio (s : State) : State :=
  let old := s.fio.chans
  let new := s.fio.next
  let now := s.ltu.now
  let ms := s.laOf 1000000
  let kept := fun (x : Nat × List Nat) => old.find? fun o => o.1 == x.1 &&
    o.2.mode == fioFld x.2 0 16 8 && o.2.tenant == fioFld x.2 0 24 6
  let gone := old.filter fun o => !(new.any fun x => x.1 == o.1 && (kept x).isSome)
  let s := gone.foldl (fun s o => (s.release o.1).clearRange (0x40051000 + 16 * o.1) 12) s
  let chan := fun (x : Nat × List Nat) => match kept x with
    | some o =>
      let c : FioCh := { o.2 with par := x.2 }
      (x.1, { c with nextAt := c.firstAt now })
    | none => (x.1, FioCh.fresh x.2 (now + ms))
  let s := s.onFio fun p => { p with next := [], chans := new.map chan }
  let s := s.fio.chans.foldl (fun s x => s.showFioCfg x.1 x.2) s
  s.countLatched

/-! ## Field buses -/

/-- FBE_Pnn_CFG of a declared port. -/
def State.showBusCfg (s : State) (n : Nat) (p : BusPort) : State :=
  let s := ((s.raise (FBE_P_CFG_EN n)).wr (FBE_P_CFG_TYPE n) (portType n)).wr (FBE_P_CFG_MODE n) p.mode
  let s := s.wr (FBE_P_CFG_WINS n) (flagsOf (p.wins.map fun w => (w.win, true)))
  let s := s.wr (FBE_P_CFG_TENANT n) p.tenant
  let s := s.wr (FBE_P_CFG_TERM n) (if portType n = 0 then p.fld 3 20 1 else if portType n = 1 then p.fld 2 26 1 else 0)
  if portType n = 0 then (s.wr (FBE_P_CFG_WAKE n) p.wake).wr (FBE_P_CFG_BOREC n) (bit p.borec) else s

/-- A port that starts: a CAN port integrates first. Log entry 11 (DESIGN CHOICE, DEDUCED, PRESUMED). -/
def State.startPort (s : State) (n : Nat) : State :=
  let s := s.wr (FBE_P_CFG_TXEN n) (s.rd FIO_STAT_OUT_EN)
  if portType n = 0 then s.busState n bsIDLE else s.portUp n

/-- The bus ports and objects of the new image at X (R283). -/
def State.exchangeBuses (s : State) : State :=
  let oldP := s.fbe.ports
  let oldO := s.fbe.objs
  let new := s.fbe.next
  let keepP := fun (x : Nat × BusPort) => oldP.find? fun o => o.1 == x.1 && o.2.par == x.2.par
  let keepO := fun (x : Nat × BusObj) => oldO.find? fun o =>
    o.1 == x.1 && o.2.port == x.2.port && o.2.kind == x.2.kind && o.2.tenant == x.2.tenant
  let s := (oldP.filter fun o => !(new.ports.any fun x => x.1 == o.1 && (keepP x).isSome)).foldl
    (fun s o => s.clearRange (0x40061000 + 64 * o.1) 64) s
  let s := (oldO.filter fun o => !(new.objs.any fun x => x.1 == o.1 && (keepO x).isSome)).foldl
    (fun s o => s.clearRange (0x40068000 + 4 * o.1) 4) s
  let ports := new.ports.map fun x => match keepP x with
    | none => x
    | some o =>
      let win := fun (w : BusWin) => match o.2.wins.find? fun v => v.win == w.win && v.par == w.par with
        | some v => v
        | none => w
      let stays := fun (t : BusTx) => new.objs.any fun y => y.1 == t.obj && (keepO y).isSome
      (x.1, { o.2 with
        wrec := x.2.wrec, wins := x.2.wins.map win, queue := o.2.queue.filterMap fun t =>
          if stays t then some t else if t.start.isSome then some { t with obj := 4096, again := none } else none
        awaits := o.2.awaits.filter fun a => new.objs.any fun y => y.1 == a.1 && (keepO y).isSome })
  let objs := new.objs.map fun x => match keepO x with
    | some o => (x.1, { o.2 with par := x.2.par, record := x.2.record })
    | none => (x.1, { x.2 with matchCyc := s.cyc })
  let s := s.onFbe fun _ => ⟨ports, objs, ⟨[], []⟩⟩
  let s := (new.ports.filter fun x => (keepP x).isNone).foldl (fun s x => s.startPort x.1) s
  let s := ports.foldl (fun s x => (s.showBusCfg x.1 x.2).showQueue x.1) s
  let s := objs.foldl (fun s x =>
    let s := s.wr (FBE_OBJ_STAT_PORT x.1) x.2.port
    if s.rd (FBE_OBJ_STAT_STATE x.1) = 0 then s.objState x.1 1 else s) s
  (s.wr FBE_STAT_OBJ objs.length).wr FBE_STAT_PORTS ports.length

end Sys2Proof.Machine
end

