-- ==== Sys2Proof/Machine/ChkOps.lean ====
section
/-! DEFINITION. The loader's judgement of an image after its directives: signature, calls of tasks, cells, points, and what
each block demands of its declarations (R78, R115, R116, R120, R124, R170, R171, R183, R201, R222, R236, R260, R319, R345). -/

namespace Sys2Proof.Machine

/-! ## Signature (R124) -/

/-- The image key: of tenant 0, with the verify usage, not orphaned. -/
def State.imageKey (s : State) : Option KeySlot :=
  match s.boundKey (Config.imageKeySlot s.cfg.sets) 5 [3] with
  | .ok k => if k.tenant = 0 then some k else none
  | .error _ => none

/-- Step 2 of R133. -/
def State.checkSignature (s : State) (im : Image) : Check :=
  let good : Bool := match s.imageKey with
    | some k => Config.ecdsaVerify k.material im.signed im.sig
    | none => false
  demand good (refusal 0x0482 5 0)

/-! ## Calls of tasks and privilege (R111, R120) -/

/-- A refusal that concerns a task and a code word. -/
def inTask (code task pc a : Nat) : LoadFault := ⟨code, 2, task, pc, a, 0⟩

/-- The task directives, each with its number, its tenant and the words it reaches. -/
structure TaskCode where
  task : Nat
  tenant : Nat
  words : List CodeWord
deriving DecidableEq, Repr
def Loaded.codes (L : Loaded) : List TaskCode :=
  (L.of dTASK).map fun d => ⟨d.fld 0 16 5, d.ten, L.im.reachWords (d.fld 3 0 12)⟩

/-- Calls nest at most 8 deep from the entry routine of a task. -/
def Loaded.checkDepth (L : Loaded) : Check :=
  firstFault ((L.of dTASK).map fun d =>
    demand (match L.im.depth (d.fld 3 0 12) with | some n => decide (n ≤ 8) | none => false) (inTask 0x0486 (d.fld 0 16 5) 0 0))

/-- SLEEP is not reachable from a task of another tenant than 0. -/
def Loaded.checkPriv (L : Loaded) : Check :=
  firstFault (L.codes.map fun t =>
    if t.tenant = 0 then none
    else (t.words.find? fun c => wOP c.w == 0x0B).map fun c => inTask 0x048B t.task c.pc 0)

/-! ## Cells (R116) -/

/-- The cell that a word names: kind (0 timer, 1 edge) and index. -/
def cellOf (w : Nat) : Option (Nat × Nat) :=
  if 0x70 ≤ wOP w ∧ wOP w ≤ 0x73 then some (0, w % 4096) else if wOP w = 0x74 then some (1, w % 4096) else none

/-- A CELL directive shares its index or its identifier with one before it, of the same kind. -/
def cellTwice (before : List Directive) : List Directive → Option Directive
  | [] => none
  | d :: t =>
    if before.any fun b => b.fld 0 31 1 == d.fld 0 31 1 && (b.fld 0 0 12 == d.fld 0 0 12 || b.word 1 == d.word 1) then some d
    else cellTwice (before ++ [d]) t

/-- The task that uses a cell, the lowest-numbered first. -/
def Loaded.cellTask (L : Loaded) (cell : Nat × Nat) : Option Nat :=
  (L.codes.find? fun t => t.words.any fun c => cellOf c.w == some cell).map fun t => t.task

/-- Step 7 of R133. -/
def Loaded.checkCells (L : Loaded) : Check :=
  let cells := L.dirs.filter fun d => d.kind == dCELL
  let declared := fun (k : Nat × Nat) => cells.any fun d => d.fld 0 31 1 == k.1 && d.fld 0 0 12 == k.2
  let uses := L.im.scan.filterMap fun c => if c.table then none else (cellOf c.w).map fun k => (c.pc, k)
  firstFault ([
    (cellTwice [] cells).map fun d => ⟨0x0488, 1, 255, d.at_, d.fld 0 0 12, 0⟩,
    (uses.find? fun u => !declared u.2).map fun u => ⟨0x0488, 2, 255, u.1, u.2.2, 0⟩] ++
    L.codes.map fun t => (t.words.find? fun c => match cellOf c.w with
      | some k => L.cellTask k != some t.task
      | none => false).map fun c => inTask 0x0488 t.task c.pc (c.w % 4096))

/-! ## Points (R70 to R78, R115) -/

/-- A refusal of a setup declaration, with its detail. -/
def inSetup (code a : Nat) : LoadFault := ⟨code, 1, 255, 0, a, 0⟩

/-- The tenant of a source that the image declares (R71). -/
def Loaded.sourceTenant (L : Loaded) (kind idx : Nat) : Option Nat :=
  let of := fun (k : Nat) (key : Directive → Nat) => (L.dirs.find? fun d => d.kind == k && key d == idx).map Directive.ten
  match kind with
  | 1 => of dFIO Directive.idx
  | 3 => of dLOOP Directive.idx
  | 4 => of dTASK fun d => d.fld 0 16 5
  | 5 => of dBUSNODE Directive.idx
  | 7 => of dSUBSCR Directive.idx
  | _ => none

/-- The first handle, ascending, at which `seen` points of its owner exceed the quota (R77). -/
def Loaded.overQuota (L : Loaded) (s : State) : List Nat → List (Nat × PointDef) → Option Nat
  | _, [] => none
  | seen, (h, d) :: t =>
    if L.quota s d.owner < (seen.filter fun o => o == d.owner).length + 1 then some h else L.overQuota s (d.owner :: seen) t

/-- The definitions themselves. -/
def Loaded.checkDefs (L : Loaded) (s : State) : Check :=
  let bad := (L.of dPOINT).find? fun d => d.point.isNone
  let alien := L.points.find? fun p => match L.sourceTenant p.2.srcKind p.2.srcIndex with
    | some t => t != p.2.owner
    | none => false
  firstFault [bad.map fun d => inSetup 0x0382 (d.fld 0 0 13), alien.map fun p => inSetup 0x0383 p.1,
    (L.overQuota s [] L.points).map fun h => inSetup 0x0385 h]

/-- One PWR: the element, then the source of its point. -/
def Loaded.checkPwr (L : Loaded) (task : Option Nat) (c : CodeWord) : Check :=
  let h := wHANDLE c.w
  let bad := fun (code : Nat) => inTask code (task.getD 255) c.pc h
  match L.point h with
  | none => firstFault [demand (decide (wELEM c.w ≤ 1)) (bad 0x048A), some (bad 0x0489)]
  | some d => firstFault [demand (decide (wELEM c.w ≤ 1)) (bad 0x048A),
      demand (d.srcKind != 4 || task.isNone || task == some d.srcIndex) (bad 0x0381), demand (d.srcKind == 4) (bad 0x0489)]

/-- The references of a task's code. -/
def Loaded.checkRefs (L : Loaded) (t : TaskCode) : Check :=
  let word := fun (c : CodeWord) =>
    if wOP c.w = 0x61 then L.checkPwr (some t.task) c
    else if wOP c.w = 0x60 then demand (L.mayRead t.tenant (wHANDLE c.w)) (inTask 0x0384 t.task c.pc (wHANDLE c.w))
    else none
  let count := fun (op : Nat) => ((t.words.filter fun c => wOP c.w == op).map fun c => wHANDLE c.w).eraseDups.length
  firstFault (t.words.map word ++ [demand (decide (count 0x60 ≤ 2048)) ⟨0x048D, 1, t.task, 0, 0, 0⟩,
    demand (decide (count 0x61 ≤ 1024)) ⟨0x0386, 1, t.task, 0, 0, 0⟩])

/-- The points of step 8 of R133. -/
def Loaded.checkPoints (L : Loaded) (s : State) : Check :=
  firstFault ([L.checkDefs s] ++ L.codes.map L.checkRefs ++
    (L.im.scan.filter fun c => !c.table && wOP c.w == 0x61).map (L.checkPwr none))

/-! ## Data as it will stand (R162) -/

/-- Two blocks match: identifier, tenant, offset and size agree. -/
def sameBlock (a b : DataInfo) : Bool := a.id == b.id && a.ten == b.ten && a.off == b.off && a.size == b.size

/-- A byte of the initial data; the last record that covers it counts. -/
def Image.initByte (im : Image) (a : Nat) : Byte :=
  im.datas.foldl (fun b r => if r.1 ≤ a ∧ a < r.1 + r.2.length then r.2.getD (a - r.1) 0 else b) 0

/-- A byte of the data image as it will stand: present contents in a matched block, else zeros under the initial data. -/
def Loaded.byteAt (L : Loaded) (s : State) (old : List DataInfo) (a : Nat) : Byte :=
  match L.blocks.find? fun b => b.holds a with
  | some b => if old.any (sameBlock b) then s.byte (dataBase + a) else L.im.initByte a
  | none => 0

/-- A record of `n` bytes that lies in one block of its tenant. -/
def Loaded.record (L : Loaded) (s : State) (old : List DataInfo) (ten off n : Nat) : Option (List Byte) :=
  if L.blocks.any fun b => b.ten == ten && b.holds off && b.holds (off + n - 1) then
    some ((List.range n).map fun k => L.byteAt s old (off + k))
  else none

/-! ## Loops (R170, R171, R183) -/

/-- A point of a type. -/
def Loaded.typed (L : Loaded) (h : Nat) (t : PType) : Bool := match L.point h with | some d => d.type == t | none => false

/-- A point sourced by `idx` of a kind. -/
def Loaded.fed (L : Loaded) (h kind idx : Nat) : Bool :=
  match L.point h with | some d => d.srcKind == kind && d.srcIndex == idx | none => false

/-- The mode of the FIO channel that sources a point. -/
def Loaded.chanMode (L : Loaded) (h : Nat) : Nat :=
  match L.point h with
  | some d => if d.srcKind = 1 then
      (match L.dirs.find? fun x => x.kind == dFIO && x.idx == d.srcIndex with | some x => x.mode | none => 0) else 0
  | none => 0

/-- A loop of the image with its record as it will be copied. -/
def Loaded.loopDecl (L : Loaded) (s : State) (old : List DataInfo) (d : Directive) : LoopDecl :=
  let n := if d.idx < 64 then 48 else 96
  ⟨d.params, ((wordsOf ((L.record s old d.ten (d.word 5) n).getD [])).map fun w => BitVec.ofNat 32 w)⟩
def Loaded.loops (L : Loaded) (s : State) (old : List DataInfo) : List (Nat × LoopDecl) :=
  (L.of dLOOP).map fun d => (d.idx, L.loopDecl s old d)

/-- Not below, over REAL32 values. -/
def fLe (a b : Word) : Bool := fLt a b || fEq a b
def fNonNeg (a : Word) : Bool := fLe 0 a

/-- R170. -/
def LoopDecl.paramsOk (d : LoopDecl) : Bool :=
  let regions := if d.isZone then [0, 1, 2, 3] else [0]
  d.record.length == (if d.isZone then 24 else 12) &&
  ([d.omin, d.omax, d.osafe, d.oman, d.spc, d.sprate] ++ d.record).all isFinite &&
  fLt d.omin d.omax && fLe d.omin d.osafe && fLe d.osafe d.omax && fLe d.omin d.oman && fLe d.oman d.omax &&
  fLe d.spmin d.spmax && fLe d.spmin d.spc && fLe d.spc d.spmax && fNonNeg d.sprate && fNonNeg d.hyst &&
  (regions.all fun r => fNonNeg ((d.gains r).getD 3 0)) && (!d.isZone || (fLe (d.bp 1) (d.bp 2) && fLe (d.bp 2) (d.bp 3)))

/-- R171. -/
def Loaded.loopPoints (L : Loaded) (d : LoopDecl) : Bool :=
  L.typed d.out .real32 && L.fed d.out 3 d.loop && L.typed d.pv .real32 &&
  (d.svsel != 2 || L.typed d.svh .real32) && ((d.spsrc != 1 && d.spsrc != 2) || L.typed d.sph .real32) &&
  (d.spsrc != 2 || [fmAIV, fmAII, fmRTD].contains (L.chanMode d.sph)) &&
  (d.spsrc != 3 || (L.typed d.sph .uint32 && L.chanMode d.sph == fmPULSE))

/-- The points that a loop reads. -/
def LoopDecl.readsOf (d : LoopDecl) : List Nat :=
  d.pv :: (if d.spsrc = 0 then [] else [d.sph]) ++ (if d.svsel = 2 then [d.svh] else [])

/-- One loop, then its group when it is the head (R183). -/
def Loaded.checkLoops (L : Loaded) (s : State) (old : List DataInfo) : Check :=
  let ls := L.loops s old
  let one := fun (x : Nat × LoopDecl) => firstFault ([
    demand x.2.paramsOk (inSetup 0x0681 x.1), demand (L.loopPoints x.2) (inSetup 0x0684 x.1)] ++
    x.2.readsOf.map fun h => demand (L.mayRead x.2.tenant h) (inSetup 0x0384 h))
  let group := fun (g : Nat) =>
    let ms := ls.filter fun x => x.2.gen && x.2.group == g
    match ms.head? with
    | none => none
    | some h => demand (decide (ms.length ≤ 8) && ms.all fun m => m.2.frac == h.2.frac && m.2.per == h.2.per &&
        m.2.site == h.2.site && m.2.angle == h.2.angle && m.2.tenant == h.2.tenant) (inSetup 0x0682 h.1)
  firstFault (ls.map one ++ (List.range 16).map group)

/-! ## Meters (R201, R222) -/

/-- A channel of the image with its record as it will be copied. -/
def Loaded.meterDecl (L : Loaded) (s : State) (old : List DataInfo) (d : Directive) : MeterDecl :=
  ⟨d.params, if d.mode = 0 then
    (wordsOf ((L.record s old d.ten (d.word 5) 128).getD [])).map fun w => BitVec.ofNat 32 w else []⟩
def Loaded.meters (L : Loaded) (s : State) (old : List DataInfo) : List MeterDecl := (L.of dMETER).map (L.meterDecl s old)

/-- DETAIL_A of a channel. -/
def MeterDecl.detail (d : MeterDecl) : Nat := if d.kind = 0 then d.chan else 48 + d.chan

/-- A value lies in a closed range. -/
def inRange (lo hi w : Word) : Bool := isFinite w && fLe lo w && fLe w hi

/-- MT_PARAM. 0.5, 2.0, −5.0 and 5.0 as REAL32. -/
def MeterDecl.paramsOk (d : MeterDecl) : Bool :=
  let gain := inRange 0x3F000000 0x40000000
  let phase := inRange 0xC0A00000 0x40A00000
  isFinite d.scale && fLt 0 d.scale &&
  if d.kind = 0 then
    isFinite d.noload && fNonNeg d.noload && d.record.length == 32 && (d.record.take 16).all gain && (d.record.drop 16).all phase
  else d.tenant == 0 && gain (d.real 4) && phase (d.real 5)

/-- The channel and type of a quantity (Tables 7-3 and 7-4): kind, channel, type. -/
def quantity (q : Nat) : Option (Nat × Nat × PType) :=
  if q < 3072 then
    if q % 64 ≤ 11 then some (0, q / 64, .uint32) else if 16 ≤ q % 64 ∧ q % 64 ≤ 25 then some (0, q / 64, .real32) else none
  else if q < 3072 + 16 * 12 ∧ q % 16 ≤ 4 then some (1, (q - 3072) / 16, .real32) else none

/-- A point of SRC_KIND 2 that R222 admits. -/
def quantityOk (ms : List MeterDecl) (p : PointDef) : Bool :=
  match quantity p.srcIndex with
  | some (k, n, t) => p.type == t && ms.any fun d => d.kind == k && d.chan == n && d.tenant == p.owner
  | none => false

/-- The lowest of some handles. -/
def lowest : List Nat → Option Nat
  | [] => none
  | h :: t => match lowest t with | some k => some (min h k) | none => some h

/-- The meter key of a channel, and the slot that the channels of its tenant before it name. -/
def State.meterKeyOk (s : State) (ms : List MeterDecl) (d : MeterDecl) : Bool :=
  (match s.key d.rslot with
    | some k => k.type == 2 && k.usage.testBit 6 && k.tenant == d.tenant
    | none => false) &&
  ms.all fun e => !(e.kind == 0 && e.rep && e.tenant == d.tenant && decide (e.chan < d.chan)) || e.rslot == d.rslot

/-- The reference phase that the image gives LTU_CFG (R40, R67): without a LINE directive VS0. -/
def Loaded.refPhase (L : Loaded) : Nat := match L.dirs.find? fun d => d.kind == dLINE with | some d => d.fld 0 16 4 | none => 0

/-- The families of R222 and R201, in their order. -/
def Loaded.checkMeters (L : Loaded) (s : State) (old : List DataInfo) : Check :=
  let ms := L.meters s old
  let cs := ms.filter fun d => d.kind == 0
  let badPoints := (L.points.filter fun p => p.2.srcKind == 2 && !quantityOk ms p.2).map fun p => p.1
  let badTemps := (cs.filter fun d => d.tsel == 1 && !(L.typed d.thandle .real32 && L.mayRead d.tenant d.thandle)).map
    MeterDecl.thandle
  let isVs := fun (k : Nat) => ms.any fun d => d.kind == 1 && d.chan == k
  firstFault (ms.map (fun d => demand d.paramsOk (inSetup 0x0781 d.detail)) ++
    [(lowest (badPoints ++ badTemps)).map fun h => inSetup 0x0782 h] ++
    cs.map (fun d => demand (!d.rep || s.meterKeyOk ms d) (inSetup 0x0783 d.chan)) ++
    cs.map (fun d => demand (!d.rep || decide (256 ≤ d.n)) (inSetup 0x0784 d.chan)) ++
    [demand (isVs L.refPhase) (inSetup 0x0785 (48 + L.refPhase))] ++
    cs.map fun d => demand (isVs d.vch) (inSetup 0x0785 d.chan))

/-! ## Field I/O (R236) -/

/-- The point type of a mode (Table 8-1). -/
def chanType (m : Nat) : PType := if m = fmDI ∨ m = fmDO then .bool else if m = fmPULSE then .uint32 else .real32

/-- The largest FILT, the OPT bits and the largest SAFE of a mode (Tables 8-2 and 8-3). -/
def chanFilt (m : Nat) : Nat := if m = fmDI then 15 else if m = fmAIV ∨ m = fmAII then 12 else if m = fmRTD then 7 else 0
def chanOpt (m : Nat) : Nat :=
  match m with | 1 => 3 | 2 => 1 | 3 => 4 | 4 => 5 | 7 => 31 | 8 => 1 | _ => 0
def chanSafe (m : Nat) : Nat := match m with | 2 => 1 | 5 => 10000 | 6 => 21000 | _ => 0

/-- FIO_PARAM of one channel. -/
def Loaded.chanOk (L : Loaded) (d : Directive) : Bool :=
  let c : FioCh := ⟨d.params, false, false, none, 0, none, false, false⟩
  let m := c.mode
  let ins : Bool := [fmDI, fmAIV, fmAII, fmRTD, fmPULSE].contains m
  decide (1 ≤ m) && decide (m ≤ 8) && (!ins || c.src) && c.fol == isOutMode m &&
  (c.src || c.fld 1 16 13 == 0) && (c.fol || c.oph == 0) &&
  (if c.src then perOk c.frac c.per else c.frac == 0 && c.per == 0 && c.angle == 0) &&
  (m == fmDI || (!c.chg && !c.wake)) && decide (c.fld 2 24 4 ≤ chanFilt m) && (c.opt ||| chanOpt m) == chanOpt m &&
  decide (c.safe ≤ chanSafe m) && (m != fmRTD || (decide (c.opt % 16 ≤ 2) && (!c.opt.testBit 4 ||
    (d.idx % 2 == 0 && !(L.dirs.any fun e => e.kind == dFIO && e.idx == d.idx + 1)))))

/-- FIO_POINT of one channel. -/
def Loaded.chanPoints (L : Loaded) (d : Directive) : Bool :=
  let c : FioCh := ⟨d.params, false, false, none, 0, none, false, false⟩
  let ph := c.fld 1 16 13
  (!c.src || (L.typed ph (chanType c.mode) && L.fed ph 1 d.idx)) &&
  (!c.fol || (L.typed c.oph (chanType c.mode) && L.mayRead c.tenant c.oph))

/-- The families of R236, in their order. -/
def Loaded.checkFio (L : Loaded) : Check :=
  let cs := L.of dFIO
  let wakes := cs.filter fun d => d.fld 2 28 1 == 1
  let outs := fun (b : Nat) => cs.filter fun d => d.idx / 32 == b && (d.mode == fmAOV || d.mode == fmAOI)
  firstFault (cs.map (fun d => demand (L.chanOk d) (inSetup 0x0881 d.idx)) ++
    [(wakes[16]?).map fun d => inSetup 0x0881 d.idx] ++
    cs.map (fun d => demand (L.chanPoints d) (inSetup 0x0882 d.idx)) ++
    (List.range 8).map fun b => ((outs b)[16]?).map fun d => inSetup 0x0883 d.idx)

/-! ## Field buses (R253 to R260) -/

/-- A port, a window and an object of the image. -/
def Loaded.busPort (L : Loaded) (s : State) (old : List DataInfo) (d : Directive) : BusPort :=
  let wins := (L.of dBUSWIN).filter fun w => w.idx / 8 == d.idx
  let wrec := if d.idx < 10 ∧ d.fld 3 22 2 = 2 then (L.record s old d.ten (d.word 5) 24).getD [] else []
  ⟨d.params, wrec, wins.map fun w => ⟨w.idx % 8, w.params, none⟩, [], none, 0, false, false⟩
def Loaded.busObj (L : Loaded) (s : State) (old : List DataInfo) (d : Directive) : BusObj :=
  ⟨d.params, (L.record s old d.ten (d.word 3) 96).getD [], none, 0, 0, false⟩
def Loaded.busDecl (L : Loaded) (s : State) (old : List DataInfo) : BusDecl :=
  ⟨(L.of dBUSPORT).map fun d => (d.idx, L.busPort s old d), (L.of dBUSNODE).map fun d => (d.idx, L.busObj s old d)⟩

/-- FB_PARAM of a port (Table 9-3, R255). -/
def BusPort.paramsOk (n : Nat) (p : BusPort) : Bool :=
  match portType n with
  | 0 => (p.mode == 1 || p.mode == 2) && decide (1 ≤ p.fld 1 16 8) && decide (1 ≤ p.fld 1 8 7) &&
      decide (p.fld 1 0 7 ≤ p.fld 1 8 7) && decide (p.fld 2 0 4 ≤ p.fld 2 8 4) && decide (p.wake ≤ 2) &&
      (if p.wake = 2 then p.wrec.length == 24 && decide (bitsOf (leAt p.wrec 0 4) 0 4 ≤ 8)
       else p.par.getD 4 0 == 0 && p.par.getD 5 0 == 0)
  | 1 => p.mode == 1 && decide (300 ≤ p.par.getD 1 0) && decide (p.par.getD 1 0 ≤ 10000000) && decide (p.fld 2 30 2 ≤ 1) &&
      decide (p.fld 2 28 2 ≤ 2) && decide (3 ≤ p.fld 2 16 8) && decide (p.fld 2 16 8 ≤ 16) && decide (1 ≤ p.fld 2 8 8)
  | _ => p.mode == 1

/-- The payload length fits the port (Table 9-5). -/
def BusObj.lenOk (o : BusObj) : Bool :=
  match portType o.port with
  | 0 => (decide (o.len ≤ 8) || [12, 16, 20, 24, 32, 48, 64].contains o.len) && (decide (o.len ≤ 8) || o.ident.testBit 30)
  | 1 => decide (1 ≤ o.len) && decide (o.len ≤ 64)
  | _ => o.len == 0

/-- IDENT fits the port (Table 9-4). -/
def BusObj.identOk (o : BusObj) : Bool :=
  match portType o.port with
  | 0 => o.ident.testBit 31 || bitsOf o.ident 11 18 == 0
  | 1 => o.ident == 0
  | _ => (bitsOf o.ident 30 2 == 1 || bitsOf o.ident 30 2 == 2) && bitsOf o.ident 24 6 == 0

/-- FB_PARAM of an object (Tables 9-2, 9-4 and 9-5). -/
def BusObj.paramsOk (B : BusDecl) (o : BusObj) : Bool :=
  let t := portType o.port
  let query := o.kind == okQUERY
  decide (o.port ≤ 27) && (o.kind == okRX || o.kind == okTX || (query && t != 0)) &&
  (match B.ports.find? fun p => p.1 == o.port with | some p => p.2.tenant == o.tenant | none => false) &&
  (o.kind != okRX || o.win == 0) && o.identOk && o.par.getD 3 0 % 4 == 0 && o.record.length == 96 &&
  (o.kind == okRX || o.mask == 0) && decide (o.wid ≤ 32) && decide (o.fmt ≤ 2) && !(zeroPattern o.scale) && o.lenOk &&
  (if query && t == 1 then o.resp != 0 else o.resp == 0) && leAt o.record 0x18 8 == 0 &&
  (t != 2 || (decide (1 ≤ o.flags / 16 % 8) && decide (o.flags / 16 % 8 ≤ 5))) && !(query && o.twice) &&
  (!o.be || (o.ofs % 8 == 0 && o.wid % 8 == 0)) && (o.fmt != 2 || o.wid == 32) &&
  decide (o.ofs + o.wid ≤ (if t = 2 then o.daliBits else 8 * o.len))

/-- FB_BITRATE of a CAN port: rates are 80 MHz over the product of prescaler and bit length. -/
def BusPort.rateOk (n : Nat) (p : BusPort) : Bool :=
  let nom := (p.fld 1 24 8 + 1) * (p.fld 1 16 8 + p.fld 1 8 7 + 3)
  let data := (p.fld 2 24 5 + 1) * (p.fld 2 16 5 + p.fld 2 8 4 + 3)
  portType n != 0 || (decide (80 ≤ nom) && (p.mode != 2 || (decide (16 ≤ data) && decide (data ≤ nom) &&
    (decide (80 ≤ data) || p.fld 3 31 1 == 1))))

/-- The bytes that an object puts on an RS-485 line. -/
def BusObj.size (o : BusObj) : Nat := o.len + (if o.crc then 2 else 0)

/-- FB_WINDOW of a window. -/
def BusDecl.windowOk (B : BusDecl) (n : Nat) (p : BusPort) (w : BusWin) : Bool :=
  w.len == 0 || (match portType n with
    | 0 => true
    | 1 => (B.objs.filter fun o => o.2.port == n && o.2.kind != okRX && o.2.win == w.win).all fun o =>
        decide (p.frameNs o.2 (List.replicate o.2.size 0) * 4326400 ≤ w.len * 1000000000)
    | _ => false)

/-- FB_POINT of an object. -/
def Loaded.objPoint (L : Loaded) (n : Nat) (o : BusObj) : Bool :=
  (o.fmt != 2 || L.typed o.ph .real32) &&
  if o.kind = okTX then L.mayRead o.tenant o.ph
  else L.fed o.ph 5 n && (portType o.port != 2 || o.kind != okQUERY || L.typed o.ph .uint32)

/-- Some items with a weight, pairwise compatible, exceed a limit together. -/
def overload {α : Type} (ok : α → α → Bool) (weight : α → Nat) (limit : Nat) : List α → Nat → List α → Bool
  | _, acc, [] => decide (limit < acc)
  | chosen, acc, x :: t =>
    decide (limit < acc + weight x + (t.map weight).sum) &&
    ((chosen.all (ok x) && overload ok weight limit (x :: chosen) (acc + weight x) t) || overload ok weight limit chosen acc t)

/-- One frame can match both receive objects of a port: they agree in every bit that both masks hold. -/
def BusObj.together (a b : BusObj) : Bool :=
  let key := fun (o : BusObj) => if portType o.port = 1 then leNat (o.template.take 4) else
    o.ident % 2 ^ (if portType o.port = 0 then 29 else 24)
  (portType a.port == 1 || a.ident / 2 ^ 30 == b.ident / 2 ^ 30) && (key a ^^^ key b) &&& (a.mask &&& b.mask) == 0

/-- The families of R260, each in ascending port, window and object. -/
def Loaded.checkBuses (L : Loaded) (s : State) (old : List DataInfo) : Check :=
  let B := L.busDecl s old
  let wins := L.of dBUSWIN
  let portOf := fun (n : Nat) => (B.ports.find? fun p => p.1 == n).map fun p => p.2
  let objsOf := fun (n : Nat) => B.objs.filter fun o => o.2.port == n
  let declared := fun (o : BusObj) => wins.any fun w => w.idx == 8 * o.port + o.win
  let senders := fun (w : Directive) => B.objs.filter fun o => o.2.kind != okRX && 8 * o.2.port + o.2.win == w.idx
  firstFault (
    B.ports.map (fun p => demand (p.2.paramsOk p.1) (inSetup 0x0981 p.1)) ++
    wins.map (fun w => demand (match portOf (w.idx / 8) with | some p => p.tenant == w.ten | none => true)
      (inSetup 0x0981 w.idx)) ++
    B.objs.map (fun o => demand (o.2.paramsOk B) (inSetup 0x0981 (4096 + o.1))) ++
    (List.range 28).map (fun n => ((objsOf n)[512]?).map fun o => inSetup 0x0986 (4096 + o.1)) ++
    wins.map (fun w => ((senders w)[256]?).map fun o => inSetup 0x0986 (4096 + o.1)) ++
    B.ports.map (fun p => demand (p.2.rateOk p.1) (inSetup 0x0982 p.1)) ++
    wins.map (fun w => demand (match portOf (w.idx / 8) with
      | some p => B.windowOk (w.idx / 8) p ⟨w.idx % 8, w.params, none⟩
      | none => true) (inSetup 0x0983 w.idx)) ++
    B.objs.map (fun o => demand (o.2.kind == okRX || declared o.2) (inSetup 0x0983 (4096 + o.1))) ++
    B.objs.map (fun o => demand (L.objPoint o.1 o.2) (inSetup 0x0984 (4096 + o.1))) ++
    B.ports.map fun p => demand (!(overload BusObj.together (fun _ => 1) 16 [] 0
      (((objsOf p.1).filter fun o => o.2.kind == okRX).map fun o => o.2))) (inSetup 0x0985 p.1))

/-! ## Subscriptions and the pair (R319, R345) -/

/-- The families of R319. -/
def Loaded.checkSubs (L : Loaded) (s : State) : Check :=
  let ds := L.of dSUBSCR
  let sub := fun (d : Directive) => (⟨d.params, 0, 0⟩ : Subscr)
  let param := fun (b : Subscr) => decide (b.mode ≤ 1) && decide (b.raddr ≤ 4095) && decide (1 ≤ b.per) && decide (4 ≤ b.tmo) &&
    decide (2 * b.per ≤ b.tmo) && decide (1 ≤ b.key) && b.raddr != s.rd NET_ADDR_MADDR
  let key := fun (b : Subscr) => s.on (NET_KEY_EN b.key) && match s.key (s.rd (NET_KEY_SLOT b.key)) with
    | some k => k.tenant == b.tenant
    | none => false
  firstFault (ds.map (fun d => demand (param (sub d)) (inSetup 0x0A81 d.idx)) ++
    ds.map (fun d => demand (L.fed (sub d).ph 7 d.idx) (inSetup 0x0A82 d.idx)) ++
    ds.map fun d => demand (key (sub d)) (inSetup 0x0A83 d.idx))

/-- R345. -/
def Loaded.checkPair (L : Loaded) : Check :=
  firstFault ((L.dirs.filter fun d => d.kind == dPAIR).map fun d =>
    demand (d.word 0 == 0 && only 0x0F00FFFF (d.word 1)) (inSetup 0x0B81 0))

/-- Steps 5 to 8 of R133. -/
def Loaded.checkDeclared (L : Loaded) (s : State) (old : List DataInfo) : Check :=
  firstFault [L.im.checkStructure, L.checkDepth, L.checkPriv, L.im.checkLink, L.checkCells, L.checkPoints s,
    L.checkLoops s old, L.checkMeters s old, L.checkFio, L.checkBuses s old, L.checkSubs s, L.checkPair]

end Sys2Proof.Machine
end

