-- ==== Sys2Proof/Machine/PlkOps.lean ====
section
/-! DEFINITION. The redundant pair: claims and releases of control, planned switch-over, the pair link and the application
of mirrored items (R325 to R343). -/

namespace Sys2Proof.Machine

/-! ## States (Table 11-1) -/

def psSTARTING : Nat := 1
def psRESYNC : Nat := 2
def psSYNCED : Nat := 3
def psCONTROL : Nat := 4

/-- The module belongs to a pair. -/
def State.paired (s : State) : Bool := s.rd PLK_STAT_ROLE != 0

/-- The last change of control shown (PLK_SWO registers). -/
def State.noteChange (s : State) (kind cause ns : Nat) : State :=
  let s := (s.onPlk fun p => { p with changed := s.ltu.now }).wr PLK_SWO_LO_T_LO s.ltu.now
  ((s.wr PLK_SWO_CAUSE_KIND kind).wr PLK_SWO_CAUSE_CAUSE cause).wr PLK_SWO_CAUSE_TKO_NS ns

/-- RESYNC entered: synchronisation begins anew (R341). -/
def State.enterResync (s : State) : State :=
  (((s.wr PLK_STAT_STATE psRESYNC).wr PLK_STAT_HOLD_REM 0).lower PLK_STAT_SWO_PEND).onPlk fun p => { p with
    asked := false, ends := 0, imgNoted := false, cfgNoted := false, phaseNoted := false, rows := [], outs := []
    go := false, atX := false }

/-- SYNCED entered (R333, R341). -/
def State.enterSynced (s : State) : State :=
  let s := (s.wr PLK_STAT_STATE psSYNCED).wr PLK_STAT_HOLD_REM (s.rd PLK_CFG_HOLDOFF)
  ((s.onPlk fun p => { p with reclaimed := false, leaving := false, dualOff := false }).raise PLK_EVT_SYNC).log srcPLK 0x0B47 0 []

/-- SYNCED left for a mismatch or a request (R341, R344). -/
def State.unsync (s : State) : State := (s.enterResync.raise PLK_EVT_SYNC).log srcPLK 0x0B48 0 []

/-! ## Claims (R328 to R331) -/

/-- The points of some source kinds written with their present value and a quality through port 1. -/
def State.kindQual (s : State) (kinds : List Nat) (q : Byte) : State :=
  s.mapPoints (fun p => match p.defn with | some d => kinds.contains d.srcKind | none => false) fun p => p.putQual q s.stamp

/-- The twin tail copied into Granary, marked as twin records (R340). -/
def State.copyTail (s : State) : State :=
  let tail := s.plk.tail
  (tail.foldl (fun s r => s.take { r with twin := true }) s).onPlk fun p => { p with tail := [] }

/-- PAIR_ACT driven high or low. -/
def State.pairAct (s : State) (high : Bool) : State :=
  (s.wr PLK_STAT_CTRL (bit high)).wr NET_STAT_PAIR_ANS (bit (high && s.on NET_ADDR_PEN))

/-- Steps 1 to 3 of a claim (R329): `watch` tells whether PAIR_WATCH is active at the 4 µs sample.
Log entry 14 (DESIGN CHOICE, DEDUCED). -/
def State.claim (s : State) (kind ns : Nat) (watch : Bool) : State :=
  let back := if s.rd PLK_STAT_STATE = psSTARTING then psSTARTING else psRESYNC
  let s := if s.rd PLK_STAT_STATE = psSYNCED then s.raise PLK_EVT_SYNC else s
  let s := s.copyTail.noteChange kind 0 ns
  let s := if kind = 3 then
      ((s.bump PLK_CNT_PLANNED).raise PLK_EVT_SWITCHOVER).log srcPLK 0x0B43 0 []
    else ((s.bump PLK_CNT_TAKEOVER).raise PLK_EVT_TAKEOVER).log srcPLK 0x0B41 0 [.n1 kind, .n1 0]
  if watch ∧ s.rd PLK_STAT_ROLE = 2 then
    let s := (s.enterResync.wr PLK_STAT_STATE back).pairAct false
    ((s.bump PLK_CNT_DUAL).raise PLK_EVT_DUAL).log srcPLK 0x0B4C 0 []
  else
    let s := ((s.wr PLK_STAT_STATE psCONTROL).pairAct true).lower PLK_STAT_SWO_PEND
    let s := s.onPlk fun p => { p with
      rows := [], outs := [], asked := false, go := false, atX := false, leaving := false, dualOff := false, moves := 0 }
    (s.enableStages.busControl true).onNet fun n => { n with noticeAll := true }

/-- A hot claim, `ns` from its cause to PAIR_ACT high (R330). -/
def State.hotClaim (s : State) (ns : Nat) (watch : Bool) : State :=
  ((s.onPlk fun p => { p with rows := [], outs := [] }).kindQual [3, 4] 0x42).claim 1 ns watch

/-- A cold claim (R331). -/
def State.coldClaim (s : State) (watch : Bool) : State := (s.kindQual [3, 4] 0x86).claim 2 0 watch

/-- A module that released for dual control does not claim while its twin reports CTRL over the link (R328). -/
def State.claimBarred (s : State) : Bool :=
  s.plk.dualOff && s.on PLK_STAT_LINK && (match s.plk.twin with | some b => b.ctrl | none => false)

/-- The wait of Table 11-2 for a cold claim is over; PAIR_WATCH has been inactive since `quietMs`. -/
def State.coldDue (s : State) : Bool :=
  let cold := s.rd PLK_CFG_COLD
  let st := s.rd PLK_STAT_STATE
  if st = psSTARTING then
    match s.plk.enMs with
    | none => false
    | some m =>
      let since := max m s.plk.quietMs
      if s.rd PLK_STAT_ROLE = 1 then decide (since + 1 ≤ s.ms) else decide (cold ≠ 0) && decide (since + 2000 ≤ s.ms)
  else st == psRESYNC && decide (cold ≠ 0) && decide (s.plk.quietMs + 100 * cold ≤ s.ms)

/-! ## Release (R332) -/

/-- An event of Table 11-3: a module in CONTROL gives up control where the event's condition holds.
Log entry 14 (DESIGN CHOICE, DEDUCED). -/
def State.controlRelease (s : State) (cause : Nat) : State :=
  let due := if cause = 1 then true else if cause = 5 then s.rd PLK_STAT_ROLE == 2 else s.on PLK_STAT_TWIN_SYNCED
  if !(s.paired && s.rd PLK_STAT_STATE == psCONTROL && due) then s
  else
    let s := if cause = 1 then s else s.sendLink (.ctrl 1 cause)
    let s := (s.pairAct false).enterResync
    let s := (s.disableStages.busControl false).abandonAll
    let s := (s.lower LTU_SCHED_SWO_ARM).noteChange 5 cause 0
    let s := s.onPlk fun p => { p with dualOff := cause == 5 }
    ((s.bump PLK_CNT_RELEASE).raise PLK_EVT_RELEASE).log srcPLK 0x0B42 0 [.n1 cause]

/-! ## The pair offset (R342) -/

/-- The pair offset as a signed number, its whole cycles and its angle. -/
def State.pairOfs (s : State) : Int :=
  let d := s.plk.ofs
  if d < 2 ^ 55 then (d : Int) else (d : Int) - 2 ^ 56
def State.cycleOfs (s : State) : Int := (s.pairOfs + 32768) / 65536
def State.angleOfs (s : State) : Int := s.pairOfs - s.cycleOfs * 65536

/-- A twin line time as local time, in whole and as a 32-bit timestamp. -/
def State.fromTwin (s : State) (t : Nat) : Nat := (((t : Int) - s.cycleOfs * 65536) % (2 ^ 56 : Int)).toNat
def State.stampFromTwin (s : State) (ts : Word) : Word :=
  BitVec.ofNat 32 (((ts.toNat : Int) - s.cycleOfs * 65536) % (2 ^ 32 : Int)).toNat

/-! ## Planned switch-over (R333 to R335) -/

/-- The period of task 0 in la; none where no task 0 runs. -/
def State.task0Period (s : State) : Option Nat := (s.taskInfo 0).map TaskInfo.period

/-- The switch-over entry armed at X, and the twin told. -/
def State.armSwo (s : State) (x : Nat) : State :=
  let s := (s.sendLink (.ctrl 4 x)).raise PLK_STAT_SWO_PEND
  let s := ((s.wr LTU_SWO_LO_X_LO x).wr LTU_SWO_HI_X_HI (x / 2 ^ 32)).raise LTU_SCHED_SWO_ARM
  s.onPlk fun p => { p with swoX := x, go := false }

/-- The outgoing module starts a planned switch-over: X is the first due time of task 0 at least 2 lc on. -/
def State.startSwo (s : State) : State :=
  (s.onPlk fun p => { p with moves := 0 }).armSwo (s.firstDueOf 4 0 (s.ltu.now + 2 * 65536))

/-- GO is sent once the twin has acknowledged the batch of the last snapshot point before X, no later than X − 128 la. -/
def State.maybeGo (s : State) : State :=
  let x := s.plk.swoX
  let ready : Bool := match s.task0Period, s.plk.ackedSnap with
    | none, _ => true
    | some p, some t => decide (x ≤ t + p) && decide (t < x)
    | some _, none => false
  if s.rd PLK_STAT_STATE = psCONTROL ∧ s.on PLK_STAT_SWO_PEND ∧ !s.plk.go ∧ ready ∧ s.ltu.now + 128 ≤ x then
    (s.sendLink (.ctrl 5 0)).onPlk fun p => { p with go := true }
  else s

/-- The incoming twin arms its switch-over entry at X in its own line time. -/
def State.takeSwo (s : State) (x : Nat) : State :=
  let s := ((s.wr LTU_SWO_LO_X_LO x).wr LTU_SWO_HI_X_HI (x / 2 ^ 32)).raise LTU_SCHED_SWO_ARM
  (s.raise PLK_STAT_SWO_PEND).onPlk fun p => { p with swoX := x, go := false, atX := false }

/-- X − 128 la has come without GO (R335): the entry is cancelled; the outgoing moves X, and after 16 moves gives up. -/
def State.goDeadline (s : State) : State :=
  let s := s.forwardTo (s.plk.swoX - 128)
  if !s.on PLK_STAT_SWO_PEND || s.plk.go || decide (s.ltu.now + 128 < s.plk.swoX) then s
  else
    let s := s.lower LTU_SCHED_SWO_ARM
    if s.rd PLK_STAT_STATE ≠ psCONTROL then s.lower PLK_STAT_SWO_PEND
    else if s.plk.moves < 16 then
      let s := (s.sendLink (.ctrl 6 0)).onPlk fun p => { p with moves := p.moves + 1 }
      s.armSwo (s.firstDueOf 4 0 (max (s.plk.swoX + 1) (s.ltu.now + 256)))
    else
      let s := (s.sendLink (.ctrl 6 0)).lower PLK_STAT_SWO_PEND
      (s.raise PLK_EVT_SWITCHOVER).log srcPLK 0x0B44 0 []

/-- The kind 0 event at X (R335): the outgoing module drives PAIR_ACT low and keeps its stages, the incoming one with GO takes
due times from here on. -/
def State.swoPoint (s : State) : State :=
  if !s.paired || !s.on PLK_STAT_SWO_PEND then s
  else if s.rd PLK_STAT_STATE = psCONTROL then
    if !s.plk.go then s.goDeadline
    else
      let s := (s.pairAct false).enterResync
      let s := (s.busControl false).noteChange 4 0 0
      let s := s.onPlk fun p => { p with leaving := true }
      ((s.bump PLK_CNT_PLANNED).raise PLK_EVT_SWITCHOVER).log srcPLK 0x0B43 0 []
  else if s.rd PLK_STAT_STATE = psSYNCED ∧ s.plk.go then s.onPlk fun p => { p with atX := true }
  else s

/-- The hold-off of a preferred primary counted at a cycle boundary (R333). -/
def State.pairBoundary (s : State) : State :=
  let lock := s.rd LTU_STAT_STATE == stLOCK
  let twinLock := match s.plk.twin with | some b => b.lock | none => false
  let restart := s.on HLT_STAT_MFAULT || (s.plk.wasLock && !lock && twinLock)
  let s := s.onPlk fun p => { p with wasLock := lock }
  if s.rd PLK_STAT_ROLE ≠ 1 ∨ s.rd PLK_STAT_STATE ≠ psSYNCED then s
  else if restart then (s.wr PLK_STAT_HOLD_REM (s.rd PLK_CFG_HOLDOFF)).onPlk fun p => { p with reclaimed := false }
  else s.wr PLK_STAT_HOLD_REM (s.rd PLK_STAT_HOLD_REM - 1)

/-- The judgement of a request of PLK_CMD (R344): the code of a refusal. Log entry 14 (DESIGN CHOICE, DEDUCED). -/
def State.judgePair (s : State) (release : Bool) (ten : Nat) : Option Nat :=
  if ten ≠ 0 then some 0x0B03
  else if !s.paired then some 0x0B04
  else if !release then none
  else if s.rd PLK_STAT_STATE ≠ psCONTROL then some 0x0B01
  else if s.on PLK_STAT_SWO_PEND then some 0x0B05
  else if !s.on PLK_STAT_TWIN_SYNCED then some 0x0B02
  else none

/-- PLK_CRES. -/
def State.pairResult (s : State) (code : Nat) : State := ((s.raise PLK_CRES_DONE).wr PLK_CRES_CODE code).reply code 0 []

/-! ## The link (R336, R337) -/

/-- The link key is usable: an AES-256 MAC key of tenant 0 (R336). -/
def State.linkKeyOk (s : State) : Bool :=
  s.on PLK_KEY_EN && (match s.boundKey (s.rd PLK_KEY_SLOT) uMAC [1] with | .ok k => k.tenant == 0 | .error _ => false)

/-- A received frame: taken in order, or discarded, counted and told by NAK. Log entry 14 (DESIGN CHOICE, DEDUCED). -/
def State.onFrame (s : State) (h : LinkHead) (f : State → State) : State :=
  if !s.paired || !s.on PLK_STAT_LINK then s
  else if !h.good || h.epoch.toNat != s.plk.rxEpoch || h.count.toNat != (s.plk.rxCount + 1) % 2 ^ 32 then
    (s.bump PLK_LINK_BADFRM).onPlk fun p => { p with nak := true }
  else f (s.onPlk fun p => { p with rxCount := h.count.toNat })

/-- The first 8 bytes of the SHA-256 of the active configuration sets. -/
def State.cfgHash (s : State) : Nat := leNat (fit 8 (Config.sha256 s.cfg.sets))

/-- The heartbeat of the present instant (Table 11-5). -/
def State.newBeat (s : State) : Beat where
  state := BitVec.ofNat 3 (s.rd PLK_STAT_STATE)
  ctrl := s.on PLK_STAT_CTRL
  fault := s.on HLT_STAT_MFAULT
  lock := s.rd LTU_STAT_STATE == stLOCK
  swoPend := s.on PLK_STAT_SWO_PEND
  nak := s.plk.nak
  lt := BitVec.ofNat 56 s.ltu.now
  ack := BitVec.ofNat 32 s.plk.rxCount
  imageId := BitVec.ofNat 32 s.imageId
  imageVer := BitVec.ofNat 32 s.imageVer
  cfgHash := BitVec.ofNat 64 s.cfgHash

/-- A count `n` lies at or before `ack`. -/
def ackedBy (ack n : Nat) : Bool := decide ((ack + 2 ^ 32 - n) % 2 ^ 32 < 2 ^ 31)

/-- Successes of forces whose FORCE frame is acknowledged, or whose twin is no longer SYNCED, are reported (R338). -/
def State.reportForces (s : State) : State :=
  let ok := s.plk.forces.filter fun h => !s.forceUnacked h
  let s := s.onPlk fun p => { p with forces := p.forces.filter fun h => !ok.contains h }
  ok.foldl (fun s _ => s.reply 0 0 []) s

/-- Frames up to a count are acknowledged (R336). -/
def State.acknowledge (s : State) (ack : Nat) : State :=
  let done := s.plk.unacked.filter fun x => ackedBy ack x.1
  let snap := done.foldl (fun (o : Option Nat) x => match x.2 with | .dataEnd e => some e.time.toNat | _ => o) s.plk.ackedSnap
  let s := s.onPlk fun p => { p with unacked := p.unacked.filter fun x => !ackedBy ack x.1, ackedSnap := snap }
  s.linkFill.reportForces.maybeGo

/-- Frames sent again from the first unacknowledged one (R336). Log entry 14 (DESIGN CHOICE, DEDUCED). -/
def State.retransmit (s : State) : State := s.bumpBy PLK_LINK_RETX s.plk.unacked.length

/-- Identity and configuration agree with the twin's heartbeat; the phase too where both LTUs are in LOCK (R341, R342). -/
def State.sameImage (s : State) (b : Beat) : Bool := b.imageId.toNat == s.imageId && b.imageVer.toNat == s.imageVer
def State.sameConfig (s : State) (b : Beat) : Bool := b.cfgHash.toNat == s.cfgHash
def State.samePhase (s : State) (b : Beat) : Bool :=
  !(b.lock && s.rd LTU_STAT_STATE == stLOCK) || decide (s.angleOfs.natAbs ≤ 32)

/-- A module in RESYNC compares itself with its twin (R341, R342). -/
def State.resync (s : State) (b : Beat) : State :=
  if !s.samePhase b then
    if s.plk.phaseNoted then s
    else ((s.onPlk fun p => { p with phaseNoted := true }).raise PLK_EVT_MISMATCH).log srcPLK 0x0B49 0 []
  else if !s.sameImage b then
    if s.plk.imgNoted then s
    else ((s.onPlk fun p => { p with imgNoted := true, image := [] }).raise PLK_EVT_MISMATCH).sendLink (.ctrl 7 0)
  else if !s.sameConfig b then
    if s.plk.cfgNoted then s
    else ((s.onPlk fun p => { p with cfgNoted := true }).raise PLK_EVT_MISMATCH).log srcPLK 0x0B4A 0 []
  else if s.plk.asked then s
  else (s.sendLink (.ctrl 2 0)).onPlk fun p => { p with asked := true, ends := 0, phaseNoted := false }

/-- What a heartbeat means for a module not in control (R325, R341). -/
def State.follow (s : State) (b : Beat) : State :=
  let st := s.rd PLK_STAT_STATE
  if st = psSTARTING then (if b.ctrl then s.enterResync.resync b else s)
  else if st = psRESYNC then s.resync b
  else if st = psSYNCED then
    if s.sameImage b && s.sameConfig b && s.samePhase b then s
    else
      let s := s.raise PLK_EVT_MISMATCH
      (if s.samePhase b then s else s.log srcPLK 0x0B49 0 []).unsync
  else s

/-- A heartbeat taken: acknowledgement, pair offset, the twin's state, dual control (R329, R336, R342). -/
def State.heartbeat (s : State) (b : Beat) : State :=
  let ofs : Nat := (b.lt.toNat + s.plk.delay + 2 ^ 56 - s.ltu.now % 2 ^ 56) % 2 ^ 56
  let s := (s.onPlk fun p => { p with twin := some b, ofs := ofs }).wr PLK_OFS_LO_OFS_LO ofs
  let s := s.wr PLK_STAT_TWIN_SYNCED (bit (b.state.toNat == psSYNCED))
  let s := (if b.nak then s.retransmit else s).acknowledge b.ack.toNat
  if s.rd PLK_STAT_STATE = psCONTROL then
    if b.ctrl ∧ s.rd PLK_STAT_ROLE = 2 then
      (((s.controlRelease 5).bump PLK_CNT_DUAL).raise PLK_EVT_DUAL).log srcPLK 0x0B4C 0 []
    else s
  else s.follow b

/-- The link goes down (R337). Log entry 14 (DESIGN CHOICE, DEDUCED). -/
def State.linkFails (s : State) : State :=
  if !s.on PLK_STAT_LINK then s
  else
    let s := ((s.lower PLK_STAT_LINK).bump PLK_LINK_DOWNS).raise PLK_EVT_LINK
    if s.rd PLK_STAT_STATE = psSYNCED then s else s.log srcPLK 0x0B46 0 []

/-- The link comes up with a new epoch (R336, R337): frames without acknowledgement are sent again under new counts. -/
def State.linkStarts (s : State) (twinEpoch delay : Nat) : State :=
  if !s.paired || !s.linkKeyOk || s.on PLK_STAT_LINK then s
  else
    let s := s.onPlk fun p => { p with
      epoch := (p.epoch + 1) % 2 ^ 32, count := 0, rxEpoch := twinEpoch, rxCount := 0, delay := delay, nak := false
      waiting := (p.unacked.map fun x => x.2) ++ p.waiting, unacked := [] }
    (((s.raise PLK_STAT_LINK).raise PLK_EVT_LINK).log srcPLK 0x0B45 0 []).linkFill

/-! ## Mirrored items in the standby (R338 to R340) -/

/-- The standby applies what it receives: it is SYNCED, or in RESYNC after its request. -/
def State.applies (s : State) : Bool :=
  s.rd PLK_STAT_STATE == psSYNCED || (s.rd PLK_STAT_STATE == psRESYNC && s.plk.asked)

/-- A point of a mirrored source kind. -/
def Point.mirrored (p : Point) : Bool :=
  match p.defn with | some d => d.srcKind == 3 || d.srcKind == 4 || d.srcKind == 6 | none => false

/-- An entry of a complete OUT batch applied through port 1, its TSTAMP translated. -/
def State.applyOut (s : State) (e : OutEntry) : State :=
  let h := e.handle.toNat
  let p := s.point h
  if p.mirrored then s.setPoint h (p.put e.value e.qual (s.stampFromTwin e.ts)) else s

/-- OUT entries collected, and applied at LAST. -/
def State.mirrorOutIn (s : State) (es : List OutEntry) (last : Bool) : State :=
  if !s.applies then s
  else
    let all := s.plk.outs ++ es
    if last then all.foldl State.applyOut (s.onPlk fun p => { p with outs := [] })
    else s.onPlk fun p => { p with outs := all }

/-- A mirrored force or release, and its MRAM record. -/
def State.mirrorForceIn (s : State) (h op ten : Nat) (v fts : Word) : State :=
  let p := s.point h
  match p.defn with
  | none => s
  | some d =>
    if !s.applies then s
    else if op = 1 then
      let s := if p.forced then s else s.countForced d.owner true
      (s.setPoint h { p with forced := true, fval := v, fts := s.stampFromTwin fts, ften := ten }).writeForceRec h
    else
      let s := if p.forced then s.countForced d.owner false else s
      (s.setPoint h { p with forced := false, fval := 0, fts := 0, ften := 0 }).writeForceRec h

/-- A mirrored loop state; `xtal` is the 25 MHz count of this module at the sample's due time (R330). -/
def State.mirrorLoopIn (s : State) (m : LoopMirror) (xtal : Nat) : State :=
  let n := m.loop.val
  match s.loop n with
  | none => s
  | some L =>
    if !s.applies then s
    else
      let s := (s.setMode n m.mode.toNat).wr (CLE_LOOP_STAT_REGION n) m.region.val
      let s := (s.wr (CLE_LOOP_STAT_HOLDCONS n) m.held.toNat).wr (CLE_LOOP_STAT_HELD n) (bit (m.held != 0))
      let s := s.wr (CLE_LOOP_STAT_OVRCONS n) m.overruns.toNat
      let s := ((s.wrReal (CLE_LOOP_I_VAL n) m.i).wrReal (CLE_LOOP_D_VAL n) m.d).wrReal (CLE_LOOP_SP_VAL n) m.sp
      let s := s.wrReal (CLE_LOOP_MAN_VAL n) m.man
      let s := s.setLoop n fun L => { L with
        qprev := m.qprev, pcnt := m.pcnt, pts := s.stampFromTwin m.pts, xtal := xtal, first := false }
      s.showCoef n L

/-- Granary records of the twin, at most 2,048 kept (R340). -/
def State.mirrorGrnIn (s : State) (rs : List Rec) : State :=
  s.onPlk fun p =>
    let t := p.tail ++ rs
    { p with tail := t.drop (t.length - 2048) }

/-- The Granary records of a run of 32-byte records; a continuation joins the record before it (Table 14-1). -/
def recsOf : Nat → List Byte → List Rec
  | 0, _ => []
  | n + 1, bs =>
    let f := leAt bs 7 1
    let r : Rec := {
      seq := leAt bs 0 4, code := leAt bs 4 2, ten := leAt bs 6 1, twin := f.testBit 0, utcInv := f.testBit 2
      frz := f.testBit 3, lt := leAt bs 8 7, src := leAt bs 15 1, utc := leAt bs 16 8, rep := leAt bs 24 2
      data := slice bs 26 6, cont := [] }
    let next := bs.drop 32
    if bs.length < 32 then []
    else if (leAt next 7 1).testBit 1 ∧ 32 ≤ next.length then { r with cont := slice next 8 24 } :: recsOf n (next.drop 32)
    else r :: recsOf n next

/-- Milliseconds of a count of angle units at the local frequency. -/
def State.msOf (s : State) (la : Nat) : Nat := la * 1000000 / (65536 * max 1 s.ltu.freq)

/-- A held row written to the data image. -/
def State.applyRow (s : State) (r : RowMirror) : State :=
  let row := r.row.toNat
  let s := (s.preserveRow row).onCxe fun c => { c with dirty0 := c.dirty0.add row, dirty1 := c.dirty1.add row }
  s.setBytes (dataBase + row * rowSize) (fit rowSize r.bytes)

/-- The bytes of a snapshot record as DATA_END carries it, COMMIT_SEQ included (Table 5-3). -/
def snapMirrorBytes (e : SnapMirror) : List Byte :=
  leBytes 4 0x50414E53 ++ leBytes 4 e.seq.toNat ++ leBytes 4 e.imageId.toNat ++ leBytes 4 e.imageVer.toNat ++
  leBytes 4 e.mscnt.toNat ++ leBytes 1 e.mapsel.val ++ List.replicate 3 0 ++ leBytes 8 e.time.toNat ++
  List.replicate 216 0 ++ leBytes 4 e.seq.toNat

/-- A DATA batch ends: rows and cells applied at once, the millisecond counter set, the bank written as a snapshot (R338).
Log entry 14 (DESIGN CHOICE, DEDUCED). -/
def State.mirrorDataEnd (s : State) (e : SnapMirror) : State :=
  if !s.applies then s.onPlk fun p => { p with rows := [] }
  else
    let lag := s.ltu.now - s.fromTwin e.time.toNat
    let s := (s.plk.rows.foldl State.applyRow s).onPlk fun p => { p with rows := [], ends := p.ends + 1 }
    let s := s.onCxe fun c => { c with map0 := e.map0, map1 := e.map1 }
    let s := (s.wr CXE_MSCNT_MS (e.mscnt.toNat + s.msOf lag)).wr CXE_STAT_MAPSEL e.mapsel.val
    let t := s.snapTarget
    let s := s.onCxe fun c => { (c.setDirty t RowSet.none) with pend := c.dirty t, kept := [] }
    let s := s.writeRows t
    let r := snapMirrorBytes e
    let s := s.setBytes (bankBase t + 0x1FFF00) (r ++ leBytes 4 (crc32c r))
    let s := s.onCxe fun c => { c with
      bank0 := if t = 0 then (c.map0, c.map1) else c.bank0
      bank1 := if t = 0 then c.bank1 else (c.map0, c.map1)
      pend := RowSet.none }
    let s := (s.wr CXE_STAT_SNAP_BANK t).wr CXE_SNAP_SEQ_SEQ e.seq.toNat
    let s := (s.wr PLK_LAG_DLAG (min 65535 lag)).maxField PLK_LAG_DLAG_MAX lag
    if s.rd PLK_STAT_STATE = psRESYNC ∧ s.plk.asked ∧ 2 ≤ s.plk.ends then s.enterSynced else s

/-! ## What the module in control sends (R338, R341) -/

/-- A row of the data image that is mirrored: of a MIRROR block, or of the cell and record area. -/
def State.rowMirrored (s : State) (row : Nat) : Bool :=
  decide (0x1D00 ≤ row) || s.blocks.any fun d => d.mirror && decide (d.off < (row + 1) * rowSize) && decide (row * rowSize < d.off + d.size)

/-- Rows cut into frames of at most 7. -/
def dataFrames : List RowMirror → Nat → List LinkFrame
  | _, 0 => []
  | [], _ => []
  | rs, n + 1 => .data (rs.take 7) :: dataFrames (rs.drop 7) n

/-- The rows that a completed snapshot wrote and its record mirrored (R338): `rows` as it wrote them into bank `t`. -/
def State.mirrorSnapshot (s : State) (rows : RowSet) (t seq : Nat) : State :=
  if !s.mirrors then s
  else
    let full := s.plk.fullNow
    let ns := (List.range 0x1FFF).filter fun n => (full || rows.has n) && s.rowMirrored n
    let rs := ns.map fun n => (⟨BitVec.ofNat 13 n, s.bytes (bankBase t + n * rowSize) rowSize⟩ : RowMirror)
    let e : SnapMirror := {
      seq := BitVec.ofNat 32 seq, imageId := BitVec.ofNat 32 s.cxe.snapId, imageVer := BitVec.ofNat 32 s.cxe.snapVer
      mscnt := BitVec.ofNat 32 s.cxe.snapMs, mapsel := Fin.ofNat 2 s.cxe.snapMap, time := BitVec.ofNat 56 s.cxe.snapAt
      map0 := s.cxe.map0, map1 := s.cxe.map1 }
    let s := (dataFrames rs rs.length).foldl State.mirror s
    (s.mirror (.dataEnd e)).onPlk fun p => { p with fullNow := false }

/-- Handles in batches of 1,024. Log entry 14 (DESIGN CHOICE, DEDUCED). -/
def batches : List Nat → Nat → List (List Nat)
  | _, 0 => []
  | [], _ => []
  | hs, n + 1 => hs.take 1024 :: batches (hs.drop 1024) n

/-- Every mirrored item sent in full (R341). -/
def State.sendAll (s : State) : State :=
  if s.rd PLK_STAT_STATE ≠ psCONTROL then s
  else
    let hs := (s.pdir.points.filter fun x => x.2.mirrored).map fun x => x.1
    let s := (batches hs hs.length).foldl State.mirrorPoints s
    let s := (s.pdir.points.filter fun x => x.2.forced).foldl (fun s x => s.mirrorForce x.1 1) s
    let s := s.cle.loops.foldl (fun s x => s.mirror (.loop (s.loopMirror x.1 s.ltu.now x.2))) s
    (s.mirrorMeters (s.mtr.open_ - 1)).onPlk fun p => { p with fullNext := true }

/-- The stored image cut into segments of 2,048 bytes (R341, R343). -/
def imageFrames : List Byte → Nat → List LinkFrame
  | bs, 0 => [.img bs true]
  | bs, n + 1 => if bs.length ≤ 2048 then [.img bs true] else .img (bs.take 2048) false :: imageFrames (bs.drop 2048) n

/-- An image passed to the twin. -/
def State.sendImage (s : State) (bs : List Byte) : State := (imageFrames bs bs.length).foldl State.sendLink s

end Sys2Proof.Machine
end

