-- ==== Sys2Proof/Machine/LineOps.lean ====
section
/-! DEFINITION. What happens in several blocks at once when the line angle passes 0x0000 and when the scheduler is enabled
(R49, R60, R199, R247, R322, R329, R333). -/

namespace Sys2Proof.Machine

/-- LTU's clock runs: powered and not in S3 (R53). -/
def State.lineRuns (s : State) : Bool := s.powered && s.rd PWR_STAT_SLEEP != 3

/-- After a change of control every publication sends a notice at the next zero crossing (R322). -/
def State.noticesDue (s : State) : State :=
  if s.net.noticeAll && s.inControl then (s.notify fun _ => true).onNet fun n => { n with noticeAll := false } else s

/-- The line angle passes 0x0000 at the PTP time `sec` and `ns`. -/
def State.lineBoundary (s : State) (sec ns : Nat) : State :=
  if s.lineRuns then ((s.boundary.meterBoundary.pairBoundary).sendAnnouncements sec ns).noticesDue else s

/-- LTU_SCHED.EN set: the active bank is re-based (R60). The first time, field I/O, the field buses and subscriptions
start, and the waits of Table 11-2 count from here (R247, R283, R320, R328). -/
def State.enableScheduler (s : State) : State :=
  let s := (s.raise LTU_SCHED_EN).rebaseAll
  if s.fio.started then s
  else
    let s := s.fioStart
    let s := if s.inControl then s.busControl true else s
    s.startSubs.onPlk fun p => { p with enMs := some s.ms }

end Sys2Proof.Machine
end

