-- ==== Sys2Proof/Machine/LoadOps.lean ====
section
/-! DEFINITION. The loader's last steps and what an accepted image does: scheduler entries (R59 to R62, R129, R212), worst case
(R130, R131, R150, R190), exchange checks (R89, R161), preparation (R162 to R164), and taking effect (R40, R60, R165, R419). -/

namespace Sys2Proof.Machine

/-! ## Scheduler entries -/

/-- An enabled entry. SUP chooses the cycle in NEXT; the angle is the declared one (Table 2-6). Log entry 16 (DESIGN CHOICE). -/
def Image.entry (im : Image) (site : Bool) (kind tgt frac per angle len : Nat) : SchedEntry :=
  let next := if frac = 0 then Config.entryCycle im.id kind tgt % per * 65536 + angle else angle
  ⟨true, site, false, kind, tgt, if frac = 0 then per else 0, frac, len, angle, next⟩

/-- The activation entry of a task, and its commit entry COFS later (R129). -/
def Image.taskEntries (im : Image) (t : TaskInfo) : List SchedEntry :=
  let e := im.entry t.site 4 t.task t.frac t.per t.angle 0
  let c : SchedEntry := { e with
    kind := 2
    angle := (t.angle + t.cofs) % (if t.frac = 0 then 65536 else t.period)
    next := e.next + t.cofs }
  if t.cmt then [e, c] else [e]

/-- The entries that SUP builds from the setup section (R129, R168, R212, R256). -/
def Loaded.entries (L : Loaded) : List SchedEntry :=
  L.tasks.flatMap L.im.taskEntries ++
  (L.of dLOOP).map (fun d => L.im.entry (d.fld 3 29 1 == 1) 3 d.idx (d.fld 3 30 2) (d.fld 3 0 16) (d.fld 4 0 16) 0) ++
  ((L.of dMETER).filter fun d => d.mode == 0).map (fun d => ⟨true, false, false, 1, d.idx, d.word 2, 0, 0, 0, 0⟩) ++
  (L.of dBUSWIN).map fun d => L.im.entry (d.fld 1 29 1 == 1) 5 d.idx (d.fld 1 30 2) (d.fld 1 0 16) (d.fld 2 16 16) (d.fld 2 0 14)

/-- Something due at `at_ + k × per` with a weight. -/
structure DueSet where
  at_ : Nat
  per : Nat
  weight : Nat
deriving DecidableEq, Repr

/-- Two of them fall due at one time (R62). -/
def DueSet.meet (a b : DueSet) : Bool := ((a.at_ : Int) - (b.at_ : Int)) % (Nat.gcd a.per b.per : Int) == 0

/-- More than `limit` falls due at one time. -/
def crowded (limit : Nat) (l : List DueSet) : Bool := overload DueSet.meet DueSet.weight limit [] 0 l

/-- The commits of a frame with the sizes of their staging sets (R149). Log entry 18 (DESIGN CHOICE, DEDUCED). -/
def Loaded.commits (L : Loaded) (site : Bool) : List DueSet :=
  (L.tasks.filter fun t => t.site == site && !t.writes.isEmpty).map fun t =>
    let e := L.im.entry t.site 4 t.task t.frac t.per t.angle 0
    ⟨e.next + (if t.cmt then t.cofs else 0), t.period, t.writes.length⟩

/-- A fractional period with an angle beyond it (R62). -/
def angleOk (frac angle : Nat) : Bool := frac == 0 || decide (angle < 65536 / 2 ^ frac)

/-- The image enables site alignment. -/
def Loaded.siteOn (L : Loaded) : Bool := L.dirs.any fun d => d.kind == dLINE && d.fld 2 31 1 == 1

/-- Step 9 of R133. -/
def Loaded.checkSchedule (L : Loaded) : Check :=
  let es := L.entries
  let due := fun (site : Bool) => (es.filter fun e => e.site == site).map fun e => (⟨e.next, e.period, 1⟩ : DueSet)
  firstFault (
    (L.of dTASK).map (fun d => demand (angleOk (d.fld 0 30 2) (d.fld 1 0 16)) ⟨0x0283, 1, d.fld 0 16 5, 0, 0, 0⟩) ++
    (L.of dLOOP).map (fun d => demand (angleOk (d.fld 3 30 2) (d.fld 4 0 16)) (inSetup 0x0283 0)) ++
    (L.of dBUSWIN).map (fun d => demand (angleOk (d.fld 1 30 2) (d.fld 2 16 16)) (inSetup 0x0283 0)) ++
    [demand (L.siteOn || !(es.any SchedEntry.site)) (inSetup 0x0284 0),
     demand (decide (es.length ≤ 512)) (inSetup 0x0281 0),
     demand (!crowded 64 (due false) && !crowded 64 (due true)) (inSetup 0x0282 0),
     demand (!crowded 2048 (L.commits false) && !crowded 2048 (L.commits true)) (inSetup 0x0386 0),
     demand (decide (L.blocks.length ≤ 512)) (inSetup 0x0584 0)])

/-! ## Worst case (R130, R131, R150, R190) -/

/-- C, t_wc in ns and the budgets of a task. -/
structure TaskLoad where
  info : TaskInfo
  cycles : Nat
  twc : Nat
  budget : Nat
deriving DecidableEq, Repr

/-- The budget of a task in la. -/
def TaskInfo.budget (t : TaskInfo) : Nat := if t.cmt then t.cofs else t.period

/-- The tasks with their figures. -/
def Loaded.loads (L : Loaded) : List TaskLoad :=
  L.tasks.map fun t =>
    let c := L.im.cycles t.entry
    ⟨t, c, worstNs t.reads.length L.im.pdecl c, budgetNs t.budget⟩

/-- D of a task (R150). -/
def laneDemand (ts : List TaskLoad) (i : TaskLoad) : Nat :=
  (ts.filter fun j => j.info.task != i.info.task && (j.info.lanes &&& i.info.lanes) != 0).foldl (fun d j =>
    d + j.twc * (if j.info.prio ≤ i.info.prio then ceilDiv i.info.budget j.info.period + 1 else 1)) i.twc

/-- The unit of a loop: the head of its group, or itself. -/
def unitOf (ls : List (Nat × LoopDecl)) (x : Nat × LoopDecl) : Nat :=
  if x.2.gen then (match ls.find? fun y => y.2.gen && y.2.group == x.2.group with | some y => y.1 | none => x.1) else x.1

/-- t_out of a loop in ns, rounded up (R190). -/
def outputDelay (ls : List (Nat × LoopDecl)) (staged pdecl : Nat) (k : Nat × LoopDecl) : Nat :=
  let near := ls.filter fun x => decide (unitOf ls x ≤ unitOf ls k) &&
    (x.2.site != k.2.site || x.2.angle % 8192 == k.2.angle % 8192)
  let groups := ((near.filter fun x => x.2.gen).map fun x => x.2.group).eraseDups
  let engine := match pdecl with | 0 => 10 | 1 => 15 | 2 => 30 | _ => 60
  ceilDiv ((8 + staged + 40 * near.length) * 20 + (48 * near.length + 8 * groups.length) * engine) 6

/-- The delay bounds of the loops of an image. -/
def delayBounds (ls : List (Nat × LoopDecl)) (ts : List TaskInfo) (pdecl : Nat) : List (Nat × Nat) :=
  let staged := (ts.map fun t => t.writes.length).sum
  ls.map fun x => (x.1, outputDelay ls staged pdecl x)

/-- Step 10 of R133: the figures are shown, then judged. Log entry 18 (DESIGN CHOICE, DEDUCED). -/
def Loaded.checkWorst (L : Loaded) (s : State) (old : List DataInfo) : State × Check :=
  let ts := L.loads
  let s := ts.foldl (fun s t => (s.wr (CXE_TASK_WC_C t.info.task) t.cycles).wr (CXE_TASK_TWC_TWC t.info.task) t.twc) s
  let late := ts.find? fun t => !fitsBudget t.info.reads.length L.im.pdecl t.cycles t.info.budget
  match late with
  | some t => (s, some ⟨0x048F, 1, t.info.task, 0, t.twc, t.budget⟩)
  | none =>
    let s := ts.foldl (fun s t => (s.wr (CXE_TASK_DEMAND_DEMAND t.info.task) (min (laneDemand ts t) 0xFFFFFFFF)).wr
      (CXE_TASK_BUDGET_BUDGET t.info.task) t.budget) s
    let heavy := ts.find? fun t => decide (t.budget < laneDemand ts t)
    let slow := (delayBounds (L.loops s old) L.tasks L.im.pdecl).find? fun b => decide (40000 < b.2)
    (s, firstFault [heavy.map fun t => ⟨0x0581, 1, t.info.task, 0, 0, 0⟩, slow.map fun b => inSetup 0x0683 b.1])

/-! ## Forced points and the exchange checks (R89, R161) -/

/-- The CELL directives of a kind, ascending, and those that an old map does not hold. -/
def Loaded.cells (L : Loaded) (kind : Nat) : List Directive := (L.of dCELL).filter fun d => d.fld 0 31 1 == kind
def newCells (old : List (Nat × Nat)) (ds : List Directive) : List Directive :=
  ds.filter fun d => !(old.any fun c => c.2 == d.word 1)

/-- Step 11 of R133. -/
def Loaded.checkExchange (L : Loaded) (s : State) (old : List DataInfo) (m : CellMap) (start : Bool) : Check :=
  let hit := s.pdir.points.find? fun x => x.2.forced && match x.2.defn, L.point x.1 with
    | some o, some n => o.type != n.type
    | _, _ => true
  let busy := L.blocks.any fun b => !(old.any (sameBlock b)) && old.any fun o => overlap b.off b.size o.off o.size
  let room := decide ((newCells m.timers (L.cells 0)).length + m.timers.length ≤ 4096) &&
    decide ((newCells m.edges (L.cells 1)).length + m.edges.length ≤ 4096)
  firstFault [hit.map fun x => inSetup 0x0305 x.1, demand (start || !busy) (inSetup 0x0582 0),
    demand (start || room) (inSetup 0x0583 0)]

/-- What the loader compares a new image with: blocks and map of the running image, or of the restored bank (R156, R161). -/
structure LoadBase where
  blocks : List DataInfo
  map : CellMap
  /-- Presets of the CELL directives of the image that the map comes from, where they are known (R163). -/
  presets : List (Nat × Nat)
  start : Bool
deriving DecidableEq, Repr

/-- The steps of R133 over an image's bytes; the state keeps the figures of step 10. Log entry 18 (DESIGN CHOICE, DEDUCED). -/
def State.loadImage (s : State) (B : LoadBase) (bs : List Byte) : State × Except LoadFault Loaded :=
  match parseImage bs with
  | .error f => (s, .error f)
  | .ok im =>
    match firstFault [s.checkSignature im, im.checkCode] with
    | some f => (s, .error f)
    | none =>
      match im.directives with
      | .error f => (s, .error f)
      | .ok ds =>
        let L : Loaded := ⟨im, ds⟩
        match firstFault [L.checkDeclared s B.blocks, L.checkSchedule] with
        | some f => (s, .error f)
        | none =>
          match L.checkWorst s B.blocks with
          | (s, some f) => (s, .error f)
          | (s, none) =>
            match L.checkExchange s B.blocks B.map B.start with
            | some f => (s, .error f)
            | none => (s, .ok L)

/-- The result record of R134. -/
def LoadFault.record (f : LoadFault) : List Byte :=
  leBytes 2 f.code ++ leBytes 1 f.sect ++ leBytes 1 f.task ++ leBytes 4 f.offset ++ leBytes 4 f.a ++ leBytes 4 f.b
def acceptedRecord : List Byte := (⟨0, 255, 255, 0, 0, 0⟩ : LoadFault).record

/-! ## Preparation (R162 to R164) -/

/-- The lowest free physical cell. -/
def freeCell (used : List Nat) : Nat := ((List.range 4096).find? fun p => !used.contains p).getD 0

/-- Cells mapped in ascending index: a matched one keeps its physical cell, a new one takes a free one (R163).
Log entry 17 (DEDUCED). -/
def mapCells (old : List (Nat × Nat)) : List Nat → List Directive → List (Directive × Nat)
  | _, [] => []
  | used, d :: t =>
    match old.find? fun c => c.2 == d.word 1 with
    | some c => (d, c.1) :: mapCells old used t
    | none =>
      let p := freeCell used
      (d, p) :: mapCells old (p :: used) t

/-- The mapped cells of a kind. While an image runs every cell of it stays in use until X. -/
def Loaded.mapped (L : Loaded) (B : LoadBase) (kind : Nat) : List (Directive × Nat) :=
  let old := if kind = 0 then B.map.timers else B.map.edges
  let keeps := if B.start then old.filter fun c => (L.cells kind).any fun d => d.word 1 == c.2 else old
  mapCells old (keeps.map fun c => c.1) (L.cells kind)

/-- The image as CXE runs it. -/
def Loaded.prog (L : Loaded) (B : LoadBase) : Prog where
  id := L.im.id
  ver := L.im.ver
  mode := L.im.mode
  pdecl := L.im.pdecl
  tasks := L.tasks
  cells := (L.mapped B 0 ++ L.mapped B 1).map fun x =>
    ⟨x.1.fld 0 31 1 == 1, x.1.fld 0 0 12, x.1.word 1, x.1.word 2, x.2, L.cellTask (x.1.fld 0 31 1, x.1.fld 0 0 12)⟩
  datas := L.blocks
  routines := L.im.routines
  dirs := L.dirs

/-- The map copy of an image (Table 5-2). -/
def Prog.map (p : Prog) : CellMap :=
  let of := fun (edge : Bool) => (p.cells.filter fun c => c.edge == edge).foldl (fun m c => sins m c.phys c.id) []
  ⟨of false, of true, p.datas⟩

/-- Code words written into a bank. -/
def State.writeCode (s : State) (bank : Nat) (ws : List Nat) : State :=
  let base := 0x20000000 + bank * 0x100000
  let bs := ws.flatMap (leBytes 4)
  let cells := (bs.zipIdx.map fun x => (base + x.2, x.1)).filter fun c => c.2 != 0
  { s with mem := putCells s.mem base bs.length cells }

/-- A block written through the load port: zeros, then its initial data (R162). -/
def Loaded.writeBlock (L : Loaded) (s : State) (b : DataInfo) : State :=
  (List.range (b.size / 4)).foldl (fun s k =>
    let a := b.off + 4 * k
    s.writeData a (BitVec.ofNat 32 (leNat ((List.range 4).map fun j => L.im.initByte (a + j))))) s

/-- Every unmatched block written. -/
def Loaded.writeBlocks (L : Loaded) (s : State) (old : List DataInfo) : State :=
  (L.blocks.filter fun b => !(old.any (sameBlock b))).foldl L.writeBlock s

/-- The entries of an image as a bank. -/
def Loaded.bankOf (L : Loaded) : List (Nat × SchedEntry) := L.entries.zipIdx.map fun x => (x.2, x.1)

/-- The shadow copies of an accepted image: code, definitions, scheduler bank, map copy, blocks and the declarations of each
block (R164). At start-up the banks in use are filled. Log entry 16 (DESIGN CHOICE). -/
def State.prepare (s : State) (B : LoadBase) (L : Loaded) (bs : List Byte) : State :=
  let p := L.prog B
  let pick := fun (f : Fld) => if B.start then s.rd f else 1 - s.rd f
  let map := pick CXE_STAT_MAPSEL
  let s := (s.writeCode (pick CXE_STAT_CODE_BANK) L.im.code).setBank (pick LTU_SCHED_BANK) L.bankOf
  let loops := L.loops s B.blocks
  let meters := L.meters s B.blocks
  let buses := L.busDecl s B.blocks
  let s := (L.writeBlocks s B.blocks).onPdir fun d => { d with shadow := some L.points }
  let s := s.onCxe fun c => { c with
    next := some p, map0 := if map = 0 then p.map else c.map0, map1 := if map = 0 then c.map1 else p.map }
  let s := (s.onCle fun c => { c with next := loops }).onMtr fun m => { m with next := meters, accepted := true }
  let s := s.onFio fun f => { f with next := (L.of dFIO).map fun d => (d.idx, d.params) }
  let s := (s.onFbe fun f => { f with next := buses }).onNet fun n => { n with subNext := (L.of dSUBSCR).map fun d => d.params }
  let timers := (p.cells.filter fun c => !c.edge).map fun c => (c.id, c.preset)
  let known := s.cfg.presets.filter fun x => !(x.1 == p.id && x.2.1 == p.ver)
  { s.countEntries with cfg := { s.cfg with imageNext := bs, presets := (p.id, p.ver, timers) :: known } }

/-- Shadow copies discarded. -/
def State.discardNext (s : State) : State :=
  let s := (s.onPdir fun d => { d with shadow := none }).onCxe fun c => { c with next := none }
  let s := (s.onCle fun c => { c with next := [] }).onMtr fun m => { m with next := [] }
  let s := (s.onFio fun f => { f with next := [] }).onFbe fun f => { f with next := ⟨[], []⟩ }
  let s := s.onNet fun n => { n with subNext := [] }
  { s with cfg := { s.cfg with imageNext := [] } }

/-! ## Registers that the setup section sets (R40, R67, R77, R345) -/

/-- LTU_CFG written: REF 12 to 15 leaves REF; a new virtual frequency waits for the next angle 0x0000 (R45, R67). -/
def State.writeLtuCfg (s : State) (w : Nat) (nom : Bool) : State :=
  let free := s.rd LTU_STAT_STATE == stSTART || s.rd LTU_STAT_STATE == stLOST || s.rd LTU_STAT_STATE == stQUAL
  let was := s.virtualFreq
  let s := ((s.wr LTU_CFG_PJ_LIM (bitsOf w 24 4)).wr LTU_CFG_BW (bitsOf w 22 2)).wr LTU_CFG_VSRC (bitsOf w 21 1)
  let s := if nom then s.wr LTU_CFG_NOM (bitsOf w 20 1) else s
  let s := if bitsOf w 16 4 ≤ 11 then s.wr LTU_CFG_REF (bitsOf w 16 4) else s
  if free && s.virtualFreq != was then
    let f := s.virtualFreq
    s.onLtu fun l => { l with pendFreq := some f }
  else s

/-- LTU_SITE_CFG written: with EN set the module acquires, with EN cleared it has no role (R54 to R57). -/
def State.writeSiteCfg (s : State) (w : Nat) : State :=
  let was := s.on LTU_SITE_CFG_EN
  let s := ((s.wr LTU_SITE_CFG_EN (bitsOf w 31 1)).wr LTU_SITE_CFG_RANK (bitsOf w 24 4)).wr LTU_SITE_CFG_ANN_INT (bitsOf w 16 3)
  let s := s.wr LTU_SITE_CFG_TMO (bitsOf w 8 8)
  if s.on LTU_SITE_CFG_EN && !was then s.wr LTU_SITE_STAT_ROLE 1
  else if s.on LTU_SITE_CFG_EN then s
  else ((s.wr LTU_SITE_STAT_ROLE 0).wr LTU_SITE_STAT_MRANK 0).wr LTU_SITE_STAT_MADDR 0

/-- The directive of a kind that acts for the whole module. -/
def lastDir (dirs : List Directive) (kind : Nat) : Option Directive := (dirs.filter fun d => d.kind == kind).getLast?

/-- LINE, or its defaults; a new reference phase waits for its first zero crossing (R40). Log entry 18 (DESIGN CHOICE, DEDUCED). -/
def State.applyLine (s : State) (dirs : List Directive) : State :=
  let d := lastDir dirs dLINE
  let w := fun (k dflt : Nat) => match d with | some d => d.word k | none => dflt
  let ref := s.rd LTU_CFG_REF
  let s := s.writeLtuCfg (w 0 0x04A00000) false
  let s := (s.wr LTU_QUAL_QUAL_N (bitsOf (w 1 0x00080320) 16 6)).wr LTU_QUAL_VMIN (bitsOf (w 1 0x00080320) 0 16)
  let s := s.writeSiteCfg (w 2 0x00020400)
  if s.rd LTU_CFG_REF = ref then s else s.onLtu fun l => { l with refNew := true }

/-- TENANT directives: tenants without one are disabled (R77). -/
def State.applyTenants (s : State) (dirs : List Directive) : State :=
  (List.range 63).foldl (fun s k =>
    match dirs.find? fun d => d.kind == dTENANT && d.ten == k + 1 with
    | some d => (s.wr (PDIR_TEN_CFG_EN (k + 1)) (d.fld 0 31 1)).wr (PDIR_TEN_CFG_QUOTA (k + 1)) (min 8192 (d.fld 0 0 14))
    | none => (s.wr (PDIR_TEN_CFG_EN (k + 1)) 0).wr (PDIR_TEN_CFG_QUOTA (k + 1)) 0) s

/-- PAIR, or HOLDOFF 256 and COLD 1; a single module ignores it (R343, R345). -/
def State.applyPair (s : State) (dirs : List Directive) : State :=
  if !s.paired then s
  else match lastDir dirs dPAIR with
    | some d => (s.wr PLK_CFG_HOLDOFF (d.fld 1 0 16)).wr PLK_CFG_COLD (d.fld 1 24 4)
    | none => (s.wr PLK_CFG_HOLDOFF 256).wr PLK_CFG_COLD 1

/-- CXE_TASKn_CFG of every task. -/
def State.showTasks (s : State) (ts : List TaskInfo) : State :=
  (List.range 32).foldl (fun s n =>
    let s := s.clearRange (0x40020400 + 32 * n) 4
    match ts.find? fun t => t.task == n with
    | none => s
    | some t =>
      let s := ((s.raise (CXE_TASK_CFG_EN n)).wr (CXE_TASK_CFG_FRAME n) (bit t.site)).wr (CXE_TASK_CFG_CMT n) (bit t.cmt)
      let s := ((s.wr (CXE_TASK_CFG_FRAC n) t.frac).wr (CXE_TASK_CFG_LANES n) t.lanes).wr (CXE_TASK_CFG_PRIO n) t.prio
      s.wr (CXE_TASK_CFG_TENANT n) t.tenant) s

/-! ## Taking effect (R88, R163, R165) -/

/-- Cells of the new image that an old map does not hold start reset with the preset of their directive; a matched timer takes
a new preset only where the old directive's is known and differs (R163). -/
def State.placeCells (s : State) (p : Prog) (m : CellMap) (presets : List (Nat × Nat)) : State :=
  p.cells.foldl (fun s c =>
    let old := if c.edge then m.edges else m.timers
    if old.any fun x => x.2 == c.id then
      (match c.edge, presets.find? fun x => x.1 == c.id with
        | false, some x => if x.2 = c.preset then s else s.setTimer c.phys { s.timer c.phys with preset := c.preset }
        | _, _ => s)
    else if c.edge then s.setEdgeBit c.phys false
    else s.setTimer c.phys ⟨c.preset, 0, 0, false, false, false⟩) s

/-- The image prepared becomes the image in force in CXE. -/
def State.takeProg (s : State) (p : Prog) : State :=
  let s := s.onCxe fun c => { c with prog := some p, next := none }
  let s := ((s.raise CXE_STAT_LOADED).wr CXE_STAT_MODE p.mode).wr CXE_STAT_PDECL p.pdecl
  let s := ((s.lower CXE_STAT_STOPPED).lower CXE_STAT_EXCH_PEND).showTasks p.tasks
  { s with cfg := { s.cfg with image := s.cfg.imageNext, imageNext := [] } }

/-- The presets of the CELL directives of a running image. Log entry 17 (DEDUCED). -/
def Prog.presets (p : Prog) : List (Nat × Nat) := (p.cells.filter fun c => !c.edge).map fun c => (c.id, c.preset)

/-- The exchange at X (R165): every block takes its new declarations together. -/
def State.exchange (s : State) : State :=
  match s.cxe.next with
  | none => s
  | some p =>
    let m := s.curMap
    let presets := match s.cxe.prog with | some o => o.presets | none => []
    let m := if s.cxe.prog.isSome then m else CellMap.empty
    let s := (s.definitionSwap.applyTenants p.dirs).applyLine p.dirs
    let s := (s.abandonAll.wr CXE_STAT_CODE_BANK (1 - s.rd CXE_STAT_CODE_BANK)).wr CXE_STAT_MAPSEL (1 - s.rd CXE_STAT_MAPSEL)
    let s := ((s.takeProg p).placeCells p m presets).applyPair p.dirs
    let s := (s.raise CXE_EVT_EXCHANGED).log srcCXE 0x0544 0 [.n4 p.id]
    let s := s.exchangeLoops (delayBounds s.cle.next p.tasks p.pdecl)
    s.exchangeMeters.exchangeFio.exchangeBuses.exchangeSubs

/-- A bank swap at X (R63): the other bank is active and re-based; events due at X come from it. -/
def State.bankSwap (s : State) : State :=
  let s := s.wr LTU_SCHED_BANK (1 - s.actBank)
  let s := (s.lower LTU_SCHED_SWAP_PEND).rebaseAll
  if s.on CXE_STAT_EXCH_PEND then s.exchange else s

/-- Force records applied before the first activation (R87). Log entry 18 (DESIGN CHOICE, DEDUCED). -/
def State.restoreForces (s : State) : State :=
  (s.cfg.forces.foldl (fun s f =>
    let p := s.point f.1
    match p.defn with
    | some d => s.setPoint f.1 { p with forced := true, fval := storeAs d.type f.2.value, fts := f.2.ts, ften := f.2.ten }
    | none => s) s).countPoints

/-- The stored image takes effect when the scheduler is first enabled (step 8 of Table 15-3): definitions, forces, tasks,
loops with their records, meters with their checkpoint, field I/O, buses and subscriptions. Log entry 18 (DESIGN CHOICE, DEDUCED). -/
def State.startImage (s : State) : State :=
  match s.cxe.next with
  | none => s
  | some p =>
    let s := (s.definitionSwap.restoreForces.takeProg p).applyTenants p.dirs
    let s := (s.applyPair p.dirs).exchangeLoops (delayBounds s.cle.next p.tasks p.pdecl)
    s.restoreLoops.startMeters.exchangeFio.exchangeBuses.exchangeSubs

/-! ## Submission and start-up load -/

/-- What a submission is compared with. -/
def State.runningBase (s : State) : LoadBase :=
  match s.cxe.prog with
  | some p => ⟨p.datas, s.curMap, p.presets, false⟩
  | none => ⟨[], CellMap.empty, [], false⟩

/-- The restored bank as the stored image is compared with it (R156); nothing without a complete bank. -/
def State.restoredBase (s : State) (bank : Option Nat) : LoadBase :=
  match bank with
  | none => ⟨[], CellMap.empty, [], true⟩
  | some b =>
    let r := s.bankRec b
    let m := s.curMap
    let known := s.cfg.presets.find? fun x => x.1 == leAt r 8 4 && x.2.1 == leAt r 0xC 4
    ⟨m.datas, m, (match known with | some x => x.2.2 | none => []), true⟩

/-- An image accepted before the scheduler is first enabled: it is stored, and its cells and line-time settings stand at once
(step 6 of Table 15-3, R40, R201). -/
def State.stageStart (s : State) (B : LoadBase) (L : Loaded) (bs : List Byte) : State :=
  let s := s.prepare B L bs
  let p := L.prog B
  let s := (s.placeCells p B.map B.presets).applyLine p.dirs
  { (s.raiseLevel p.pdecl) with cfg := { s.cfg with image := bs } }

/-- Step 6 of Table 15-3: the retained image is restored, then the stored image is loaded (R156, R420). A refused image leaves
the module without one. Log entry 18 (DESIGN CHOICE, DEDUCED). -/
def State.startLoad (s : State) : State :=
  let bank := s.bankToRestore
  let s := match bank with
    | some b => s.restoreBank b
    | none => s.log srcCXE 0x0548 0 []
  if s.cfg.image.isEmpty then s
  else
    let B := s.restoredBase bank
    match s.loadImage B s.cfg.image with
    | (s, .error _) => s
    | (s, .ok L) => s.stageStart B L s.cfg.image

/-- An image submitted (R133, R164): its result record. While an exchange is armed it is refused with CX_EXCHANGE, since no
armed exchange can be withdrawn. Log entry 18 (DESIGN CHOICE, DEDUCED). -/
def State.submit (s : State) (bs : List Byte) : State × LoadFault :=
  let ok : LoadFault := ⟨0, 255, 255, 0, 0, 0⟩
  if s.on CXE_STAT_EXCH_PEND then (s, ⟨0x0503, 255, 255, 0, 0, 0⟩)
  else if s.on LTU_SCHED_EN then
    match s.loadImage s.runningBase bs with
    | (s, .error f) => (s, f)
    | (s, .ok L) => ((s.discardNext.prepare s.runningBase L bs).raiseLevel L.im.pdecl, ok)
  else
    let B := s.restoredBase (if s.on CXE_EVT_RESTORED then some (s.rd CXE_STAT_SNAP_BANK) else none)
    match s.loadImage B bs with
    | (s, .error f) => (s, f)
    | (s, .ok L) => (s.stageStart B L bs, ok)

/-! ## Arming (R63, R164) -/

/-- LTU and PDIR armed for X. -/
def State.armAt (s : State) (x : Nat) : State :=
  let s := ((s.wr LTU_SWAP_LO_X_LO x).wr LTU_SWAP_HI_X_HI (x / 2 ^ 32)).raise LTU_SCHED_SWAP_PEND
  (s.raise PDIR_STAT_DEF_PEND).raise CXE_STAT_EXCH_PEND

/-- SUP arms the exchange once the image is prepared and the level raised; the module in CONTROL of a pair waits for its twin's
acceptance, and its standby arms the same X; an image that RESYNC fetched is armed by the module itself (R164, R343, R423). -/
def State.armExchange (s : State) (twinX : Option Nat) : State :=
  let fast := match s.cxe.next with | some p => decide (s.rd PWR_STAT_LVL ≤ p.pdecl) | none => false
  let ready := fast && s.on LTU_SCHED_EN && !s.on LTU_SCHED_SWAP_PEND && !s.on CXE_STAT_EXCH_PEND && !s.on PWR_STAT_PF &&
    !s.hlt.supRestart &&
    !(s.plk.imgAwait && s.on PLK_STAT_TWIN_SYNCED)
  if !ready then s
  else match twinX with
    | some t => if s.inControl ∨ s.fromTwin t < s.ltu.now + 65536 then s else s.armAt (s.fromTwin t)
    | none =>
      if !s.inControl && s.rd PLK_STAT_STATE != psRESYNC then s
      else if s.cxe.prog.isSome then s.armAt (s.firstDueOf 4 0 (s.ltu.now + 65536))
      else s.armAt (ceilDiv (s.ltu.now + 65536) 65536 * 65536)

end Sys2Proof.Machine
end

