-- ==== Sys2Proof/Machine/UpdOps.lean ====
section
/-! DEFINITION. The update manager's operations: the format of an update image, its keys, the session with its lock, the
checks of what it receives, installation, trial and fall-back (R375 to R393). -/

namespace Sys2Proof.Machine

/-- The update manager's typed part changed. -/
def State.onUpd (s : State) (f : UpdPart → UpdPart) : State := { s with upd := f s.upd }

/-! ## Image format (R375 to R377) -/

/-- The block at a position of a slot; empty where the slot holds none. -/
def blockAt (l : List (Nat × List Byte)) (p : Nat) : List Byte := sget [] l p
def hasBlock (l : List (Nat × List Byte)) (p : Nat) : Bool := !(blockAt l p).isEmpty

/-- HDR_BLOCKS and BODY_BLOCKS as block 0 of a slot gives them. -/
def hdrBlocks (l : List (Nat × List Byte)) : Nat := leAt (blockAt l 0) 6 2
def bodyBlocks (l : List (Nat × List Byte)) : Nat := leAt (blockAt l 0) 0x0C 4
def totalBlocks (l : List (Nat × List Byte)) : Nat := hdrBlocks l + bodyBlocks l

/-- The header area: the 4,092-byte pieces of the header blocks. -/
def headerArea (l : List (Nat × List Byte)) : List Byte := (List.range (hdrBlocks l)).flatMap fun p => (blockAt l p).take 4092

/-- A component entry (Table 13-3). -/
structure UpdComp where
  kind : Nat
  order : Nat
  flags : Nat
  cfmt : Nat
  first : Nat
  nblk : Nat
  size : Nat
  ver : Nat
  req : List (Nat × Nat × Nat)
deriving DecidableEq, Repr

/-- A requirement of 12 bytes. -/
def readReq (e : List Byte) (k : Nat) : Nat × Nat × Nat := (leAt e (0x14 + 12 * k) 1, leAt e (0x18 + 12 * k) 4, leAt e (0x1C + 12 * k) 4)

/-- The entry at its 64 bytes. -/
def UpdComp.read (e : List Byte) : UpdComp :=
  ⟨leAt e 0 1, leAt e 1 1, leAt e 2 1, leAt e 3 1, leAt e 4 4, leAt e 8 4, leAt e 0xC 4, leAt e 0x10 4,
    (List.range 3).map (readReq e)⟩

/-- NCOMP, NRCPT and HDR_LEN of a header area. -/
def ncomp (h : List Byte) : Nat := leAt h 0x28 1
def nrcpt (h : List Byte) : Nat := leAt h 0x2A 2
def hdrLen (h : List Byte) : Nat := leAt h 8 4

/-- The component entries, in ascending ORDER. -/
def compsOf (h : List Byte) : List UpdComp := (List.range (ncomp h)).map fun k => UpdComp.read (slice h (0x100 + 64 * k) 64)
def plan (h : List Byte) : List UpdComp :=
  (List.range (ncomp h)).filterMap fun k => (compsOf h).find? fun c => c.order == k + 1
def UpdComp.restart (c : UpdComp) : Bool := c.flags % 2 == 1

/-- All bytes of a slice are 0. -/
def zeros (h : List Byte) (off n : Nat) : Bool := (slice h off n).all fun b => b == 0

/-- An entry is in the ranges of Table 13-3; bytes shown as 0 are 0. -/
def UpdComp.ok (c : UpdComp) (body n : Nat) : Bool :=
  decide (1 ≤ c.kind) && decide (c.kind ≤ 6) && decide (1 ≤ c.order) && decide (c.order ≤ n) &&
  c.flags == (if c.kind = 5 then 0 else 1) && (c.kind == 1 || c.kind == 6 || c.cfmt == 0) && decide (1 ≤ c.nblk) &&
  decide (c.first + c.nblk ≤ body) && decide (c.size ≤ 4064 * c.nblk) && c.req.all (fun r => decide (r.1 ≤ 6))

/-- Check 1 of R383: MAGIC, FMT and the ranges of Tables 13-2 and 13-3. Log entry 19 (DESIGN CHOICE, DEDUCED). -/
def headerOk (h : List Byte) (hb body : Nat) : Bool :=
  let n := ncomp h
  let cs := compsOf h
  leAt h 0 4 == 0x49445055 && leAt h 4 2 == 1 && decide (1 ≤ hb) && decide (hb ≤ 160) && decide (1 ≤ n) && decide (n ≤ 16) &&
  decide (1 ≤ nrcpt h) && decide (nrcpt h ≤ 4096) && hdrLen h == 256 + 64 * n + 144 * nrcpt h + 64 &&
  decide (hdrLen h ≤ 4092 * hb) && decide (1 ≤ body) && decide (hb + body ≤ 24576) &&
  leAt h 0x1C 4 &&& 0xFFF8FCFC == 0 && zeros h 0x29 1 && zeros h 0x2C 4 && zeros h 0x50 176 &&
  cs.all (fun c => c.ok body n) && (List.range n).all (fun k => (cs.filter fun c => c.order == k + 1).length == 1) &&
  (List.range n).all (fun k => zeros h (0x138 + 64 * k) 8 && (List.range 3).all fun q => zeros h (0x115 + 64 * k + 12 * q) 3) &&
  cs.all (fun c => cs.all fun d => c.order == d.order || decide (c.first + c.nblk ≤ d.first) || decide (d.first + d.nblk ≤ c.first))

/-- The recipient record of a serial number (Table 13-4). -/
def recipient (h : List Byte) (serial : Nat) : Option (List Byte) :=
  ((List.range (nrcpt h)).map fun k => slice h (0x100 + 64 * ncomp h + 144 * k) 144).find? fun r => leAt r 0 8 == serial

/-- The plaintext of a body block under the content key; none where its tag fails (R375). -/
def openBlock (key salt b : List Byte) : Option (List Byte) :=
  let n := leAt b 0xFF4 2
  (Config.gcmOpen key (salt ++ slice b 0xFF0 4) (slice b 0xFF0 12) (b.take n ++ slice b 0xFE0 16)).map (fit n)

/-- The plaintext of a component; none where a block of it is missing, or fails its CRC or its tag. -/
def compText (l : List (Nat × List Byte)) (key : List Byte) (c : UpdComp) : Option (List Byte) :=
  let salt := slice (headerArea l) 0x20 8
  let parts := (List.range c.nblk).map fun k =>
    let b := blockAt l (hdrBlocks l + c.first + k)
    if leAt b 0xFFC 4 = crc32c (b.take 0xFFC) ∧ b.length = 4096 then openBlock key salt b else none
  if parts.all Option.isSome then some ((parts.flatMap fun p => p.getD []).take c.size) else none

/-! ## Slots and versions -/

/-- The blocks of a slot (0 A, 1 B), and their change. -/
def State.slotBlocks (s : State) (n : Nat) : List (Nat × List Byte) := if n = 0 then s.upd.slot0 else s.upd.slot1
def State.setSlot (s : State) (n : Nat) (l : List (Nat × List Byte)) : State :=
  s.onUpd fun u => if n = 0 then { u with slot0 := l } else { u with slot1 := l }

/-- Slot states of UPD_SLOTs_STAT. -/
def slEMPTY : Nat := 0
def slPARTIAL : Nat := 1
def slVERIFIED : Nat := 2
def slTRIAL : Nat := 3
def slACTIVE : Nat := 4
def slFAILED : Nat := 5
def slPREVIOUS : Nat := 6

/-- A slot's state shown, with the cause and ORDER of a failure. -/
def State.showSlot (s : State) (n st order cause : Nat) : State :=
  let s := ((s.wr (UPD_SLOT_STAT_SSTATE n) st).wr (UPD_SLOT_STAT_ORDER n) order).wr (UPD_SLOT_STAT_CAUSE n) cause
  s.wr (UPD_SLOT_ID_IMAGE_ID n) (if st = slEMPTY then 0 else leAt (blockAt (s.slotBlocks n) 0) 0x10 4)

/-- The target slot: the one that does not hold the active image. -/
def State.updTarget (s : State) : Nat := 1 - s.rd UPD_STAT_ACT_SLOT
def State.updBlocks (s : State) : List (Nat × List Byte) := s.slotBlocks s.updTarget
def State.updHeader (s : State) : List Byte := headerArea s.updBlocks

/-- A slot erased. -/
def State.eraseSlot (s : State) (n : Nat) : State := (s.setSlot n []).showSlot n slEMPTY 0 0

/-- The version in force of a component's kind and what the component makes it (R386). -/
def State.verOf (s : State) (k : Nat) : Nat := s.rd (UPD_VER_VER k)
def UpdComp.makes (c : UpdComp) : Nat := if c.kind = 6 then c.cfmt else c.ver

/-- The same KIND and VER are in force (R385); of a configuration set the version is kept beside its format.
Log entry 19 (DESIGN CHOICE, DEDUCED). -/
def State.inForce (s : State) (c : UpdComp) : Bool := if c.kind = 6 then s.upd.setVer == c.ver else s.verOf c.kind == c.ver

/-- The ORDER of the first component whose requirements fail (R386). -/
def planFault (vers : List (Nat × Nat)) : List UpdComp → Option Nat
  | [] => none
  | c :: t =>
    let v := fun (k : Nat) => match vers.find? fun x => x.1 == k with | some x => x.2 | none => 0
    if c.req.all fun r => r.1 == 0 || (decide (r.2.1 ≤ v r.1) && decide (v r.1 ≤ r.2.2)) then planFault ((c.kind, c.makes) :: vers) t
    else some c.order
def State.planFault (s : State) (h : List Byte) : Option Nat := Sys2Proof.Machine.planFault ((List.range 7).map fun k => (k, s.verOf k)) (plan h)

/-! ## Session states and answers -/

def usIDLE : Nat := 0
def usRECEIVING : Nat := 1
def usVERIFYING : Nat := 2
def usVERIFIED : Nat := 3
def usINSTALLING : Nat := 4
def usTRIAL : Nat := 5
def usFALLBACK : Nat := 6
def State.updState (s : State) : Nat := s.rd UPD_STAT_STATE

/-- A result in UPD_RES and UPD_RES_DET (R394). -/
def State.updResult (s : State) (code detail : Nat) : State :=
  let s := ((s.raise UPD_RES_DONE).wr UPD_RES_REASON 0).wr UPD_RES_CODE code
  (((s.wr UPD_RES_DET_OWNER 0).wr UPD_RES_DET_OSTATE 0).wr UPD_RES_DET_DETAIL detail).reply code 0 []

/-- BUSY, with the owner, the session state and the progress (R380). -/
def State.updBusy (s : State) (reason : Nat) : State :=
  let s := ((s.raise UPD_RES_DONE).wr UPD_RES_REASON reason).wr UPD_RES_CODE cBUSY
  let s := (s.wr UPD_RES_DET_OWNER (s.rd UPD_STAT_OWNER)).wr UPD_RES_DET_OSTATE s.updState
  (s.wr UPD_RES_DET_DETAIL (s.rd UPD_STAT_PROG)).reply cBUSY reason []

/-- Blocks received and PROG in RECEIVING (R393). -/
def State.countBlocks (s : State) : State :=
  let l := s.updBlocks
  let total := if hasBlock l 0 then totalBlocks l else 0
  let s := (s.wr UPD_BLKCNT_TOTAL total).wr UPD_BLKCNT_RECEIVED l.length
  s.wr UPD_STAT_PROG (if total = 0 then 0 else 1000 * l.length / total)

/-- The progress of installation or fall-back (R393). -/
def State.showDone (s : State) (n : Nat) : State :=
  let k := ncomp s.updHeader
  s.wr UPD_STAT_PROG (if k = 0 then 0 else 1000 * n / k)

/-! ## The content key (R378) -/

/-- A management operation of SUP on Hearth, carried out at once with its journal entry. Log entry 19 (DESIGN CHOICE, DEDUCED). -/
def State.keyNow (s : State) (o : KeyOp) : State × Nat :=
  let c := firstCode [s.opGate o, s.opCheck o]
  if c ≠ ksOK then (s.keyResult c [], c)
  else if journalCap ≤ s.rd KSU_JRNL_LIVE then (s.keyResult ksJOURNAL_FULL [], ksJOURNAL_FULL)
  else match s.newRecord o with
    | .error c => (s.keyResult c [], c)
    | .ok r =>
      let q := s.ksu.jseq
      let s := (s.onKsu fun k => { k with jseq := q + 1 }).wr KSU_JRNL_LIVE (s.rd KSU_JRNL_LIVE + 1)
      (s.endManage o ⟨q, o.slot, r, false⟩, ksOK)

/-- The lowest free general slot. Log entry 19 (DESIGN CHOICE, DEDUCED). -/
def State.freeKeySlot (s : State) : Nat := ((List.range 256).find? fun n => decide (8 ≤ n) && (s.key n).isNone).getD 255

/-- Step 4 of R378: the key-encryption slot invalidated, the content slot and it reclaimed. -/
def State.dropKeys (s : State) : State :=
  match s.upd.keys with
  | none => s
  | some (kek, ck) =>
    let op := fun (n slot : Nat) => (⟨n, 0, slot, 0xFF, 0, 0, [], 0, false, false, none, none⟩ : KeyOp)
    let s := (s.keyNow (op 6 kek)).1
    let s := if (s.key ck).isSome && ck != kek then (s.keyNow (op 7 ck)).1 else s
    let s := (s.keyNow (op 7 kek)).1
    s.onUpd fun u => { u with keys := none }

/-- Steps 1 and 2 of R378: the slots used, and Hearth's code. -/
def State.recoverKey (s : State) (h rcpt : List Byte) : State × Nat :=
  let s := s.dropKeys
  let kek := s.freeKeySlot
  let info := h.take 64
  let r := s.keyNow ⟨3, 0, kek, 2, 0x01020380, 64, info ++ slice rcpt 8 64, 0, false, false, none, none⟩
  if r.2 ≠ ksOK then r
  else
    let s := r.1
    let ck := s.freeKeySlot
    let i := s.keyNow ⟨2, 0, ck, kek, 0x01100380, 0, slice rcpt 0x48 60, 0, false, false, none, none⟩
    if i.2 ≠ ksOK then ((i.1.onUpd fun u => { u with keys := some (kek, kek) }).dropKeys, i.2)
    else (i.1.onUpd fun u => { u with keys := some (kek, ck) }, ksOK)

/-- The content key recovered, where Hearth lets it decrypt (step 3 of R378). -/
def State.contentKey (s : State) : Except Nat (List Byte) :=
  match s.upd.keys with
  | none => .error ksNO_SLOT
  | some (_, ck) =>
    let c := s.keyCheck (.owner 0) ck (some uDECRYPT) [0, 1]
    if c ≠ ksOK then .error c else match s.key ck with | some k => .ok k.material | none => .error ksNO_SLOT

/-! ## Ending a session -/

/-- The session returns to IDLE and the lock is released (R380). -/
def State.updIdle (s : State) : State :=
  let s := s.dropKeys.onUpd fun u => { u with wrote := false, alone := false, done := [], pending := none, enableMs := none, supRestarts := 0 }
  let s := ((s.wr UPD_STAT_STATE usIDLE).wr UPD_STAT_OWNER 0).wr UPD_STAT_CONF 0
  (((s.wr UPD_STAT_ORDER 0).wr UPD_STAT_PROG 0).wr UPD_BLKCNT_TOTAL 0).wr UPD_BLKCNT_RECEIVED 0

/-- A refusal that erases the slot and ends the session (R383, R384). -/
def State.updRefuse (s : State) (code detail : Nat) : State := ((s.eraseSlot s.updTarget).updIdle).updResult code detail

/-- The session enters a state in which the owner's timer runs anew. -/
def State.updEnter (s : State) (st : Nat) : State :=
  (s.wr UPD_STAT_STATE st).onUpd fun u => { u with heard := s.ms }

/-! ## Receiving (R381 to R384) -/

/-- The block in UPD_BLK. -/
def State.blockBuffer (s : State) : List Byte := (List.range 1024).flatMap fun n => leBytes 4 (s.rd (UPD_BLK_W n))

/-- The checks of R381, in order; the header is missing until block 0 is held. Log entry 19 (DESIGN CHOICE, DEDUCED). -/
def State.judgeBlock (s : State) (pos : Nat) (b : List Byte) : Option Nat :=
  let l := match s.rd (UPD_SLOT_STAT_SSTATE s.updTarget) with | 1 | 2 => s.updBlocks | _ => if s.upd.wrote then s.updBlocks else []
  let known := hasBlock l 0
  if (if known then totalBlocks l else 24576) ≤ pos then some 0x0D02
  else if leAt b 0xFFC 4 ≠ crc32c (b.take 0xFFC) then some 0x0D03
  else if known ∧ hdrBlocks l ≤ pos ∧ pos ≠ 0 ∧
      !(leAt b 0xFF0 4 == pos - hdrBlocks l && decide (1 ≤ leAt b 0xFF4 2) && decide (leAt b 0xFF4 2 ≤ 4064)) then some 0x0D02
  else none

/-- What the session keeps of the target slot, decided at its first WRITE (R382); none where the WRITE is refused. -/
def State.keepSlot (s : State) (pos : Nat) (b : List Byte) : Option State :=
  let t := s.updTarget
  let st := s.rd (UPD_SLOT_STAT_SSTATE t)
  let decided := s.onUpd fun u => { u with wrote := true }
  if s.upd.wrote then some s
  else if st = slPARTIAL ∨ st = slVERIFIED then
    if pos ≠ 0 then none
    else if blockAt s.updBlocks 0 = b then some decided
    else some ((decided.eraseSlot t))
  else some (decided.eraseSlot t)

/-- Recovery of the content key for the checks of R383: refused with UD_KEY and Hearth's code. -/
def State.keyStep (s : State) (h rcpt : List Byte) : State × Bool :=
  let r := s.recoverKey h rcpt
  if r.2 ≠ ksOK then (r.1.updRefuse 0x0D09 r.2, false) else (r.1, true)

/-- The life-cycle bit of TARGET: PROVISIONED, DEPLOYED and RETURN. -/
def lcTarget (lc : Nat) : Option Nat := if lc = 2 then some 16 else if lc = 3 then some 17 else if lc = 4 then some 18 else none

/-- The signature of the header area by slot 1 (check 2 of R383). -/
def State.headerSigned (s : State) (h : List Byte) : Bool :=
  match s.boundKey 1 uVERIFY [3] with
  | .ok k => Config.ecdsaVerify k.material (h.take (hdrLen h - 64)) (slice h (hdrLen h - 64) 64)
  | .error _ => false

/-- TARGET names the module's revisions and its life-cycle state (check 3 of R383). -/
def State.targeted (s : State) (h : List Byte) : Bool :=
  let t := leAt h 0x1C 4
  t.testBit s.upd.mrev && t.testBit (8 + s.upd.srev) && (match lcTarget s.lc with | some b => t.testBit b | none => false)

/-- The checks of the header area, in order (R383): the result of the WRITE that completed it. -/
def State.checkHeader (s : State) : State :=
  let l := s.updBlocks
  let h := headerArea l
  if !headerOk h (hdrBlocks l) (bodyBlocks l) then s.updRefuse 0x0D04 0
  else if !s.headerSigned h then s.updRefuse 0x0D05 0
  else if !s.targeted h then s.updRefuse 0x0D06 0
  else if leAt h 0x18 4 < s.rd UPD_SECVER_FLOOR then s.updRefuse 0x0D07 0
  else match recipient h s.ksu.serial with
    | none => s.updRefuse 0x0D08 0
    | some r =>
      let k := s.keyStep h r
      if !k.2 then k.1
      else match k.1.planFault h with
        | some o => k.1.updRefuse 0x0D0A o
        | none => k.1.updResult 0x0D00 0

/-- WRITE in RECEIVING (R381 to R383). -/
def State.updWrite (s : State) (pos : Nat) : State :=
  let b := s.blockBuffer
  match s.judgeBlock pos b with
  | some c => s.updResult c 0
  | none =>
    match s.keepSlot pos b with
    | none => s.updResult 0x0D01 0
    | some s =>
      let t := s.updTarget
      let s := (s.setSlot t (sput [] (s.slotBlocks t) pos b)).showSlot t slPARTIAL 0 0
      let s := s.countBlocks
      let l := s.updBlocks
      if hasBlock l 0 && decide (pos < max 1 (hdrBlocks l)) && (List.range (hdrBlocks l)).all (hasBlock l) then s.checkHeader
      else s.updResult 0x0D00 0

/-- The first missing block of the target slot. -/
def missingBlock (l : List (Nat × List Byte)) : Option Nat :=
  if !hasBlock l 0 then some 0 else (List.range (totalBlocks l)).find? fun p => !hasBlock l p

/-- FINISH in RECEIVING (R384). Log entry 19 (DESIGN CHOICE, DEDUCED). -/
def State.updFinish (s : State) : State :=
  match (if s.upd.wrote then missingBlock s.updBlocks else some 0) with
  | some p => s.updResult 0x0D0B p
  | none => (s.wr UPD_STAT_STATE usVERIFYING).wr UPD_STAT_PROG 0

/-- The stored body agrees with the header: hash, tags and components (R384). -/
def bodyOk (l : List (Nat × List Byte)) (key : List Byte) : Bool :=
  let h := headerArea l
  let bs := (List.range (bodyBlocks l)).map fun p => blockAt l (hdrBlocks l + p)
  let owner := fun (p : Nat) => (compsOf h).find? fun c => decide (c.first ≤ p) && decide (p < c.first + c.nblk)
  fit 32 (Config.sha256 (bs.flatMap fun b => b.take 0xFFC)) == slice h 0x30 32 &&
  bs.all (fun b => (openBlock key (slice h 0x20 8) b).isSome) &&
  (List.range (bodyBlocks l)).all (fun p => match owner p with
    | some c => leAt (blockAt l (hdrBlocks l + p)) 0xFF6 1 == c.order
    | none => false)

/-- Verification ends (R384): `bad` a page of the slot read with an uncorrectable error. Log entry 19 (DESIGN CHOICE, DEDUCED). -/
def State.updVerified (s : State) (bad : Bool) : State :=
  match s.contentKey with
  | .error c => s.updRefuse 0x0D09 c
  | .ok k =>
    if bad || !bodyOk s.updBlocks k then s.updRefuse 0x0D0C 0
    else
      let s := (s.showSlot s.updTarget slVERIFIED 0 0).updEnter usVERIFIED
      (((s.wr UPD_STAT_PROG 1000).raise UPD_EVT_VERIFIED).log srcUPD 0x0D41 0 []).updResult 0x0D00 0

/-! ## Installation (R385 to R388) -/

/-- The first component that is not done. -/
def State.nextComp (s : State) : Option UpdComp := (plan s.updHeader).find? fun c => !(s.upd.done.any fun d => d.1 == c.order)

/-- A component is done (R385). Log entry 19 (DESIGN CHOICE, DEDUCED). -/
def State.compDone (s : State) (c : UpdComp) (skipped : Bool) : State :=
  let s := s.onUpd fun u => { u with done := (c.order, skipped) :: u.done, pending := none, enableMs := none }
  let s := if skipped then s else s.wr (UPD_VER_VER c.kind) c.makes
  let s := if c.kind = 6 ∧ !skipped then s.onUpd fun u => { u with setVer := c.ver } else s
  ((s.raise UPD_EVT_COMPONENT).log srcUPD 0x0D42 0 [.n1 c.order, .n1 c.kind]).showDone s.upd.done.length

/-- The trial begins (R388). -/
def State.beginTrial (s : State) : State :=
  let s := (s.showSlot s.updTarget slTRIAL 0 0).updEnter usTRIAL
  let s := s.onUpd fun u => { u with trialEnd := s.ltu.now + u.window * 256 * 65536 }
  (((s.wr UPD_STAT_ORDER 0).wr UPD_STAT_PROG 1000).raise UPD_EVT_TRIAL).log srcUPD 0x0D43 0 []

/-! ## Fall-back (R389) -/

/-- Components that a fall-back has yet to undo, the highest ORDER first: done and not skipped, or pending. -/
def State.toUndo (s : State) : List UpdComp :=
  ((plan s.updHeader).reverse.filter fun c =>
    s.upd.done.any (fun d => d.1 == c.order && !d.2) || s.upd.pending == some c.order)

/-- The fall-back ends: the slot is FAILED and the session IDLE. -/
def State.fallbackEnds (s : State) : State :=
  let u := s.upd
  let t := s.updTarget
  let s := (s.showSlot t slFAILED u.failOrder u.cause).updIdle
  let s := s.onUpd fun u => { u with formerSets := [], formerImage := [], formerVers := [] }
  (s.raise UPD_EVT_FALLBACK).log srcUPD 0x0D45 0 [.n1 u.cause, .n1 u.failOrder]

/-- Every application object removed: no image is loaded (R389, R420). -/
def State.unloadImage (s : State) : State :=
  let none_ : Prog := ⟨0, 0, 0, 3, [], [], [], [], []⟩
  let s := s.discardNext.onPdir fun d => { d with shadow := some [] }
  let s := (s.setBank s.actBank []).onCxe fun c => { c with next := some none_ }
  let s := s.exchange.onCxe fun c => { c with prog := none }
  ((s.lower CXE_STAT_LOADED).wr (UPD_VER_VER 5) 0).countEntries

/-- The component undone: it counts no more as done. Log entry 19 (DESIGN CHOICE, DEDUCED). -/
def State.undo (s : State) (p : UpdComp → Bool) : State :=
  let gone := s.toUndo.filter p
  let s := s.onUpd fun u => { u with
    done := u.done.filter fun d => !(gone.any fun c => c.order == d.1)
    pending := none, enableMs := none, undone := u.undone + gone.length }
  s.showDone s.upd.undone

/-- The next step of a fall-back, as far as no restart is needed: a Knaec component is undone by the former image, submitted as
an exchange; without a former image, or with one refused, no image stays loaded. -/
def State.fallStep (s : State) : State :=
  match s.toUndo with
  | [] => s.fallbackEnds
  | c :: _ =>
    let s := s.wr UPD_STAT_ORDER c.order
    if c.restart then s
    else if s.on CXE_STAT_EXCH_PEND then s
    else
      let r := s.submit s.upd.formerImage
      if !s.upd.formerImage.isEmpty ∧ r.2.code = 0 then r.1
      else
        let s := if s.upd.formerImage.isEmpty then s else s.log srcSUP r.2.code 0 []
        let s := s.unloadImage.undo fun d => d.order == c.order
        if s.toUndo.isEmpty then s.fallbackEnds else s

/-- A fall-back starts (R388, Table 13-6): an installation or a trial is left. Log entry 19 (DESIGN CHOICE, DEDUCED). -/
def State.fallback (s : State) (cause : Nat) : State :=
  if s.updState ≠ usINSTALLING ∧ s.updState ≠ usTRIAL then s
  else
    let order := s.rd UPD_STAT_ORDER
    let knaec := match s.nextComp with | some c => c.order == order && c.kind == 5 | none => false
    let armed := s.on CXE_STAT_EXCH_PEND
    let s := (s.wr UPD_STAT_STATE usFALLBACK).wr UPD_STAT_PROG 0
    let s := s.onUpd fun u => { u with
      cause := cause, failOrder := order, undone := 0
      pending := if armed && knaec then some order else u.pending }
    (if knaec && !armed then s.discardNext else s).fallStep

/-- Installation goes on with the next component (R385): skipped where it is in force; a Knaec component is submitted by a module
that may exchange; a RESTART component waits for its restart. -/
def State.installStep (s : State) : Nat → State
  | 0 => s
  | n + 1 =>
    match s.nextComp with
    | none => s.beginTrial
    | some c =>
      let s := s.wr UPD_STAT_ORDER c.order
      if s.inForce c then (s.compDone c true).installStep n
      else if c.restart then s
      else if s.on CXE_STAT_EXCH_PEND || s.cxe.next.isSome || !s.inControl then s
      else match s.contentKey with
        | .error _ => s.fallback 5
        | .ok k =>
          match compText s.updBlocks k c with
          | none => s.fallback 7
          | some bs =>
            let r := s.submit bs
            if r.2.code ≠ 0 then r.1.fallback 5
            else if r.1.paired ∧ r.1.on PLK_STAT_TWIN_SYNCED then
              (r.1.sendImage bs).onPlk fun p => { p with imgAwait := true }
            else r.1
def State.installNext (s : State) : State := s.installStep 17

/-- An image taken into force at X ends a Knaec component, or the undoing of one (R385, R389). -/
def State.updExchanged (s : State) : State :=
  let s := match s.cxe.prog with | some p => s.wr (UPD_VER_VER 5) p.ver | none => s
  if s.updState = usINSTALLING then
    match s.nextComp with
    | some c => if c.kind = 5 ∧ s.verOf 5 = c.ver then (s.compDone c false).installNext else s
    | none => s
  else if s.updState = usFALLBACK then
    match s.toUndo with
    | c :: _ =>
      if c.kind ≠ 5 then s
      else if s.upd.pending = some c.order then
        (s.onUpd fun u => { u with done := (c.order, false) :: u.done, pending := none }).fallStep
      else
        if s.cfg.image = s.upd.formerImage then (s.undo fun d => d.order == c.order).fallStep else s
    | [] => s
  else s

/-- SUP goes on with a Knaec component that had to wait: for CONTROL, or for an exchange armed before (R385, R389, R392). -/
def State.updResume (s : State) : State :=
  if s.on PWR_STAT_PF ∨ s.hlt.supRestart ∨ !s.on LTU_SCHED_EN ∨ s.on CXE_STAT_EXCH_PEND ∨ s.cxe.next.isSome then s
  else if s.updState = usINSTALLING ∧ s.upd.pending.isNone then s.installNext
  else if s.updState = usFALLBACK then s.fallStep
  else s

/-- LTU_SCHED.EN is set after a restart of the update: the pending component is done (R385). -/
def State.updEnabled (s : State) : State :=
  if s.updState ≠ usINSTALLING then s
  else match s.upd.pending with
    | none => s.installNext
    | some o =>
      match (plan s.updHeader).find? fun c => c.order == o with
      | some c => (s.compDone c false).installNext
      | none => s

/-- INSTALL in VERIFIED (R385, R386, R392). -/
def State.updInstall (s : State) (alone : Bool) : State :=
  match s.planFault s.updHeader with
  | some o => s.updResult 0x0D0A o
  | none =>
    let restarts := (plan s.updHeader).any fun c => c.restart && !s.inForce c
    if s.paired && restarts && !s.on PLK_STAT_TWIN_SYNCED && !alone then s.updResult 0x0D0F 0
    else
      let s := s.onUpd fun u => { u with
        alone := alone, done := [], pending := none, supRestarts := 0, formerSets := s.cfg.sets, formerImage := s.cfg.image
        formerVers := (List.range 7).map s.verOf, formerSet := u.setVer }
      let s := (s.wr UPD_STAT_STATE usINSTALLING).wr UPD_STAT_PROG 0
      let s := s.installNext
      s.updResult 0x0D00 0

/-- Confirmation (R388). -/
def State.confirm (s : State) : State :=
  let t := s.updTarget
  let o := 1 - t
  let sec := leAt s.updHeader 0x18 4
  let s := s.showSlot t slACTIVE 0 0
  let s := if s.rd (UPD_SLOT_STAT_SSTATE o) = slACTIVE then s.showSlot o slPREVIOUS 0 0 else s
  let s := (s.wr UPD_SECVER_FLOOR (max sec (s.rd UPD_SECVER_FLOOR))).updIdle
  let s := (s.wr UPD_STAT_ACT_SLOT t).onUpd fun u => { u with formerSets := [], formerImage := [], formerVers := [] }
  (s.raise UPD_EVT_CONFIRMED).log srcUPD 0x0D44 0 []

/-! ## Commands (R379, R380) -/

/-- The update commands of Table 13-5. -/
inductive UpdCmd where
  | open_ | write (pos : Nat) | finish | install | confirm | fallback | abort | status
deriving DecidableEq, Repr

/-- A command is accepted in a session state. -/
def UpdCmd.accepted (st : Nat) : UpdCmd → Bool
  | .open_ => st == usIDLE
  | .write _ | .finish => st == usRECEIVING
  | .install => st == usVERIFIED
  | .confirm | .fallback => st == usTRIAL
  | .abort => st == usRECEIVING || st == usVERIFIED
  | .status => true

/-- OPEN in IDLE (R379, R380, R392). Log entry 19 (DESIGN CHOICE, DEDUCED). -/
def State.updOpen (s : State) (src : Source) : State :=
  let conf := s.on UPD_ARG_CONF
  if s.rd UPD_ARG_W = 0 then s.updResult 0x0D02 0
  else if s.paired && !conf then s.updResult 0x0D0F 0
  else
    let s := ((s.updEnter usRECEIVING).wr UPD_STAT_OWNER src.code).wr UPD_STAT_CONF (bit conf)
    let s := s.onUpd fun u => { u with wrote := false, window := s.rd UPD_ARG_W }
    (((s.wr UPD_STAT_PROG 0).wr UPD_BLKCNT_TOTAL 0).wr UPD_BLKCNT_RECEIVED 0).updResult 0x0D00 0

/-- STATUS: the session state, owner and progress, and the slot states. Log entry 19 (DESIGN CHOICE, DEDUCED). -/
def State.updStatus (s : State) : State :=
  let w := fun (a : Nat) => BitVec.ofNat 32 (fieldsWord s a (regFields a))
  { (s.updResult 0x0D00 0) with answer := ⟨0x0D00, 0, [w 0x40100000, w 0x40100080, w 0x40100088], false⟩ }

/-- A command accepted. -/
def State.updAct (s : State) (src : Source) : UpdCmd → State
  | .open_ => s.updOpen src
  | .write pos => s.updWrite pos
  | .finish => s.updFinish
  | .install => s.updInstall (s.on UPD_ARG_ALONE)
  | .confirm => s.confirm.updResult 0x0D00 0
  | .fallback => (s.fallback 1).updResult 0x0D00 0
  | .abort => s.updIdle.updResult 0x0D00 0
  | .status => s.updStatus

/-- A command of UPD_CMD judged in the order of R379; a module that SUP does not serve, or a standby, is BUSY (R343, R429).
Log entry 19 (DESIGN CHOICE, DEDUCED). -/
def State.updCommand (s : State) (src : Source) (ten : Nat) (c : UpdCmd) : State :=
  let s := s.lower UPD_RES_DONE
  let s := if s.rd UPD_STAT_OWNER = src.code then s.onUpd fun u => { u with heard := s.ms } else s
  let gate := if c = .status ∧ s.supGate = some bSTANDBY then none else s.supGate
  let trial := s.rd (UPD_SLOT_STAT_SSTATE 0) == slTRIAL || s.rd (UPD_SLOT_STAT_SSTATE 1) == slTRIAL
  let owner := s.rd UPD_STAT_OWNER
  let st := s.updState
  match gate with
  | some r => s.updBusy r
  | none =>
    if ten ≠ 0 then s.updResult 0x0D0E 0
    else if c = .status then s.updStatus
    else if c = .open_ ∧ trial then s.updResult 0x0D0D 0
    else if owner ≠ 0 ∧ owner ≠ src.code then s.updBusy 0x80
    else if st = usVERIFYING ∨ st = usINSTALLING ∨ st = usFALLBACK then s.updBusy 0x81
    else if !c.accepted st then s.updResult 0x0D01 0
    else s.updAct src c

/-- 60 s without a command of the owner (R380). -/
def State.lockTimeout (s : State) : State :=
  let st := s.updState
  let late : Bool := decide (s.upd.heard + 60000 ≤ s.ms)
  if s.rd UPD_STAT_OWNER = 0 ∨ !late ∨ !(st == usRECEIVING || st == usVERIFIED || st == usTRIAL) then s
  else
    let s := (s.raise UPD_EVT_LOCK_TIMEOUT).log srcUPD 0x0D46 0 []
    if st = usTRIAL then s.wr UPD_STAT_OWNER 0 else s.updIdle

/-- The trial window ends (R388). -/
def State.windowEnds (s : State) : State :=
  if s.updState ≠ usTRIAL ∨ s.cycleEnd ≤ s.upd.trialEnd ∨ s.on PWR_STAT_PF then s
  else
    let s := s.forwardTo s.upd.trialEnd
    if s.on UPD_STAT_CONF then s.confirm else s.fallback 2

/-! ## Start-up (R390, R391) -/

/-- A slot's content key recovered and the components that `want` selects loaded from it: plaintexts by kind, and Hearth's code.
Blocks that NAND cannot read count as missing. -/
def State.loadSlot (s : State) (n : Nat) (bad : List Nat) (want : UpdComp → Bool) : State × Nat × List (UpdComp × Option (List Byte)) :=
  let l := (s.slotBlocks n).filter fun b => !bad.contains b.1
  let h := headerArea l
  match recipient h s.ksu.serial with
  | none => (s, ksNO_SLOT, [])
  | some r =>
    let k := s.recoverKey h r
    match k.1.contentKey with
    | .error c => (k.1.dropKeys, if k.2 ≠ ksOK then k.2 else c, [])
    | .ok key => (k.1.dropKeys, ksOK, ((plan h).filter want).map fun c => (c, compText l key c))

/-- What a component loaded at start-up puts in force. -/
def State.putInForce (s : State) (c : UpdComp) (bs : List Byte) : State :=
  let s := s.wr (UPD_VER_VER c.kind) c.makes
  if c.kind = 6 then { s with cfg := { s.cfg with sets := bs }, upd := { s.upd with setVer := c.ver } }
  else if c.kind = 3 then
    let v := fun (k : Nat) => Config.freeValue (s.free + k)
    (((s.wr FBE_UCVER_CAN (v 0)).wr FBE_UCVER_RS485 (v 1)).wr FBE_UCVER_DALI (v 2)).tookOpens 3
  else s

/-- A helper left without microcode. -/
def State.leaveBare (s : State) (kind : Nat) : State :=
  let s := (s.wr (UPD_VER_VER kind) 0).onUpd fun u => { u with bare := kind :: u.bare }
  if kind = 3 then ((s.wr FBE_UCVER_CAN 0).wr FBE_UCVER_RS485 0).wr FBE_UCVER_DALI 0 else s

/-- The active slot's firmware and microcode; a failed check leaves the helper bare and is recorded (R391).
Log entry 19 (DESIGN CHOICE, DEDUCED). -/
def State.loadActive (s : State) (bad : List Nat) : State :=
  let n := s.rd UPD_STAT_ACT_SLOT
  let s := s.onUpd fun u => { u with bare := [] }
  if s.rd (UPD_SLOT_STAT_SSTATE n) ≠ slACTIVE then s
  else
    let r := s.loadSlot n bad fun c => decide (c.kind ≤ 4)
    let s := r.1
    if r.2.1 ≠ ksOK then
      [1, 2, 3, 4].foldl State.leaveBare (s.log srcUPD 0x0D47 0 [.n2 r.2.1])
    else
      let failed := r.2.2.filter fun x => x.2.isNone
      let s := if failed.isEmpty then s else s.log srcUPD 0x0D47 0 []
      r.2.2.foldl (fun s x => match x.2 with | some bs => s.putInForce x.1 bs | none => s.leaveBare x.1.kind) s

/-- The components of the slot being installed or on trial that are in force or pending; false where one cannot be read. -/
def State.loadTrial (s : State) (bad : List Nat) : State × Bool :=
  let own := fun (c : UpdComp) => c.restart &&
    (s.upd.done.any (fun d => d.1 == c.order && !d.2) || s.upd.pending == some c.order)
  if !((plan s.updHeader).any own) then (s, true)
  else
    let r := s.loadSlot s.updTarget bad own
    if r.2.1 ≠ ksOK ∨ r.2.2.any (fun x => x.2.isNone) then (r.1, false)
    else (r.2.2.foldl (fun s x => match x.2 with | some bs => s.putInForce x.1 bs | none => s) r.1, true)

/-- Step 4 of Table 15-3: firmware and microcode are loaded and an interrupted update resumes (R390, R391). `shift` moves the
window's end to the line time of this start-up. -/
def State.updStart (s : State) (restart : Bool) (badActive badTarget : List Nat) (shift : Nat → Nat) : State :=
  let st := s.updState
  let back : Bool := restart && st == usFALLBACK && s.toUndo.any fun c => c.restart
  let old := s.upd.formerVers
  let s := if back then [1, 2, 3, 4, 6].foldl (fun s k => s.wr (UPD_VER_VER k) (old.getD k 0)) s else s
  let s := s.loadActive badActive
  if st = usRECEIVING ∨ st = usVERIFYING ∨ st = usVERIFIED then s.updIdle
  else if st = usINSTALLING ∨ st = usTRIAL then
    let r := s.loadTrial badTarget
    let s := r.1.onUpd fun u => { u with
      trialEnd := shift u.trialEnd, heard := s.ms, enableMs := if u.pending.isSome then some s.ms else none }
    if r.2 then s else s.fallback 7
  else if st = usFALLBACK then
    let u := s.upd
    let s := if back then
        let s := { s with cfg := { s.cfg with sets := u.formerSets }, upd := { s.upd with setVer := u.formerSet } }
        s.undo fun c => c.restart
      else s
    if s.toUndo.isEmpty then s.fallbackEnds else s
  else s


end Sys2Proof.Machine
end

