-- ==== Sys2Proof/Machine/Cxe.lean ====
section
/-! DEFINITION. The meanings of the cyclic-execution commands and of the bank swap (spec/02_line_time.md R63, spec/05). -/

namespace Sys2Proof.Machine

/-- CXE takes activations: clocks on, no legacy stop, no sleep entry, and the module acts on the field or takes due times from a
switch-over's X on (R147, R335, R424, R426). -/
def State.takesActs (s : State) : Bool :=
  s.awake && !s.on CXE_STAT_STOPPED && !s.on PWR_STAT_ENTRY && (s.inControl || s.plk.atX)

/-- A kind 4 event (R138). The outgoing module of a switch-over abandons an activation that reaches the next due time of its
task (R335). -/
def State.taskDue (s : State) (t due : Nat) : State :=
  let s := if t = 0 then s.applyChange else s
  if s.takesActs then s.activate t due
  else if s.plk.leaving then (match s.act t with | some a => s.abandon a | none => s)
  else s

/-- BANK_SWAP: at the armed X, when every event due before it has been issued (R63); an armed exchange takes effect with it
(R88, R165). -/
def execBankSwap (s : State) : Host.Outcome State Fault Refusal :=
  let x := s.swapTime
  let clear : Bool := match s.nextDue with | some d => decide ((x : Int) ≤ d.due) | none => true
  if s.on LTU_SCHED_SWAP_PEND ∧ clear ∧ x < s.cycleEnd then
    let was := s.on CXE_STAT_EXCH_PEND
    let s := (s.forwardTo x).bankSwap
    .next (if was then s.updExchanged else s)
  else .next s

/-- TASK_ACTIVATION (R138). -/
def execTaskActivation (task : Fin 32) (s : State) : Host.Outcome State Fault Refusal :=
  .next (s.onEvent 4 task.val fun s due => s.taskDue task.val due)

/-- ACTIVATION_DISPATCH: the first pending activation in the order of R139 that finds a free lane starts (R139 to R142). -/
def execActivationDispatch (s : State) : Host.Outcome State Fault Refusal :=
  if s.takesActs ∨ (s.plk.leaving ∧ s.cxeRuns) then
    match firstCand s s.cxe.acts with
    | some c => .next (s.dispatchTo c.1 c.2.1 c.2.2)
    | none => .next s
  else .next s

/-- OUTPUT_COMMIT: a kind 2 event commits the ended activation of its task (R143, R146). -/
def execOutputCommit (task : Fin 32) (s : State) : Host.Outcome State Fault Refusal :=
  .next (s.onEvent 2 task.val fun s _ =>
    match s.act task.val with
    | some a => if a.ended ∧ s.cxeRuns then s.commit a else s
    | none => s)

/-- DEADLINE_OVERRUN: an activation that has not ended at its deadline (R145 to R147). A legacy stop is a cause of release
(Table 11-3). -/
def execDeadlineOverrun (task : Fin 32) (s : State) : Host.Outcome State Fault Refusal :=
  let s := match s.act task.val, s.taskInfo task.val with
    | some a, some i => if !a.ended && !a.overrun then s.forwardTo (a.deadline i) else s
    | _, _ => s
  match s.missed task.val with
  | none => .next s
  | some (a, i) =>
    if s.on CXE_STAT_MODE then .next ((s.legacyStop task.val).controlRelease 3) else .next (s.overrunNative a i)

/-- CXE_RESTART: the operator ends a legacy stop; otherwise CX_NOT_STOPPED (R148). Log entry 18 (DESIGN CHOICE, DEDUCED). -/
def execCxeRestart (ten : Tenant) (s : State) : Host.Outcome State Fault Refusal :=
  match s.supGate with
  | some r => .next (s.reply cBUSY r [])
  | none =>
    if ten = 0 ∧ s.on CXE_STAT_STOPPED then .next ((s.lower CXE_STAT_STOPPED).reply 0x0500 0 []) else .next (s.reply 0x0504 0 [])

/-- CXE_RESTORE: accepted only while the scheduler is disabled (R156). -/
def execCxeRestore (bank : Fin 2) (s : State) : Host.Outcome State Fault Refusal :=
  if s.on LTU_SCHED_EN then .next s else .next (s.restoreBank bank.val)

/-- CODE_FETCH_FAULT: the activation on the lane is abandoned, its task disabled and its staging set written with 0x86; in
legacy stop mode the engine stops (R151). Both are causes of release. -/
def execCodeFetchFault (lane : Fin 8) (s : State) : Host.Outcome State Fault Refusal :=
  if !s.cxeRuns then .next s
  else match s.actOn lane with
    | none => .next s
    | some a =>
      let s := ((s.raise CXE_EVT_MEM_FAULT).log srcCXE 0x054A (s.taskTen a.task) []).uncorrectable
      if s.on CXE_STAT_MODE then .next ((s.legacyStop a.task).controlRelease 3)
      else
        let s := (s.abandon a).raise (CXE_TASK_CFG_DIS a.task)
        let s := match s.taskInfo a.task with | some i => s.qualSet i 0x86 | none => s
        .next (s.controlRelease 4)

/-- SNAPSHOT_COMPLETE after `us` µs; `faulty` are the words that read with an uncorrectable error (R151, R154). In a pair the
rows and the record are mirrored (R338). -/
def execSnapshotComplete (us : Nat) (faulty : List Nat) (s : State) : Host.Outcome State Fault Refusal :=
  if s.on CXE_STAT_SNAP_BUSY then
    let rows := s.cxe.pend
    let t := s.snapTarget
    let s := s.completeSnap us faulty
    .next (s.mirrorSnapshot rows t (s.rd CXE_SNAP_SEQ_SEQ))
  else .next s

/-- TIMER_CELL_REFRESH: every running timer cell is brought up to date (R117). -/
def execTimerCellRefresh (s : State) : Host.Outcome State Fault Refusal :=
  .next (s.curMap.timers.foldl (fun s c => s.refreshTimer c.1) s)

/-- LOAD_PORT_WRITE: one word stored at WADDR, or ignored and counted; the address advances by 4 (R158).
Log entry 6 (DESIGN CHOICE, DEDUCED). -/
def execLoadPortWrite (value : Word) (s : State) : Host.Outcome State Fault Refusal :=
  let off := 4 * s.rd CXE_LDP_ADDR_WADDR
  let s := if s.loadPortProtected off then s.bump HLT_ERR_B_LDP else s.writeData off value
  .next (s.tickField CXE_LDP_ADDR_WADDR)

/-- VALUE_CHANGE_DATA: `n` + 1 words from `wofs` take CXE_VCHG_DATA0 on (R159). -/
def execValueChangeData (ten : Tenant) (n : Fin 16) (wofs : BitVec 19) (s : State) : Host.Outcome State Fault Refusal :=
  let vs := (List.range (n.val + 1)).map fun k => s.real (CXE_VCHG_DATA_DATA k)
  .next (s.requestChange (s.changeInBlock ten.val wofs.toNat (n.val + 1)) (.words wofs.toNat vs))

/-- VALUE_CHANGE_PRESET: the preset of a physical timer cell takes CXE_VCHG_DATA0 (R159). -/
def execValueChangePreset (ten : Tenant) (cell : BitVec 12) (s : State) : Host.Outcome State Fault Refusal :=
  .next (s.requestChange (s.cellOfTenant ten.val cell.toNat) (.preset cell.toNat (s.real (CXE_VCHG_DATA_DATA 0))))

/-- VALUE_CHANGE_APPLY: the pending change is applied at the next due time of task 0 (R160). -/
def execValueChangeApply (s : State) : Host.Outcome State Fault Refusal :=
  match s.issuable 4 0 with
  | some d => .next (s.forwardTo d.due.toNat).applyChange
  | none => .next s

/-- EXCHANGE_ARM: X is chosen and LTU and PDIR are armed; a standby arms its twin's X, in the twin's line time (R164, R343). -/
def execExchangeArm (twinX : Option (BitVec 56)) (s : State) : Host.Outcome State Fault Refusal :=
  .next (s.armExchange (twinX.map BitVec.toNat))

end Sys2Proof.Machine
end

