-- ==== Sys2Proof/Machine/Fbe.lean ====
section
/-! DEFINITION. The meanings of the field-bus commands (spec/09_field_buses.md). Line times of frames, and the CAN error
counters as ISO 11898-1 leaves them, are handed over by the ports. -/

namespace Sys2Proof.Machine

/-- BUS_WINDOW_OPENING: LTU issues the kind 5 event of window `win` mod 8 of port `win` div 8 (R256, R261). -/
def execBusWindowOpening (win : Fin 224) (s : State) : Host.Outcome State Fault Refusal :=
  .next (s.onEvent 5 win.val fun s due => s.openWindow (win.val / 8) (win.val % 8) due)

/-- BUS_WINDOW_CLOSE (R264): the close of an open window. -/
def execBusWindowClose (win : Fin 224) (s : State) : Host.Outcome State Fault Refusal :=
  match (s.port (win.val / 8)).bind fun p => (p.wins.find? fun x => x.win == win.val % 8).bind fun x => x.opened with
  | some (_, close) =>
    if close < s.cycleEnd then .next ((s.forwardTo close).closeWindow (win.val / 8) (win.val % 8)) else .next s
  | none => .next s

/-- FRAME_START: a queued frame wins arbitration, or its driver or start bit begins; `sof` is the line time of its start
(R263 to R265). -/
def execFrameStart (port : Fin 28) (obj : Fin 4096) (sof : BitVec 56) (s : State) : Host.Outcome State Fault Refusal :=
  .next (s.frameStart port.val obj.val sof.toNat)

/-- FRAME_SENT (R262). -/
def execFrameSent (port : Fin 28) (tec rec_ : Nat) (s : State) : Host.Outcome State Fault Refusal :=
  let s := s.frameSent port.val
  if portType port.val = 0 then .next (s.canCounts port.val tec rec_) else .next s

/-- ARBITRATION_LOST: the frame stays queued (R272). -/
def execArbitrationLost (port : Fin 10) (s : State) : Host.Outcome State Fault Refusal :=
  if s.maySend port.val then .next (s.bump (FBE_P_ARB_ARBLOST port.val)) else .next s

/-- CAN_ERROR: an error of the kind of LEC, 1 to 6 (R272). -/
def execCanError (port : Fin 10) (lec : Fin 7) (tec rec_ : Nat) (s : State) : Host.Outcome State Fault Refusal :=
  let n := port.val
  if s.mayReceive n ∧ lec.val ≠ 0 then
    let s := s.wr (FBE_P_STAT_LEC n) lec.val
    let s := s.bump (match lec.val with
      | 6 => FBE_P_ERRCNT_E0 n
      | 3 => FBE_P_ERRCNT_E3 n
      | 4 => FBE_P_ERRCNT_E2 n
      | 5 => FBE_P_ERRCNT_E2 n
      | _ => FBE_P_ERRCNT_E1 n)
    .next ((s.requeue n 0).canCounts n tec rec_)
  else .next s

/-- BUS_ON: recovery from bus-off completes (R272). -/
def execBusOn (port : Fin 10) (s : State) : Host.Outcome State Fault Refusal :=
  let n := port.val
  match s.port n with
  | some p =>
    if s.rd (FBE_P_STAT_STATE n) = bsBUSOFF ∧ p.recovering then
      let s := ((s.wr (FBE_P_STAT_TEC n) 0).wr (FBE_P_STAT_REC n) 0).setPort n fun p => { p with recovering := false }
      .next ((s.portUp n).log srcFBE 0x0942 0 [.n1 n])
    else .next s
  | none => .next s

/-- FRAME_RECEIVED: `start` is the line time of the frame's start, `full` that it found the receive FIFO full (R266 to
R270). -/
def execFrameReceived (port : Fin 28) (frame : BusFrame) (start : BitVec 56) (full : Bool) (tec rec_ : Nat) (s : State) :
    Host.Outcome State Fault Refusal :=
  let s := s.frameReceived port.val frame start.toNat full
  if portType port.val = 0 ∧ s.mayReceive port.val then .next (s.canCounts port.val tec rec_) else .next s

/-- SILENCE_TIMEOUT (R268). -/
def execSilenceTimeout (obj : Fin 4096) (s : State) : Host.Outcome State Fault Refusal := .next (s.silence obj.val)

/-- RS485_COLLISION (R276). -/
def execRs485Collision (port : Fin 28) (s : State) : Host.Outcome State Fault Refusal :=
  if portType port.val = 1 then .next (s.collision port.val) else .next s

/-- QUERY_REPLY_TIMEOUT (R277). -/
def execQueryReplyTimeout (port : Fin 28) (s : State) : Host.Outcome State Fault Refusal := .next (s.replyTimeout port.val)

/-- DALI_ANSWER_WINDOW_END (R280). -/
def execDaliAnswerWindowEnd (port : Fin 28) (answer : DaliAnswer) (s : State) : Host.Outcome State Fault Refusal :=
  .next (s.daliAnswer port.val answer)

/-- DALI_COLLISION (R279). -/
def execDaliCollision (port : Fin 28) (s : State) : Host.Outcome State Fault Refusal :=
  if portType port.val = 2 then .next (s.collision port.val) else .next s

/-- DALI_BUS_DOWN: a bus below 9.5 V for 45 ms (R281). -/
def execDaliBusDown (port : Fin 28) (s : State) : Host.Outcome State Fault Refusal :=
  let n := port.val
  if portType n = 2 ∧ (s.port n).isSome ∧ s.fbeRuns ∧ s.rd (FBE_P_STAT_STATE n) ≠ bsBUSOFF then
    let s := (s.requeue n 0).setPort n fun p => { p with awaits := none }
    .next ((((s.busState n bsBUSOFF).bump (FBE_P_ERRCNT_E3 n)).raise FBE_EVT_DALI_DOWN).log srcFBE 0x0947 0 [.n1 n])
  else .next s

/-- DALI_BUS_UP: the port sends again from the next opening (R281). -/
def execDaliBusUp (port : Fin 28) (s : State) : Host.Outcome State Fault Refusal :=
  let n := port.val
  if portType n = 2 ∧ s.rd (FBE_P_STAT_STATE n) = bsBUSOFF then
    let s := s.setPort n fun p => { p with wins := p.wins.map fun (x : BusWin) => { x with opened := none } }
    .next ((s.portUp n).log srcFBE 0x0948 0 [.n1 n])
  else .next s

/-- CAN_WAKE: a sleeping port sees what wakes it (R274). -/
def execCanWake (port : Fin 10) (seen : WakeSeen) (s : State) : Host.Outcome State Fault Refusal :=
  match s.port port.val with
  | none => .next s
  | some p =>
    match p.wakeCause seen with
    | some c =>
      if s.rd PWR_STAT_SLEEP = 0 then .next s
      else .next (((s.raise FBE_EVT_WAKE).log srcFBE 0x0946 p.tenant [.n1 port.val, .n1 c]).wakeEvent 1)
    | none => .next s

/-- FRAME_CANCEL: a write of FBE_CMD with OP 1 (R284). -/
def execFrameCancel (ten : Tenant) (obj : Fin 4096) (s : State) : Host.Outcome State Fault Refusal :=
  .next (s.busCancel ten.val obj.val)

/-- BUS_RECOVER: a write of FBE_CMD with OP 2 (R284). -/
def execBusRecover (ten : Tenant) (target : Fin 4096) (s : State) : Host.Outcome State Fault Refusal :=
  .next (s.busRecover ten.val target.val)

/-- FBE_SOF_LO_READ: the low word is returned, the high word latched (R286). -/
def execFbeSofLoRead (port : Fin 28) (s : State) : Host.Outcome State Fault Refusal :=
  let t := match s.port port.val with | some p => p.sof | none => 0
  .next ((s.wr (FBE_P_SOF_HI_T_HI port.val) (t / 2 ^ 32)).answerWord t)

/-- BUS_INTEGRATION_COMPLETE: 11 recessive bits on an integrating CAN port (R274). -/
def execBusIntegrationComplete (port : Fin 10) (s : State) : Host.Outcome State Fault Refusal :=
  if (s.port port.val).isSome ∧ s.rd (FBE_P_STAT_STATE port.val) = bsIDLE ∧ s.awake then .next (s.portUp port.val) else .next s

end Sys2Proof.Machine
end

