-- ==== Sys2Proof/Machine/Fio.lean ====
section
/-! DEFINITION. The meanings of the field I/O commands (spec/08_field_io.md). -/

namespace Sys2Proof.Machine

/-- INPUT_UPDATE: the next update instant of a channel comes (R237, R240). -/
def execInputUpdate (ch : Fin 256) (sensed : Sensed) (selfTest : Bool) (s : State) : Host.Outcome State Fault Refusal :=
  .next (s.inputUpdate ch.val sensed selfTest)

/-- PULSE_EDGE: a qualified edge raises the count modulo 2^32; the counter stops in S3 (R239). -/
def execPulseEdge (ch : Fin 256) (s : State) : Host.Outcome State Fault Refusal :=
  match s.fch ch.val with
  | some c =>
    if c.mode = fmPULSE ∧ s.powered ∧ s.rd PWR_STAT_SLEEP ≠ 3 then .next (s.tickField (FIO_CH_VAL_VAL ch.val)) else .next s
  | none => .next s

/-- DI_CHANGE: the filtered level of a channel changes; `sample` is the instant of the first raw sample (R238, R247). -/
def execDiChange (ch : Fin 256) (level : Bool) (sample : BitVec 56) (s : State) : Host.Outcome State Fault Refusal :=
  .next (s.diChange ch.val level sample.toNat)

/-- CHANGE_WINDOW_END (R238). -/
def execChangeWindowEnd (ch : Fin 256) (s : State) : Host.Outcome State Fault Refusal := .next (s.windowEnd ch.val)

/-- OUTPUT_APPLICATION (R241 to R243). -/
def execOutputApplication (ch : Fin 256) (s : State) : Host.Outcome State Fault Refusal := .next (s.applyOutput ch.val)

/-- DO_SHORT (Table 8-6). -/
def execDoShort (ch : Fin 256) (s : State) : Host.Outcome State Fault Refusal := .next (s.doShort ch.val)

/-- DO_RETRY (Table 8-6). -/
def execDoRetry (ch : Fin 256) (s : State) : Host.Outcome State Fault Refusal := .next (s.doRetry ch.val)

/-- DO_OPEN_LOAD: on a DO with OLD = 1 (Table 8-6). -/
def execDoOpenLoad (ch : Fin 256) (s : State) : Host.Outcome State Fault Refusal :=
  match s.fch ch.val with
  | some c => if c.mode = fmDO ∧ c.opt.testBit 0 then .next (s.openLoad ch.val c) else .next s
  | none => .next s

/-- AO_V_SHORT: driving continues, limited (Table 8-6). -/
def execAoVShort (ch : Fin 256) (s : State) : Host.Outcome State Fault Refusal :=
  match s.fch ch.val with
  | some c => if c.mode = fmAOV then .next ((s.raise (FIO_CH_DIAG_SHORT ch.val)).raise FIO_EVT_SHORT) else .next s
  | none => .next s

/-- AO_I_OPEN (Table 8-6). -/
def execAoIOpen (ch : Fin 256) (s : State) : Host.Outcome State Fault Refusal :=
  match s.fch ch.val with
  | some c => if c.mode = fmAOI then .next (s.openLoad ch.val c) else .next s
  | none => .next s

/-- OUTPUT_FAULT_CLEAR (Table 8-6). -/
def execOutputFaultClear (ch : Fin 256) (fault : OutFault) (s : State) : Host.Outcome State Fault Refusal :=
  .next (s.faultClear ch.val fault)

/-- VFLD_LOW (R246). -/
def execVfldLow (bank : Fin 8) (mv10 : Nat) (s : State) : Host.Outcome State Fault Refusal := .next (s.feedLow bank.val mv10)

/-- VFLD_OK (R246). -/
def execVfldOk (bank : Fin 8) (mv10 : Nat) (s : State) : Host.Outcome State Fault Refusal := .next (s.feedOk bank.val mv10)

/-- FIO_RESET: a write of FIO_CMD with OP 1 (R248). -/
def execFioReset (ten : Tenant) (ch : Fin 256) (s : State) : Host.Outcome State Fault Refusal :=
  .next (s.fioReset ten.val ch.val)

end Sys2Proof.Machine
end

