-- ==== Sys2Proof/Machine/GrnOps.lean ====
section
/-! DEFINITION. Granary's requests, its ring and its reads (R400 to R405). -/

namespace Sys2Proof.Machine

/-- The result of a request (GRN_RRES). -/
def State.grnResult (s : State) (code : Nat) : State :=
  (((s.raise GRN_RRES_DONE).wr GRN_RRES_CODE code).wr GRN_RRES_END 0).wr GRN_RRES_NREC 0 |>.reply code 0 []

/-- The capacity of the NAND ring in records, and of one erase block (Table 14-3). -/
def ringCap : Nat := 2097152
def eraseRun : Nat := 4096

/-- A spare NAND block is used (R28); with none left HLT reports the NAND end of life. -/
def State.retireBlock (s : State) : State :=
  if 0 < s.nand.spare then
    let s := { s with nand := { s.nand with spare := s.nand.spare - 1 } }
    if s.nand.spare = 0 then (s.raise HLT_EVT_EOL).log srcHLT 0x0F4B 0 [.n1 1] else s
  else s

/-- A run of 64 staged records copied to the ring (R400). A freeze stops copies that would need an erasure (R402). -/
def State.copyPage (s : State) : State :=
  let run := takeRoom 64 s.grn.staging
  if recCount s.grn.staging < 64 then s
  else if ringCap < recCount s.grn.ring + 64 then
    if s.grn.frozen.isSome then s
    else
      let old := takeRoom eraseRun s.grn.ring
      let s := s.onGrn fun g =>
        { g with ring := g.ring.drop old.length ++ run, staging := g.staging.drop run.length }
      (s.wr GRN_OLDEST_SEQ (s.rd GRN_OLDEST_SEQ + eraseRun)).grnCounts
  else (s.onGrn fun g => { g with ring := g.ring ++ run, staging := g.staging.drop run.length }).grnCounts

/-- The freeze ends (R402). -/
def State.thaw (s : State) : State :=
  let s := s.onGrn fun g => { g with frozen := none, frzLost := 0 }
  ((s.lower GRN_STAT_FROZEN).wr GRN_STAT_FSRC 0).raise GRN_EVT_THAWED

/-- The freeze ends by timeout or at PF_N, with its GR_THAWED record (R402). -/
def State.thawRecorded (s : State) : State :=
  if s.grn.frozen.isNone then s
  else
    let n := min s.grn.frzLost 0xFFFFFFFF
    s.thaw.log srcGRN 0x0E42 0 [.n4 n]

/-- A record that a tenant may see (R404). -/
def Rec.visible (ten : Nat) (r : Rec) : Bool :=
  ten == 0 || r.ten == ten || r.code == 0x0E41 || r.code == 0x0E42

/-- A record as the read port shows it to a tenant: the operator sees no data of another tenant's LOG records (R404). -/
def Rec.shown (ten : Nat) (r : Rec) : Rec :=
  if ten == 0 && r.ten != 0 && decide (0xA000 ≤ r.code) && decide (r.code ≤ 0xAFFF) then
    { r with data := List.replicate 6 0, cont := r.cont.map fun _ => 0 }
  else r

/-- The flag byte of a record (Table 14-1). -/
def Rec.flags (r : Rec) (cont : Bool) : Nat :=
  bit r.twin + bit cont * 2 + bit r.utcInv * 4 + bit r.frz * 8

/-- The first 8 bytes of a record or of its continuation. -/
def Rec.head (r : Rec) (cont : Bool) : List Byte :=
  leBytes 4 (r.seq + bit cont) ++ leBytes 2 r.code ++ leBytes 1 r.ten ++ leBytes 1 (r.flags cont)

/-- The 32 bytes of a record, with the 32 of its continuation (Table 14-1, R397). -/
def Rec.encode (r : Rec) : List Byte :=
  r.head false ++ leBytes 7 r.lt ++ leBytes 1 r.src ++ leBytes 8 r.utc ++ leBytes 2 r.rep ++ padTo 6 (r.data.take 6) ++
  (if r.cont.isEmpty then [] else r.head true ++ padTo 24 (r.cont.take 24))

/-- A walk of R403: the records placed, the SEQ after the last one examined, and whether it reached the newest. -/
structure Walk where
  placed : List Rec
  next : Nat
  ended : Bool
deriving DecidableEq, Repr

/-- The walk over records in SEQ order, with the places and the examinations left. Log entry 6 (DESIGN CHOICE, DEDUCED). -/
def walk (ten : Nat) : List Rec → Nat → Nat → Nat → Walk
  | [], _, _, next => ⟨[], next, true⟩
  | r :: t, room, left, next =>
    if room = 0 ∨ left < r.count then ⟨[], next, false⟩
    else if r.visible ten then
      if room < r.count then ⟨[], next, false⟩
      else
        let w := walk ten t (room - r.count) (left - r.count) (r.seq + r.count)
        { w with placed := r.shown ten :: w.placed }
    else walk ten t room (left - r.count) (r.seq + r.count)

/-- Words stored from a buffer's word `k` on. -/
def State.fillWords (s : State) (f : Nat → Fld) : Nat → List Byte → Nat → State
  | 0, _, _ => s
  | n + 1, bs, k => (s.wr (f k) (leNat (bs.take 4))).fillWords f n (bs.drop 4) (k + 1)

/-- A READ (R403, R404): every stored record from S on, a page that fails in NAND being skipped (R400); the owner of a freeze
restarts its 30 s (R402). -/
def State.grnRead (s : State) (src : Source) (ten count : Nat) (badPage : Option Nat) : State :=
  if count = 0 ∨ 64 < count then s.grnResult 0x0E05
  else
    let s := if s.grn.frozen = some src then s.onGrn fun g => { g with frzMs := s.ms } else s
    let from_ := s.rd GRN_RSEQ_S
    let oldest := s.rd GRN_OLDEST_SEQ
    let start := max from_ oldest
    let ring := s.grn.ring.filter fun r => decide (badPage ≠ some (r.seq / 64))
    let s := if ring.length < s.grn.ring.length then s.bump HLT_ERR_B_NANDSKIP else s
    let all := (ring ++ s.grn.staging ++ s.grn.sram).filter fun r => decide (start ≤ r.seq)
    let w := walk ten all count 4096 start
    let bytes := w.placed.flatMap Rec.encode
    let s := s.fillWords GRN_RBUF_W (bytes.length / 4) bytes 0
    let s := s.grnResult (if from_ < oldest then 0x0E01 else 0x0E00)
    let s := (s.wr GRN_RRES_NREC (recCount w.placed)).wr GRN_RRES_END (bit w.ended)
    s.wr GRN_RNEXT_NEXT w.next

/-- A FREEZE (R402). -/
def State.grnFreeze (s : State) (src : Source) (ten : Nat) : State :=
  if ten ≠ 0 then s.grnResult 0x0E04
  else match s.grn.frozen with
    | some o => if o = src then s.grnResult 0x0E00 else s.grnResult 0x0E02
    | none =>
      let s := s.onGrn fun g => { g with frozen := some src, frzLost := 0, frzMs := s.ms }
      ((s.raise GRN_STAT_FROZEN).wr GRN_STAT_FSRC src.code).grnResult 0x0E00

/-- A THAW (R402). -/
def State.grnThaw (s : State) (src : Source) : State :=
  match s.grn.frozen with
  | none => s.grnResult 0x0E03
  | some o => if o = src then s.thaw.grnResult 0x0E00 else s.grnResult 0x0E02

/-- A FLUSH request (R401, R402). -/
def State.grnFlush (s : State) (ten : Nat) : State :=
  if ten ≠ 0 then s.grnResult 0x0E04 else s.flush.grnResult 0x0E00

end Sys2Proof.Machine
end

