-- ==== Sys2Proof/Machine/Grn.lean ====
section
/-! DEFINITION. The meanings of the Granary commands (spec/14_granary_and_well.md). -/

namespace Sys2Proof.Machine

/-- EVENT_RECORD: an event is stamped and entered, merged or lost (R397 to R400). -/
def execEventRecord (src : Fin 18) (code : Half) (ten : Tenant) (lt : Option (BitVec 56)) (items : List Item) (s : State) :
    Host.Outcome State Fault Refusal :=
  let t := match lt with | some v => v.toNat | none => s.ltu.now
  .next (s.logAt src.val code.toNat ten.val t items)

/-- SRAM_DRAIN: the thresholds of Table 14-3 drain the buffer, unless a freeze is in force (R402). -/
def execSramDrain (s : State) : Host.Outcome State Fault Refusal :=
  if s.grn.frozen.isSome then .next s else .next s.drain

/-- STAGING_PAGE_COPY (R400), with what the NAND controller met (R28). -/
def execStagingPageCopy (nand : NandOutcome) (s : State) : Host.Outcome State Fault Refusal :=
  match nand with
  | .clean => .next s.copyPage
  | .retired => .next s.copyPage.retireBlock
  | .failed => .next (s.bump HLT_ERR_B_NANDSKIP)

/-- GRN_READ: a write of GRN_CMD with OP 1 (R403). -/
def execGrnRead (src : Source) (ten : Tenant) (count : BitVec 7) (badPage : Option Nat) (s : State) :
    Host.Outcome State Fault Refusal :=
  .next (((s.wr GRN_CMD_SRC src.code).wr GRN_CMD_TEN ten.val).grnRead src ten.val count.toNat badPage)

/-- GRN_FREEZE: a write of GRN_CMD with OP 2 (R402). -/
def execGrnFreeze (src : Source) (ten : Tenant) (s : State) : Host.Outcome State Fault Refusal :=
  .next (s.grnFreeze src ten.val)

/-- GRN_THAW: a write of GRN_CMD with OP 3 (R402). -/
def execGrnThaw (src : Source) (ten : Tenant) (s : State) : Host.Outcome State Fault Refusal :=
  .next ((s.wr GRN_CMD_TEN ten.val).grnThaw src)

/-- GRN_FLUSH: a write of GRN_CMD with OP 4 (R401). -/
def execGrnFlush (ten : Tenant) (s : State) : Host.Outcome State Fault Refusal := .next (s.grnFlush ten.val)

/-- FREEZE_TIMEOUT: 30 s have passed since the later of the FREEZE and the owner's last READ (R402).
Log entry 2 (DESIGN CHOICE, DEDUCED). -/
def execFreezeTimeout (s : State) : Host.Outcome State Fault Refusal :=
  if s.ms < s.grn.frzMs + 30000 then .next s else .next s.thawRecorded

end Sys2Proof.Machine
end

