-- ==== Sys2Proof/Machine/Ksu.lean ====
section
/-! DEFINITION. The meanings of Hearth's commands (spec/12_keys_and_life_cycle.md): the requests of KSU_CMD with their
attributes in KSU_CARG0, their lengths in KSU_CARG1 and their input in KSU_IBUF, and what ends them. -/

namespace Sys2Proof.Machine

/-- GENERATE (R360). -/
def execKsuGenerate (ten : Tenant) (slot : Byte) (s : State) : Host.Outcome State Fault Refusal :=
  .next (s.keyRequest 1 ten.val slot.toNat 0xFF)

/-- IMPORT (R359). -/
def execKsuImport (ten : Tenant) (slot aux : Byte) (s : State) : Host.Outcome State Fault Refusal :=
  .next (s.keyRequest 2 ten.val slot.toNat aux.toNat)

/-- DERIVE (R360). -/
def execKsuDerive (ten : Tenant) (slot aux : Byte) (s : State) : Host.Outcome State Fault Refusal :=
  .next (s.keyRequest 3 ten.val slot.toNat aux.toNat)

/-- EXPORT (R359). -/
def execKsuExport (ten : Tenant) (slot aux : Byte) (s : State) : Host.Outcome State Fault Refusal :=
  .next (s.keyRequest 4 ten.val slot.toNat aux.toNat)

/-- PUBKEY. -/
def execKsuPubkey (ten : Tenant) (slot : Byte) (s : State) : Host.Outcome State Fault Refusal :=
  .next (s.keyRequest 5 ten.val slot.toNat 0xFF)

/-- INVALIDATE (R361). -/
def execKsuInvalidate (ten : Tenant) (slot : Byte) (s : State) : Host.Outcome State Fault Refusal :=
  .next (s.keyRequest 6 ten.val slot.toNat 0xFF)

/-- RECLAIM (R363). -/
def execKsuReclaim (ten : Tenant) (slot : Byte) (s : State) : Host.Outcome State Fault Refusal :=
  .next (s.keyRequest 7 ten.val slot.toNat 0xFF)

/-- ATTEST (R367). -/
def execKsuAttest (ten : Tenant) (slot : Byte) (s : State) : Host.Outcome State Fault Refusal :=
  .next (s.keyRequest 8 ten.val slot.toNat 0xFF)

/-- CERT. -/
def execKsuCert (ten : Tenant) (slot : Byte) (s : State) : Host.Outcome State Fault Refusal :=
  .next (s.keyRequest 9 ten.val slot.toNat 0xFF)

/-- SIGN. -/
def execKsuSign (ten : Tenant) (slot : Byte) (s : State) : Host.Outcome State Fault Refusal :=
  .next (s.keyRequest 10 ten.val slot.toNat 0xFF)

/-- VERIFY. -/
def execKsuVerify (ten : Tenant) (slot : Byte) (s : State) : Host.Outcome State Fault Refusal :=
  .next (s.keyRequest 11 ten.val slot.toNat 0xFF)

/-- ENCRYPT. -/
def execKsuEncrypt (ten : Tenant) (slot : Byte) (s : State) : Host.Outcome State Fault Refusal :=
  .next (s.keyRequest 12 ten.val slot.toNat 0xFF)

/-- DECRYPT. -/
def execKsuDecrypt (ten : Tenant) (slot : Byte) (s : State) : Host.Outcome State Fault Refusal :=
  .next (s.keyRequest 13 ten.val slot.toNat 0xFF)

/-- MAC. -/
def execKsuMac (ten : Tenant) (slot : Byte) (s : State) : Host.Outcome State Fault Refusal :=
  .next (s.keyRequest 14 ten.val slot.toNat 0xFF)

/-- MACV: KSU_CARG1.AUXLEN tells the length of the CMAC, 8 or 16 (DESIGN CHOICE). -/
def execKsuMacv (ten : Tenant) (slot : Byte) (s : State) : Host.Outcome State Fault Refusal :=
  .next (s.keyRequest 15 ten.val slot.toNat 0xFF)

/-- NONCE. -/
def execKsuNonce (ten : Tenant) (s : State) : Host.Outcome State Fault Refusal := .next (s.keyRequest 17 ten.val 0 0xFF)

/-- LCSET (R369): an accepted request lets no new operation in; the transition is programmed once no started one is left. -/
def execKsuLcset (ten : Tenant) (test challenge : Bool) (s : State) : Host.Outcome State Fault Refusal :=
  let input := s.keyInput
  let s := s.clearKeyBuffers
  let c := s.judgeLcset ten.val test challenge input
  if c ≠ ksOK then .next (s.keyResult c [])
  else .next (s.onKsu fun k => { k with lcTo := some (s.rd KSU_CARG0_ARG % 8) })

/-- KEY_OPERATION_COMPLETE: the `n`-th operation in hand ends (R362 to R364). -/
def execKeyOperationComplete (n : Nat) (s : State) : Host.Outcome State Fault Refusal := .next (s.completeOp n)

/-- JOURNAL_WAIT_EXPIRY (R364). -/
def execJournalWaitExpiry (s : State) : Host.Outcome State Fault Refusal := .next s.journalExpiry

/-- TAMPER_LOCK (R372). -/
def execTamperLock (s : State) : Host.Outcome State Fault Refusal := .next s.tamperLock

/-- DEBUG_TOKEN: in PROVISIONED a token signed by Vyrdoavo for this module, in MANUFACTURE the answer to the root challenge,
opens the debug port until the next reset (Table 12-7). -/
def execDebugToken (signed challenge : Bool) (s : State) : Host.Outcome State Fault Refusal :=
  if s.lc = 2 ∧ signed then .next ((s.raise KSU_DBG_DBG_OPEN).raise KSU_DBG_TOKEN)
  else if s.lc = 1 ∧ challenge then .next (s.raise KSU_DBG_DBG_OPEN)
  else .next s

/-- REPORT_STORE: SUP has the oldest waiting report signed by Hearth with its RSLOT and stores it; `orphanAfter` tells
that the key was orphaned while the signature ran (R227, R229, R362). -/
def execReportStore (orphanAfter : Bool) (s : State) : Host.Outcome State Fault Refusal :=
  match s.mtr.queue with
  | [] => .next s
  | r :: _ =>
    let body := r.encode s.ksu.serial (bit orphanAfter * 2) 0
    let c := s.keyCheck (.owner r.tenant) r.slot (some uSIGN) [2]
    match (if c = ksOK then s.key r.slot else none) with
    | none => .next ((s.countRefusal c).storeReport c false [] s.ksu.serial)
    | some k =>
      let sig := Config.ecdsaSign k.material body s.free
      .next (((s.countUse r.slot).tookOpen).storeReport 0 orphanAfter sig s.ksu.serial)

end Sys2Proof.Machine
end

