-- ==== Sys2Proof/Machine/Ltu.lean ====
section
/-! DEFINITION. The meanings of the line-time commands (spec/02_line_time.md). -/

namespace Sys2Proof.Machine

/-- REFERENCE_ZERO_CROSSING: MTR reports a positive-going crossing found at line angle `angle`, closing a cycle of
frequency `freq` (mHz) and fundamental RMS `rms` (0.1 V). The first crossing opens a cycle and judges none (R41 to R48). -/
def execReferenceZeroCrossing (freq rms : Nat) (angle : Half) (s : State) : Host.Outcome State Fault Refusal :=
  let s := s.forwardTo (s.cyc * 65536 + angle.toNat)
  let e := sint16 (65536 - angle.toNat)
  if s.ltu.refNew then .next (s.newReference e)
  else if s.ltu.cycleOpen then .next (s.judgeCycle freq rms e)
  else .next (s.onLtu fun l => { l with cycleOpen := true })

/-- MAINS_LOSS_TIMEOUT: no crossing within 1.25 periods of the previous one; in LOCK and SLEW the mains is lost (R42). -/
def execMainsLossTimeout (s : State) : Host.Outcome State Fault Refusal :=
  let st := s.rd LTU_STAT_STATE
  if st = stLOCK ∨ st = stSLEW then .next (s.declareLoss.onLtu fun l => { l with cycleOpen := false })
  else .next s

/-- LINE_CYCLE_BOUNDARY: the angle passes 0x0000, at the PTP time `sec` and `ns` (R49, R55); SUP goes on with
an update that waited (R385, R389). -/
def execLineCycleBoundary (sec : BitVec 48) (ns : BitVec 30) (s : State) : Host.Outcome State Fault Refusal :=
  .next (s.lineBoundary sec.toNat ns.toNat).updResume

/-- CLOAD: c set to `arg` × 65,536 in START with the scheduler disabled, when that is later; else ignored (R52). -/
def execCload (arg : BitVec 24) (s : State) : Host.Outcome State Fault Refusal :=
  let t := arg.toNat * 2 ^ 32
  if s.rd LTU_STAT_STATE = stSTART ∧ !s.on LTU_SCHED_EN ∧ s.ltu.now < t then .next (s.stepTo t) else .next s

/-- SITE_RESYNC: SITE_OK cleared, the offset set in one step at the next announcement, site-frame events withheld
until SITE_OK (R57). -/
def execSiteResync (s : State) : Host.Outcome State Fault Refusal :=
  .next ((s.lower LTU_STAT_SITE_OK).onLtu fun l =>
    { l with siteAcq := true, siteFrozen := false, siteReady := false, siteRun := 0, siteTarget := none })

/-- ANNOUNCEMENT_RECEIVED: the announcer is noted, and where the module follows it the offset is set, slewed or frozen;
`localTime` is the local line time interpolated at the announced crossing (R56, R57). While PTP is not in SYNC it is
ignored (R304). -/
def execAnnouncementReceived (ann : Announcement) (localTime : BitVec 56) (s : State) :
    Host.Outcome State Fault Refusal :=
  .next (s.announcementIn ann localTime)

/-- SITE_LOSS: the followed module was silent for TMO intervals (R57); the module turns to the best remaining announcer. -/
def execSiteLoss (s : State) : Host.Outcome State Fault Refusal :=
  let silent := s.ltu.heard.any fun h => h.addr == s.rd LTU_SITE_STAT_MADDR && decide (s.siteTmo ≤ h.age)
  if s.on LTU_SITE_CFG_EN ∧ s.rd LTU_SITE_STAT_ROLE = 2 ∧ silent then
    let s := ((s.lower LTU_STAT_SITE_OK).raise LTU_EVT_SITE_LOSS).onLtu fun l =>
      { l with heard := l.heard.filter (fun h => h.addr ≠ s.rd LTU_SITE_STAT_MADDR), siteRun := 0, siteTarget := none }
    let s := match bestHeard s.siteTmo s.ltu.heard with
      | some b => (s.wr LTU_SITE_STAT_MRANK b.rank).wr LTU_SITE_STAT_MADDR b.addr
      | none => (s.wr LTU_SITE_STAT_MRANK 0).wr LTU_SITE_STAT_MADDR 0
    .next (s.log srcLTU 0x0205 0 [])
  else .next s

/-- SITE_MASTER_ELECTION: an eligible module that heard no better-ranked announcer for TMO intervals becomes master,
keeps its offset and sets SITE_OK (R56). -/
def execSiteMasterElection (s : State) : Host.Outcome State Fault Refusal :=
  if s.on LTU_SITE_CFG_EN ∧ s.rd LTU_SITE_CFG_RANK ≠ 0 ∧ s.rd LTU_SITE_STAT_ROLE ≠ 3 ∧ s.betterHeard.isNone ∧
      s.siteTmo ≤ s.ltu.quiet then
    let s := (s.wr LTU_SITE_STAT_ROLE 3).onLtu fun l => { l with siteAcq := false, siteTarget := none, siteFrozen := false }
    .next s.siteGain
  else .next s

/-- SCHEDULER_ENABLE: setting EN re-bases the active bank (R60). -/
def execSchedulerEnable (s : State) : Host.Outcome State Fault Refusal :=
  if s.on LTU_SCHED_EN then .next s else .next s.enableScheduler

/-- SCHEDULER_DISABLE: nothing is issued and the switch-over entry is disarmed (R59, R64). -/
def execSchedulerDisable (s : State) : Host.Outcome State Fault Refusal :=
  .next ((s.lower LTU_SCHED_EN).lower LTU_SCHED_SWO_ARM)

/-- SCHEDULER_ENTRY_WRITE: one word of an entry; ignored on the active bank while the scheduler is enabled (R59). -/
def execSchedulerEntryWrite (bank : Fin 2) (index : Fin 512) (word : Fin 4) (value : Word) (s : State) :
    Host.Outcome State Fault Refusal :=
  if s.on LTU_SCHED_EN ∧ bank.val = s.actBank then .next s
  else
    let es := s.ltu.bank bank.val
    let e := (sget SchedEntry.zero es index.val).write word.val value.toNat
    .next (s.setBank bank.val (sput SchedEntry.zero es index.val e)).countEntries

/-- SWAP_ARM: a write of LTU_SWAP_HI arms a swap at X, or is ignored whole (R63). -/
def execSwapArm (xHi : BitVec 24) (s : State) : Host.Outcome State Fault Refusal :=
  let x := xHi.toNat * 2 ^ 32 + s.rd LTU_SWAP_LO_X_LO
  if !s.on LTU_SCHED_SWAP_PEND ∧ s.ltu.now + 65536 ≤ x then
    .next ((s.wr LTU_SWAP_HI_X_HI xHi.toNat).raise LTU_SCHED_SWAP_PEND)
  else .next s

/-- SWITCHOVER_ENTRY_ARM: a write of LTU_SWO_HI with CANCEL = 0 (R64). -/
def execSwitchoverEntryArm (xHi : BitVec 24) (s : State) : Host.Outcome State Fault Refusal :=
  let x := xHi.toNat * 2 ^ 32 + s.rd LTU_SWO_LO_X_LO
  if !s.on LTU_SCHED_SWO_ARM ∧ s.ltu.now + 256 ≤ x then
    .next ((s.wr LTU_SWO_HI_X_HI xHi.toNat).raise LTU_SCHED_SWO_ARM)
  else .next s

/-- SWITCHOVER_ENTRY_CANCEL: a write of LTU_SWO_HI with CANCEL = 1 disarms the entry (R64). -/
def execSwitchoverEntryCancel (s : State) : Host.Outcome State Fault Refusal := .next (s.lower LTU_SCHED_SWO_ARM)

/-- LTU_NOW_LO_READ: c[15:0] and a are returned, c[39:16] of the same instant is latched (R67). -/
def execLtuNowLoRead (s : State) : Host.Outcome State Fault Refusal :=
  .next ((s.wr LTU_NOW_HI_C_HI (s.ltu.now / 2 ^ 32)).answerWord s.ltu.now)

/-- LTU_SOFS_LO_READ: the low offset word is returned, the high word latched (R67). -/
def execLtuSofsLoRead (s : State) : Host.Outcome State Fault Refusal :=
  .next ((s.wr LTU_SOFS_HI_OFS_HI (s.ltu.ofs / 2 ^ 32)).answerWord s.ltu.ofs)

end Sys2Proof.Machine
end

