-- ==== Sys2Proof/Machine/WellOps.lean ====
section
/-! DEFINITION. Well's time, calendar, alarms and commands (R406 to R413). -/

namespace Sys2Proof.Machine

/-- Well's typed part changed. -/
def State.onWell (s : State) (f : WellPart → WellPart) : State := { s with well := f s.well }

/-- The last valid second (R406). -/
def lastSecond : Nat := 6311433599

/-! ## Calendar (R407) -/

/-- Gregorian leap years. -/
def isLeap (y : Nat) : Bool := y % 4 == 0 && (y % 100 != 0 || y % 400 == 0)

/-- The days of a year and of a month. -/
def yearDays (y : Nat) : Nat := if isLeap y then 366 else 365
def monthDays (y m : Nat) : Nat :=
  match m with
  | 2 => if isLeap y then 29 else 28
  | 4 | 6 | 9 | 11 => 30
  | _ => 31

/-- Days from 2000-01-01 to the first day of year 2000 + n. -/
def daysToYear : Nat → Nat
  | 0 => 0
  | n + 1 => daysToYear n + yearDays (2000 + n)

/-- Days from the first of January to the first of month m + 1. -/
def daysToMonth (y : Nat) : Nat → Nat
  | 0 => 0
  | m + 1 => daysToMonth y m + monthDays y (m + 1)

/-- The year offset and the day within it, for a day count and a fuel of years. -/
def yearOf : Nat → Nat → Nat → Nat × Nat
  | 0, n, d => (n, d)
  | k + 1, n, d => if d < yearDays (2000 + n) then (n, d) else yearOf k (n + 1) (d - yearDays (2000 + n))

/-- The month and the day of the month, both from 1, for a day within a year and a fuel of months. -/
def monthOf (y : Nat) : Nat → Nat → Nat → Nat × Nat
  | 0, m, d => (m, d + 1)
  | k + 1, m, d => if d < monthDays y m then (m, d + 1) else monthOf y k (m + 1) (d - monthDays y m)

/-- Two decimal digits as BCD, and four. -/
def bcd2 (n : Nat) : Nat := n / 10 % 10 * 16 + n % 10
def bcd4 (n : Nat) : Nat := bcd2 (n / 100) * 256 + bcd2 (n % 100)

/-- A BCD byte read back; none with a digit above 9 (R408). -/
def unbcd (b : Nat) : Option Nat := if b / 16 % 16 ≤ 9 ∧ b % 16 ≤ 9 then some (b / 16 % 16 * 10 + b % 16) else none

/-- TIME0 and TIME1 of a second count in calendar format. -/
def calendarWords (sec : Nat) : Nat × Nat :=
  let days := sec / 86400
  let t := sec % 86400
  let (n, d) := yearOf 200 0 days
  let (m, dm) := monthOf (2000 + n) 12 1 d
  (((days + 5) % 7 + 1) * 2 ^ 24 + bcd2 (t / 3600) * 2 ^ 16 + bcd2 (t / 60 % 60) * 2 ^ 8 + bcd2 (t % 60),
   bcd4 (2000 + n) * 2 ^ 16 + bcd2 m * 2 ^ 8 + bcd2 dm)

/-- The seconds that SET0 and SET1 give in calendar format; none where R408 refuses them. -/
def calendarSec (w0 w1 : Nat) : Option Nat := do
  let h ← unbcd (bitsOf w0 16 8)
  let mi ← unbcd (bitsOf w0 8 8)
  let se ← unbcd (bitsOf w0 0 8)
  let yh ← unbcd (bitsOf w1 24 8)
  let yl ← unbcd (bitsOf w1 16 8)
  let mo ← unbcd (bitsOf w1 8 8)
  let d ← unbcd (bitsOf w1 0 8)
  let y := yh * 100 + yl
  if 2000 ≤ y ∧ y ≤ 2199 ∧ 1 ≤ mo ∧ mo ≤ 12 ∧ 1 ≤ d ∧ d ≤ monthDays y mo ∧ h ≤ 23 ∧ mi ≤ 59 ∧ se ≤ 59 then
    some ((daysToYear (y - 2000) + daysToMonth y (mo - 1) + (d - 1)) * 86400 + h * 3600 + mi * 60 + se)
  else none

/-- The value of SET0, SET1 and SETSUB checked under R408: seconds, or none for DATE_ERR. -/
def State.wellValue (s : State) : Option Nat :=
  let w0 := s.rd WELL_SET0_V
  let w1 := s.rd WELL_SET1_V
  if 32767 < s.rd WELL_SETSUB_V then none
  else if s.on WELL_CFG_MODE then calendarSec w0 w1
  else
    let sec := bitsOf w1 0 8 * 2 ^ 32 + w0
    if lastSecond < sec then none else some sec

/-- TIME0 and TIME1 in the format in force. -/
def State.timeWords (s : State) : Nat × Nat :=
  if s.on WELL_CFG_MODE then calendarWords s.well.sec else (s.well.sec % 2 ^ 32, s.well.sec / 2 ^ 32 % 256)

/-! ## Alarms (R410) -/

/-- The target of an alarm in seconds. -/
def State.target (s : State) (n : Nat) : Nat := s.rd (WELL_ALM_HI_T n) * 2 ^ 32 + s.rd (WELL_ALM_LO_T n)

/-- A target set. -/
def State.setTarget (s : State) (n t : Nat) : State := (s.wr (WELL_ALM_LO_T n) t).wr (WELL_ALM_HI_T n) (t / 2 ^ 32)

/-- What firing does in every case: event bit, FIRED, the record, the wake source. -/
def State.fireCommon (s : State) (n : Nat) : State :=
  (((s.raiseBit WELL_EVT_ALM n).raise (WELL_ALM_STAT_FIRED n)).log srcWELL 0x0E43 0 [.n1 n]).wakeEvent 0

/-- An alarm fires by counting: it disarms, or takes the next target T + P. -/
def State.fireCount (s : State) (n : Nat) : State :=
  let p := s.rd (WELL_ALM_PER_PER n)
  let s := (s.fireCommon n).lower (WELL_ALM_STAT_LATE n)
  if p = 0 then s.lower (WELL_ALM_STAT_ARMED n) else s.setTarget n (s.target n + p)

/-- An alarm fires late at time `t1` (R410): SKIP counts the further occurrences before `t1` (given in 1/32,768 s), and the
next target is the first at or after it. Log entry 6 (DESIGN CHOICE, DEDUCED). -/
def State.fireLate (s : State) (n t1 : Nat) : State :=
  let p := s.rd (WELL_ALM_PER_PER n)
  let t := s.target n
  let s := (s.fireCommon n).raise (WELL_ALM_STAT_LATE n)
  let s := (s.raise WELL_EVT_LATE).log srcWELL 0x0E44 0 [.n1 n]
  if p = 0 then (s.lower (WELL_ALM_STAT_ARMED n)).wr (WELL_ALM_STAT_SKIP n) 0
  else
    -- k steps of P bring the target to or past t1
    let k := ceilDiv (t1 - t * 32768) (p * 32768)
    (s.wr (WELL_ALM_STAT_SKIP n) (min 65535 (k - 1))).setTarget n (t + k * p)

/-- An armed alarm at a SET from `t0` to `t1`, both in 1/32,768 s. -/
def State.adjustAlarm (t0 t1 : Nat) (s : State) (n : Nat) : State :=
  let t := s.target n * 32768
  if !s.on (WELL_ALM_STAT_ARMED n) ∨ t1 ≤ t0 then s
  else if t0 < t ∧ t < t1 then s.fireLate n t1
  else if t = t1 then s.fireCount n
  else s

/-- An armed alarm whose target the counted time has reached. -/
def State.countAlarm (s : State) (n : Nat) : State :=
  if s.on (WELL_ALM_STAT_ARMED n) ∧ s.target n ≤ s.well.sec then s.fireCount n else s

/-! ## Commands (R408, R409) -/

/-- The time in 1/32,768 s. -/
def WellPart.time (w : WellPart) : Nat := w.sec * 32768 + w.sub

/-- A command takes effect in the RTC domain. -/
def State.wellEffect (s : State) (c : WellCmd) : State :=
  match c with
  | .set sec sub =>
    let t0 := s.well.time
    let u0 := s.utc
    let s := s.onWell fun w => { w with sec := sec, sub := sub }
    let s := ((s.raise WELL_STAT_TVALID).lower WELL_STAT_WRAP).raise WELL_EVT_SET
    let s := [0, 1, 2, 3].foldl (State.adjustAlarm t0 s.well.time) s
    s.log srcWELL 0x0E45 0 [.n8 u0, .n8 s.utc]
  | .arm n sec per =>
    let s := (s.setTarget n.val sec).wr (WELL_ALM_PER_PER n.val) per
    let s := ((s.raise (WELL_ALM_STAT_ARMED n.val)).lower (WELL_ALM_STAT_FIRED n.val)).lower (WELL_ALM_STAT_LATE n.val)
    let s := s.wr (WELL_ALM_STAT_SKIP n.val) 0
    if sec * 32768 < s.well.time then s.fireLate n.val s.well.time else s
  | .disarm n => s.lower (WELL_ALM_STAT_ARMED n.val)

/-- The result of a Well command. -/
def State.wellResult (s : State) (code : Nat) : State :=
  ((s.raise WELL_CRES_DONE).wr WELL_CRES_CODE code).reply code 0 []

/-- A command written to WELL_CMD (R408, R409, R412): locked, not the operator, busy, an impossible time, or crossing.
Log entry 6 (DESIGN CHOICE, DEDUCED). -/
def State.wellCommand (s : State) (ten : Nat) (c : Option WellCmd) : State :=
  if s.on WELL_STAT_LOCK then s.wellResult 0x0E0B
  else if ten ≠ 0 then s.wellResult 0x0E0C
  else if s.on WELL_STAT_BUSY then s.wellResult 0x0E0A
  else match c with
    | none => s.wellResult 0x0E09
    | some c => ((s.lower WELL_CRES_DONE).raise WELL_STAT_BUSY).onWell fun w => { w with cmd := some c }

/-- The crossing command takes effect and BUSY clears. -/
def State.wellComplete (s : State) : State :=
  match s.well.cmd with
  | none => s
  | some c => (((s.onWell fun w => { w with cmd := none }).lower WELL_STAT_BUSY).wellEffect c).wellResult 0x0E08

/-- The commands as SET, ARM and DISARM form them. -/
def State.setCmd (s : State) : Option WellCmd := s.wellValue.map fun sec => .set sec (s.rd WELL_SETSUB_V)
def State.armCmd (s : State) (n : Fin 4) : Option WellCmd := s.wellValue.map fun sec => .arm n sec (s.rd WELL_SETPER_V)

/-- A backup-memory write (R409, R412). -/
def State.backupWrite (s : State) (ten n : Nat) (v : Nat) : State :=
  if s.on WELL_STAT_LOCK then s.wellResult 0x0E0B
  else if ten ≠ 0 then s.wellResult 0x0E0C
  else (s.wr (WELL_BKP_DATA n) v).wellResult 0x0E08

/-- The interface locks (R412): a command in BUSY takes effect or is discarded as a unit, which the spec leaves open.
Log entry 6 (DESIGN CHOICE, DEDUCED). -/
def State.wellLock (s : State) : State :=
  let s := match s.well.cmd with
    | none => s
    | some _ => if s.openValue % 2 = 0 then s.tookOpen.wellComplete
      else (s.tookOpen.onWell fun w => { w with cmd := none }).lower WELL_STAT_BUSY
  s.raise WELL_STAT_LOCK

/-! ## Counting -/

/-- The time returns to second 0 (R406). -/
def State.wellWrap (s : State) : State :=
  let s := s.onWell fun w => { w with sec := 0, sub := 0 }
  ((s.raise WELL_STAT_WRAP).raise WELL_EVT_WRAP).log srcWELL 0x0E48 0 []

/-- CAL as a signed number. Log entry 6 (DESIGN CHOICE, DEDUCED). -/
def State.cal (s : State) : Int :=
  let c := s.rd WELL_CFG_CAL
  if c < 256 then (c : Int) else (c : Int) - 512

/-- One millisecond of Well's counting, with the correction of R406; a passed target fires. Log entry 3 (DESIGN CHOICE, DEDUCED). -/
def State.wellTick (s : State) : State :=
  let acc := s.well.frac + (32768 * ((2 ^ 20 : Int) + s.cal)).toNat
  let sub := s.well.sub + acc / (1000 * 2 ^ 20)
  let s := s.onWell fun w =>
    { w with frac := acc % (1000 * 2 ^ 20), sub := sub % 32768, sec := w.sec + sub / 32768 }
  let s := if lastSecond < s.well.sec then s.wellWrap else s
  if 32768 ≤ sub then [0, 1, 2, 3].foldl State.countAlarm s else s

end Sys2Proof.Machine
end

