-- ==== Sys2Proof/Machine/StartOps.lean ====
section
/-! DEFINITION. Resets with what they keep, the start-up sequence, the flush sequence, sleep entry and wake, module faults, the SUP
restart and the indicators (R20, R390, R411, R413, R416 to R436). -/

namespace Sys2Proof.Machine

/-! ## Reset (R417) -/

/-- Registers that a reset does not return to their reset values: those of the backup domain, and those whose reset value is what
MRAM, NAND or OTP hold. Log entry 20 (DESIGN CHOICE, DEDUCED). -/
def keptReg (addr : Nat) : Bool :=
  addr == 0x40000020 || addr == 0x400B0000 || addr == 0x400B0004 || (decide (0x400B0020 ≤ addr) && decide (addr < 0x400B002C)) ||
  (decide (0x400B0040 ≤ addr) && decide (addr < 0x400B0100)) || addr == 0x40100000 ||
  (decide (0x40100040 ≤ addr) && decide (addr < 0x40100100)) || (decide (0x400D0100 ≤ addr) && decide (addr < 0x400D0128)) ||
  addr == 0x400A000C || addr == 0x400A0010 || addr == 0x40070020 || addr == 0x40070024 || addr == 0x40060010 ||
  addr == 0x40090018 || addr == 0x400C0020 ||
  (decide (0x4005100C ≤ addr) && decide (addr < 0x40052000) && (addr - 0x4005100C) % 16 == 0)

/-- Registers after a reset: their reset values, and what is kept. -/
def regsAfter (old : List (Nat × Nat)) : List (Nat × Nat) :=
  (old.filter fun r => keptReg (r.1 / 32)).foldl (fun l r => sput 0 l r.1 r.2) (resetRegs.filter fun r => !keptReg (r.1 / 32))

/-- The MRAM (Table 1-3) of a memory. -/
def mramOf (m : List Host.Cell) : List Host.Cell := m.filter fun c => decide (0x70000000 ≤ c.1) && decide (c.1 ≤ 0x70FFFFFF)

/-- The state right after a reset: what the backup domain, MRAM, NAND and OTP hold is kept (R417).
Log entry 20 (DESIGN CHOICE, DEDUCED). -/
def State.afterReset (s : State) : State :=
  { State.reset with
    regs := regsAfter s.regs
    mem := mramOf s.mem
    grn := { State.reset.grn with staging := s.grn.staging, ring := s.grn.ring }
    well := { s.well with cmd := none }
    cxe := { State.reset.cxe with bank0 := s.cxe.bank0, bank1 := s.cxe.bank1 }
    mtr := { State.reset.mtr with store := s.mtr.store, ckpt0 := s.mtr.ckpt0, ckpt1 := s.mtr.ckpt1, seqs := s.mtr.seqs }
    ksu := s.ksu
    plk := { State.reset.plk with epoch := s.plk.epoch, quietMs := s.ms }
    nand := s.nand
    hlt := { State.reset.hlt with history := s.hlt.history, kick := s.ms }
    cfg := { s.cfg with imageNext := [] }
    upd := { s.upd with keys := none, wrote := false }
    hpt := { State.reset.hpt with usb := s.hpt.usb }
    ms := s.ms
    free := s.free
    pending := s.pending }

/-- The backup domain without contents (R51, R413). -/
def State.loseBackup (s : State) : State :=
  let s := (s.clearRange 0x400B0000 8).clearRange 0x400B0040 0xC0
  let s := s.raise WELL_STAT_VLOST
  let s := s.onWell fun w => { w with sec := 0, sub := 0, frac := 0 }
  (s.wr LTU_CKPT_CKPT 0).raise LTU_STAT_CK_LOST

/-- Staging moved into the ring, whose oldest erase blocks make room (R400, R401). -/
def State.moveStaging (s : State) : State :=
  let excess := recCount s.grn.ring + recCount s.grn.staging - ringCap
  let runs := (excess + eraseRun - 1) / eraseRun
  let old := takeRoom (runs * eraseRun) s.grn.ring
  let s := s.onGrn fun g => { g with ring := g.ring.drop old.length ++ g.staging, staging := [] }
  let next := match s.grn.ring.getLast? with | some r => r.seq + r.count | none => 0
  let oldest := match s.grn.ring.head? with | some r => r.seq | none => next
  ((s.wr GRN_SEQ_SEQ next).wr GRN_OLDEST_SEQ oldest).grnCounts

/-- A nonce drawn by a source (R442). -/
def State.drawNonce (s : State) (host : Bool) : State :=
  let n := openBytes s 16
  let s := s.tookOpens 16
  { s with hpt := if host then { s.hpt with host := { s.hpt.host with nonce := n } } else { s.hpt with service := { s.hpt.service with nonce := n } } }

/-! ## Start-up (Table 15-3) -/

/-- Fields that SUP programs from the configuration sets (step 5). Log entry 15 (DESIGN CHOICE, DEDUCED). -/
def setsMay (key : Nat) (acc : Acc) : Bool :=
  let w := key / 32 / 65536
  acc == .rw && (key == LTU_CFG_NOM.key || w == 0x4001 || w == 0x4007 || w == 0x4008 || w == 0x4009 || w == 0x400C)

/-- One field programmed. Log entry 15 (DESIGN CHOICE, DEDUCED). -/
def State.setField (s : State) (kv : Nat × Nat) : State :=
  match (regFields (kv.1 / 32)).find? fun f => f.lo == kv.1 % 32 with
  | some f => if setsMay kv.1 f.acc then s.wr ⟨kv.1 / 32, f.lo, f.width⟩ kv.2 else s
  | none => s

/-- Line time in START at the cycle checkpoint (R51). -/
def State.startLine (s : State) : State := s.onLtu fun l => { l with now := s.rd LTU_CKPT_CKPT * 2 ^ 32 }

/-- Steps 1 to 6 of Table 15-3 after a reset with `cause`; `role` is read at power-on alone (R35), `lost` tells that the backup
domain has lost its contents. SUP is ready from step 6 on. Log entry 20 (DESIGN CHOICE, DEDUCED). -/
def State.startUp (s : State) (cause : Nat) (role : Option Nat) (lost : Bool) (f : Found) : State :=
  let was := s.ltu.now
  let roleNow := role.getD (s.rd PLK_STAT_ROLE)
  let lock := s.on WELL_STAT_LOCK
  let flush := cause == 3
  let s := s.afterReset
  let s := if flush then s else (s.wr PWR_FLUSH_DUR 0).wr PWR_FLUSH_COUNT 0
  let s := (s.lower WELL_STAT_BUSY).wr WELL_STAT_LOCK (bit (lock && decide (2 ≤ cause) && decide (cause ≤ 4)))
  let s := (s.wr PWR_RSTCAUSE_CAUSE cause).wr PLK_STAT_ROLE roleNow
  let s := if roleNow ≠ 0 then s.wr PLK_STAT_STATE psSTARTING else s
  -- step 1
  let s := if lost then s.loseBackup else s
  let s := s.startLine
  let s := if lost then s.log srcLTU 0x0208 0 [] else s
  -- step 2
  let s := s.keyPowerOn (f.lostKeys.map BitVec.toNat)
  -- step 3
  let s := s.moveStaging.log srcSUP 0x0F41 0 [.n1 cause]
  let s := if s.on WELL_BSW1_VALID then
      s.log srcSUP 0x0E46 0 [.n8 ((s.rd WELL_BSW0_SEC + s.rd WELL_BSW1_SECHI * 2 ^ 32) * 32768 + s.rd WELL_BSW1_SUB), .n4 (s.rd WELL_BSWCNT_CNT)]
    else s
  let s := if lost then s.log srcSUP 0x0E47 0 [] else s
  -- step 4
  let start := s.ltu.now
  let s := s.updStart (cause == 6) f.badActive f.badTarget fun t => start + (t - was)
  -- step 5
  let s := ((Config.setsRegs s.cfg.sets).foldl State.setField s).raiseEpoch
  let s := if s.ringMode = 0 then s else s.ringState 1
  let s := s.onLtu fun l => { l with freq := s.virtualFreq }
  let s := s.onNet fun n => { n with replay := s.cfg.epochs.map fun e => ⟨e.1, e.2.1, e.2.2, 0, 0, false⟩ }
  let s := if s.on LTU_STAT_CK_LOST ∧ s.ltu.now < s.cfg.ckptCopy * 2 ^ 32 then s.stepTo (s.cfg.ckptCopy * 2 ^ 32) else s
  let s := (s.changeLevel (s.rd PWR_CFG_DEFLVL)).onPwr fun p => { p with lockWait := true, lockMs := s.ms }
  -- step 6
  let s := (s.wr (UPD_VER_VER 5) 0).startLoad
  let s := ((s.drawNonce true).drawNonce false)
  (s.raise HPT_STAT_SUPRDY).raise HPT_IRQ_SUPRDY

/-- Steps 7 and 8: LOCK is reached or LKWAIT has expired, and no change of level runs (R132, R420, R421).
Log entry 20 (DESIGN CHOICE, DEDUCED). -/
def State.lockWaitEnd (s : State) : State :=
  let ended : Bool := s.rd LTU_STAT_STATE == stLOCK || decide (s.pwr.lockMs + s.rd PWR_CFG_LKWAIT ≤ s.ms)
  if !s.pwr.lockWait || !s.awake || s.hlt.supRestart || !ended || s.pwr.levelTo.isSome then s
  else
    let s := (s.onPwr fun p => { p with lockWait := false }).startImage
    (s.enableScheduler.updExchanged).updEnabled

/-! ## The flush sequence (R429 to R432, Table 15-6) -/

/-- The partial cycle that MTR ends (R224). -/
def State.endMetering (s : State) (f : FlushIn) : State :=
  if s.on MTR_STAT_RUN then (s.onMtr fun m => { m with stopping := true }).closeCycle f.samples f.currents f.voltages else s

/-- A snapshot in progress completes (R157, R426). -/
def State.endSnapshot (s : State) (f : FlushIn) : State := if s.on CXE_STAT_SNAP_BUSY then s.completeSnap f.snapUs f.faulty else s

/-- Steps 1 to 5, with FSTEP at the step reached. Log entry 20 (DESIGN CHOICE, DEDUCED). -/
def State.flushSteps (s : State) (f : FlushIn) : State :=
  let s := (s.wr PWR_STAT_FSTEP 1).flush
  let s := ((s.wr PWR_STAT_FSTEP 2).endSnapshot f).meterCheckpoint
  let s := (s.wr PWR_STAT_FSTEP 3).closeJournal f.committing
  let s := if s.paired then (s.wr PWR_STAT_FSTEP 4).wellLock else s
  let s := ((s.wr PWR_STAT_FSTEP 5).raise FIO_STAT_PFSAFE).applyOutputs
  (s.wr PWR_FLUSH_DUR (min f.us 65535)).bump PWR_FLUSH_COUNT

/-- What the blocks do at PF_N (R157, R195, R224, R402, R429), and the flush sequence to HOLD. A sleep entry ends; in S1 and S2
fabric and SUP are restored first, in S3 nothing is left to write (R432). -/
def State.powerFail (s : State) (f : FlushIn) : State :=
  let s := (s.raise PWR_STAT_PF).lower PWR_STAT_ENTRY
  let s := if s.rd PWR_STAT_SLEEP = 3 then s else s.wr PWR_STAT_SLEEP 0
  let s := ((s.raise PWR_EVT_PF).raise HPT_IRQ_PF).log srcPWR 0x0F42 0 []
  let s := s.abandonAll.onCxe fun c => { c with change := none }
  let s := (s.endMetering f).thawRecorded
  let s := (s.controlRelease 2).flushSteps f
  s.raise PWR_STAT_HOLD

/-! ## Sleep (R424 to R428) -/

/-- Ports lose their links in S2 and S3, whose PHYs are powered down. -/
def State.dropLinks (s : State) : State :=
  [0, 1].foldl (fun s p => if s.on (NET_P_STAT_LINK p) then s.linkLost p else s) s

/-- The entry completes once the activations that exist have committed; pending ones were dropped at its start (R426). -/
def State.enterSleep (s : State) (f : FlushIn) : State :=
  let n := s.pwr.sleepTo
  if !s.on PWR_STAT_ENTRY || s.cxe.acts.any fun a => a.lane.isSome then s
  else
    let s := (s.onCxe fun c => { c with acts := [] }).busSleep
    let s := if n = 3 then
        let s := (((s.endSnapshot f).endMetering f).meterCheckpoint).flush
        let s := (s.onLtu fun l => { l with retained := l.now }).onWell fun w => { w with s3 := 0 }
        (s.fio.chans.filter fun x => isOutMode x.2.mode).foldl (fun s x => s.release x.1) s
      else s
    let s := if 2 ≤ n then s.dropLinks.lower HPT_STAT_SUPRDY else s
    let s := ((s.wr PWR_STAT_SLEEP n).lower PWR_STAT_ENTRY).raise PWR_EVT_SLEEP
    s.log srcPWR 0x0F43 0 [.n1 n]

/-- LTU after S3 (R53): the cycle goes on beyond the cycles that passed, and LTU enters LOST. -/
def State.wakeLine (s : State) : State :=
  let c := s.ltu.retained / 65536 + ceilDiv (s.well.s3 * s.ltu.freq) 1000000 + 1
  let old := s.ltu.now
  let s := ((s.onLtu fun l => { l with now := c * 65536, frac := 0, cycleOpen := false, valids := 0 }).checkpoint old).ltuState stLOST
  s.rebaseAll

/-- The wake completes (R428): power is back, outputs are applied, loops take a first sample, ports return to their buses.
Log entry 20 (DESIGN CHOICE, DEDUCED). -/
def State.wake (s : State) : State :=
  let n := s.rd PWR_STAT_SLEEP
  let src := s.pwr.wakes
  if n = 0 ∨ src = 0 then s
  else
    let s := s.log srcPWR 0x0F44 0 [.n1 src, .n1 (bit s.pwr.during)]
    let s := ((s.wr PWR_WAKE_STATE n).wr PWR_WAKE_SRC src).wr PWR_STAT_SLEEP 0
    let s := (s.raise PWR_EVT_WAKE).onPwr fun p => { p with wakes := 0, during := false, sleepTo := 0 }
    let s := if n = 3 then s.wakeLine else s
    let s := (s.onMtr fun m => { m with stopping := false }).meterWake
    let s := (s.onCle fun c => { c with loops := c.loops.map fun x => (x.1, { x.2 with first := true }) }).busWake
    let s := s.applyOutputs
    if 2 ≤ n then (s.raise HPT_STAT_SUPRDY).raise HPT_IRQ_SUPRDY else s

/-! ## Module faults and the watchdog (R20, R433, R434) -/

/-- A fault condition comes to hold; the first one declares the module fault. -/
def State.faultRises (s : State) (cause : Nat) : State :=
  let first : Bool := s.hlt.conds == 0
  let s := s.onHlt fun h => { h with conds := setBit h.conds cause }
  if !first then s
  else
    let s := ((s.raise HLT_STAT_MFAULT).wr HLT_STAT_FCAUSE cause).raise HLT_EVT_FAULT
    let s := (s.log srcHLT 0x0F47 0 [.n1 cause]).flush
    (s.controlRelease 6).fallback 4

/-- A condition of a class that clears without a reset ends. -/
def State.faultEnds (s : State) (cause : Nat) : State :=
  if !s.hlt.conds.testBit cause ∨ 3 ≤ cause then s
  else
    let s := s.onHlt fun h => { h with conds := h.conds - 2 ^ cause }
    if s.hlt.conds ≠ 0 then s
    else ((s.lower HLT_STAT_MFAULT).wr HLT_STAT_FCAUSE 0).log srcHLT 0x0F48 0 []

/-- The watchdog restarts SUP alone (R20, R434); the third restart within 60 s is a module fault, the third during an installation
or a trial a cause of fall-back. -/
def State.supRestarts (s : State) : State :=
  let s := (s.bump HLT_WDOG_RESTARTS).raise HLT_EVT_SUPRST
  let times := (s.ms :: s.hlt.restarts).filter fun t => decide (s.ms < t + 60000)
  let s := s.onHlt fun h => { h with supRestart := true, restarts := times }
  let s := ((s.lower HPT_STAT_SUPRDY).log srcHLT 0x0F49 0 []).flush
  let during : Bool := s.updState == usINSTALLING || s.updState == usTRIAL
  let s := if during then s.onUpd fun u => { u with supRestarts := u.supRestarts + 1 } else s
  let s := if during ∧ s.upd.supRestarts = 3 then s.fallback 6 else s
  if 3 ≤ times.length then s.faultRises 3 else s

/-! ## Indicators (R435, R436) -/

/-- What HLT measures for the indicators: the loss of the ring oscillators in ppm, the mean erase count of NAND, the writes to the
most-written MRAM row, and the crystal's offset in ppb. -/
structure Wear where
  lossPpm : Nat
  erases : Nat
  writes : Nat
  driftPpb : Nat

/-- The channel with the highest switching count. -/
def State.busiest (s : State) : Nat × Nat :=
  (List.range 256).foldl (fun b n => if b.2 < s.rd (FIO_CH_CNT_SW n) then (n, s.rd (FIO_CH_CNT_SW n)) else b) (0, 0)

/-- A share of a limit in units of 0.01 %, rounded down. -/
def share (v limit : Nat) : Nat := min 65535 (v * 10000 / limit)

/-- USED of an indicator (Table 15-9); a switching limit of 0 acts as 1. -/
def State.used (s : State) (w : Wear) : Nat → Nat
  | 0 => share w.lossPpm 50000
  | 1 => max (share w.erases 100000) (share (1280 - s.nand.spare) 1280)
  | 2 => share w.writes 1000000000000
  | 3 => share s.busiest.2 (max 1 (s.rd HLT_SWLIM_LIM))
  | _ => share w.driftPpb 50000

/-- The predicted end of life in days from the USED values, newest first (R436). Log entry 20 (DESIGN CHOICE, DEDUCED). -/
def endOfLife (h : List Nat) : Nat :=
  match h, h.getLast? with
  | new :: _ :: _, some old =>
    if 10000 ≤ new then 0
    else if new ≤ old then 0xFFFF
    else
      let d := (10000 - new) * (h.length - 1) / (new - old)
      if 65534 < d then 0xFFFF else d
  | new :: _, _ => if 10000 ≤ new then 0 else 0xFFFF
  | [], _ => 0xFFFF

/-- One indicator updated, with the records of its end of life (R436). Log entry 20 (DESIGN CHOICE, DEDUCED). -/
def State.updateIndicator (w : Wear) (s : State) (n : Nat) : State :=
  let used := s.used w n
  let was := s.rd (HLT_IND_VAL_USED n)
  let h := (used :: s.hlt.history.getD n []).take 31
  let known : Bool := !(s.hlt.history.getD n []).isEmpty
  let days := endOfLife h
  let before := if known then s.rd (HLT_IND_EOL_DAYS n) else 0xFFFF
  let s := s.onHlt fun x => { x with history := x.history.set n h }
  let s := ((s.wr (HLT_IND_VAL_USED n) used).wr (HLT_IND_VAL_ARG n) (if n = 3 then s.busiest.1 else 0)).wr (HLT_IND_EOL_DAYS n) days
  let s := if days < 365 ∧ 365 ≤ before then (s.raise HLT_EVT_WEAR).log srcHLT 0x0F4A 0 [.n1 n] else s
  if 10000 ≤ used ∧ was < 10000 then (s.raise HLT_EVT_EOL).log srcHLT 0x0F4B 0 [.n1 n] else s

/-! ## Requests of PWR_CMD (R423, R425) -/

/-- A result in PWR_CRES. -/
def State.powerResult (s : State) (code reason : Nat) : State := ((s.raise PWR_CRES_DONE).wr PWR_CRES_CODE code).reply code reason []

/-- The gate before a request that any module of a pair serves (R20, R429). -/
def State.serveGate (s : State) : Option Nat :=
  if s.hlt.supRestart ∨ 2 ≤ s.rd PWR_STAT_SLEEP then some bSUP_RESTART else if s.on PWR_STAT_PF then some bPOWER_FAIL else none

/-- SETLVL: the operator only, and no level slower than the image's PDECL. -/
def State.setLevel (s : State) (ten lvl : Nat) : State :=
  let s := s.lower PWR_CRES_DONE
  match s.serveGate with
  | some r => s.powerResult cBUSY r
  | none =>
    let slow := match s.cxe.prog with | some p => decide (p.pdecl < lvl) | none => false
    if ten ≠ 0 then s.powerResult 0x0F02 0
    else if slow then s.powerResult 0x0F01 0
    else (s.changeLevel lvl).powerResult 0x0F00 0

/-- SLEEP: refused in the order of R425, a state 0 with PW_BAD_ARG after the tenant. Log entry 20 (DESIGN CHOICE, DEDUCED). -/
def State.sleepRequest (s : State) (ten st : Nat) : State :=
  let s := s.lower PWR_CRES_DONE
  match s.serveGate with
  | some r => s.powerResult cBUSY r
  | none =>
    if ten ≠ 0 then s.powerResult 0x0F02 0
    else if st = 0 then s.powerResult 0x0F05 0
    else match s.sleepRefusal ten with
      | some c => s.powerResult c 0
      | none => (s.beginSleep st).powerResult 0x0F00 0

end Sys2Proof.Machine
end

