-- ==== Sys2Proof/Machine/MailOps.lean ====
section
/-! DEFINITION. Command and result records and the mailboxes of the host, the service port and network requesters (R443 to
R445, R448). -/

namespace Sys2Proof.Machine

/-- The host port's part changed. -/
def State.onHpt (s : State) (f : HptPart → HptPart) : State := { s with hpt := f s.hpt }

/-! ## Records (R443) -/

/-- The fields of a command record. -/
def HostCmd.code (c : HostCmd) : Nat := leAt c.bytes 0 2
def HostCmd.seq (c : HostCmd) : Nat := leAt c.bytes 4 4
def HostCmd.args (c : HostCmd) : List Byte := c.bytes.drop 16

/-- A record's length agrees with its LEN. -/
def recordOk (bs : List Byte) : Bool := decide (16 ≤ bs.length) && decide (bs.length ≤ 65536) && bs.length == 16 + leAt bs 12 4

/-- A result record. -/
def resultRec (cmd seq code reason : Nat) (data : List Byte) : List Byte :=
  leBytes 2 cmd ++ leBytes 1 reason ++ leBytes 1 0 ++ leBytes 4 seq ++ leBytes 2 code ++ leBytes 2 0 ++ leBytes 4 data.length ++ data

/-- A result record for a command. -/
def HostCmd.result (c : HostCmd) (code reason : Nat) (data : List Byte) : List Byte := resultRec c.code c.seq code reason data

/-- Codes of Table 16-12 and reasons of Table 16-13. -/
def hpOK : Nat := 0x1000
def hpNOT_READY : Nat := 0x1001
def hpNO_RESULT : Nat := 0x1002
def hpNO_SESSION : Nat := 0x1003
def hpBAD_CMD : Nat := 0x1004
def hpBAD_LEN : Nat := 0x1005
def hpNOT_OPERATOR : Nat := 0x1006
def hpAUTH_FAIL : Nat := 0x1007
def hpBULK : Nat := 0x1008
def bSUP_NOT_READY : Nat := 0x45
def bCMD_PENDING : Nat := 0xC2
def bMBOX_FULL : Nat := 0xC3

/-! ## Mailboxes -/

/-- The mailbox of a network requester. -/
def State.netBox (s : State) (src key : Nat) : Option Mailbox := (s.hpt.boxes.find? fun x => x.1 == (src, key)).map fun x => x.2

/-- A mailbox; one that nobody has used is empty. -/
def State.box (s : State) : Box → Mailbox
  | .host => s.hpt.host.box
  | .service => s.hpt.service.box
  | .net src key => (s.netBox src.toNat key.toNat).getD Mailbox.empty

/-- A mailbox changed. -/
def State.setBox (s : State) (b : Box) (f : Mailbox → Mailbox) : State :=
  s.onHpt fun h => match b with
    | .host => { h with host := { h.host with box := f h.host.box } }
    | .service => { h with service := { h.service with box := f h.service.box } }
    | .net src key => { h with boxes := h.boxes.map fun x => if x.1 = (src.toNat, key.toNat) then (x.1, f x.2) else x }

/-- The tenant for whom a mailbox's command is served: of the session, or of the frame. -/
def State.boxTen (s : State) : Box → Option Nat
  | .host => s.hpt.host.session
  | .service => s.hpt.service.session
  | .net src key => (s.box (.net src key)).tenant

/-- The source of a mailbox's commands, and its PDIR port (R446). -/
def boxSource : Box → Source
  | .host => .host
  | .service => .service
  | .net _ _ => .network
def boxPort (b : Box) : Nat := match b with | .host => 8 | _ => 10

/-- A command put into a mailbox; the result that it held is gone (R445). -/
def State.startCmd (s : State) (b : Box) (c : HostCmd) (ten : Option Nat) : State :=
  s.setBox b fun m => { m with
    cmd := some c, tenant := ten, since := s.ms, begun := false, done := none, late := false, held := none, reads := 0, used := s.ms }

/-- SUP serves commands: ready, powered and without power failure (R20, R429, R444). -/
def State.supReady (s : State) : Bool := s.on HPT_STAT_SUPRDY && !s.hlt.supRestart
def State.serving (s : State) : Bool := s.supReady && !s.on PWR_STAT_PF && s.powered

/-- A rejection shown in HPT_LASTREJ. -/
def State.rejectCmd (s : State) (code reason : Nat) : State := (s.wr HPT_LASTREJ_REASON reason).wr HPT_LASTREJ_CODE code

/-- A write of HPT_DOORBELL: rejected in the order of R444's table, or accepted. -/
def State.doorbell (s : State) (len : Nat) : State :=
  let bs := (List.range len).map fun k => sget 0 s.hpt.cmdBuf k
  if !s.powered then s
  else if len < 16 ∨ 65536 < len ∨ !recordOk bs then s.rejectCmd hpBAD_LEN 0
  else if s.on HPT_STAT_PEND then s.rejectCmd cBUSY bCMD_PENDING
  else if !s.supReady then s.rejectCmd cBUSY bSUP_NOT_READY
  else if s.on PWR_STAT_PF then s.rejectCmd cBUSY bPOWER_FAIL
  else
    let c : HostCmd := ⟨bs, none⟩
    (((s.startCmd .host c none).raise HPT_STAT_PEND).lower HPT_STAT_RES).wr HPT_STAT_LSEQ c.seq

/-- NOT_READY for a pending command, and HP_NO_RESULT (R445). -/
def notReady (c : HostCmd) : List Byte := c.result hpNOT_READY 0 []
def noResult (cmd seq : Nat) : List Byte := resultRec cmd seq hpNO_RESULT 0 []

/-- The record that a mailbox shows, with its READ_COUNT. -/
def Mailbox.shown (m : Mailbox) (cmd seq : Nat) : List Byte :=
  match m.cmd, m.held with
  | some c, _ => notReady c
  | none, some r => r.set 3 (BitVec.ofNat 8 m.reads)
  | none, none => noResult cmd seq

/-- A result read: READ_COUNT rises while a result is present, up to 255 (R445). -/
def Mailbox.countRead (m : Mailbox) : Mailbox :=
  if m.cmd.isNone ∧ m.held.isSome then { m with reads := satInc 255 m.reads } else m

/-- A record sent on the service port, with its length and CRC-32C (R448). -/
def State.usbSend (s : State) (r : List Byte) : State :=
  if s.hpt.usb then s.onHpt fun h => { h with usbOut := leBytes 4 r.length ++ r ++ leBytes 4 (crc32c r) } else s

/-- An answer sent to whoever sent a command; the host fetches its results itself. -/
def State.answerCmd (s : State) (c : HostCmd) (service : Bool) (r : List Byte) : State :=
  match c.msg with
  | some m => s.respond m r
  | none => if service then s.usbSend r else s

/-- A command's result becomes present (R445, R448). -/
def State.present (s : State) (b : Box) (c : HostCmd) (r : List Byte) : State :=
  let late := (s.box b).late
  let s := s.setBox b fun m => { m with cmd := none, begun := false, done := none, late := false, held := some r, reads := 0 }
  match b with
  | .host => ((s.lower HPT_STAT_PEND).raise HPT_STAT_RES).raise HPT_IRQ_RESULT
  | .service => if late then s else s.answerCmd c true r
  | .net _ _ => if late then s else s.answerCmd c false r

/-- The result of a command that has been carried out, not present yet. -/
def State.finishCmd (s : State) (b : Box) (c : HostCmd) (code reason : Nat) (data : List Byte) : State :=
  s.setBox b fun m => { m with begun := true, done := some (c.result code reason data) }

/-- The mailbox to which a waiting RESULT command belongs. -/
def HostCmd.box (c : HostCmd) : Box :=
  match c.msg with
  | some m => .net (BitVec.ofNat 16 m.hdr.src) (BitVec.ofNat 8 m.hdr.key)
  | none => .service

/-- RESULT served (R448). Log entry 22 (DESIGN CHOICE, DEDUCED). -/
def State.serveResult (s : State) (b : Box) : State :=
  match s.hpt.asks.find? fun c => c.box == b with
  | none => s
  | some c =>
    let s := s.onHpt fun h => { h with asks := h.asks.erase c }
    let service : Bool := b == .service
    if !c.args.isEmpty then s.answerCmd c service (c.result hpBAD_LEN 0 [])
    else
      let s := s.setBox b fun m => { m.countRead with used := s.ms }
      s.answerCmd c service ((s.box b).shown c.code c.seq)

/-- 50 ms without result: NOT_READY is answered in the result's place (R448). -/
def State.mailboxTimeout (s : State) (b : Box) : State :=
  let m := s.box b
  match m.cmd with
  | none => s
  | some c =>
    if b = .host ∨ m.late ∨ s.ms < m.since + 50 ∨ !s.powered then s
    else (s.setBox b fun m => { m with late := true }).answerCmd c (b == .service) (notReady c)

/-- The end of a session: its bulk window closes with it (R442, R449). -/
def PortState.ended (p : PortState) : PortState := { p with session := none, bulk := none }

/-- A session port changed. -/
def State.onPort (s : State) (host : Bool) (f : PortState → PortState) : State :=
  s.onHpt fun h => if host then { h with host := f h.host } else { h with service := f h.service }
def State.portState (s : State) (host : Bool) : PortState := if host then s.hpt.host else s.hpt.service

/-- The host session shown in HPT_STAT. -/
def State.showSession (s : State) : State :=
  match s.hpt.host.session with
  | some t => (s.raise HPT_STAT_SESS).wr HPT_STAT_TEN t
  | none => (s.lower HPT_STAT_SESS).wr HPT_STAT_TEN 0

/-- An open session closed, with its record (R442). -/
def State.closeSession (s : State) (host : Bool) : State :=
  match (s.portState host).session with
  | none => s
  | some t =>
    ((s.onPort host PortState.ended).showSession).log srcHPT 0x1041 t [.n1 (if host then 1 else 3), .n1 t]

/-- A session opened for a tenant. -/
def State.openSession (s : State) (host : Bool) (t : Nat) : State :=
  ((s.onPort host fun p => { p.ended with session := some t }).showSession).log srcHPT 0x1041 t [.n1 (if host then 1 else 3), .n1 t]

end Sys2Proof.Machine
end

