-- ==== Sys2Proof/Machine/Mtr.lean ====
section
/-! DEFINITION. The meanings of the metering commands (spec/07_metering.md). -/

namespace Sys2Proof.Machine

/-- METER_CYCLE_CLOSE: the results of a line cycle of `samples` samples (K) become final (R200 to R211, R213, R217).
Log entry 9 (DESIGN CHOICE, DEDUCED). -/
def execMeterCycleClose (samples : Nat) (currents : List CurrentCycle) (voltages : List VoltageCycle) (s : State) :
    Host.Outcome State Fault Refusal := .next (s.closeCycle samples currents voltages)

/-- METER_INTERVAL_LATCH: LTU issues the kind 1 event of a channel (R212, R213). -/
def execMeterIntervalLatch (ch : Fin 48) (s : State) : Host.Outcome State Fault Refusal :=
  .next (s.onEvent 1 ch.val fun s due => s.latchAt ch.val due)

/-- PRESET: a write of MTR_CMD with OP 1; the value stands in MTR_CVAL (R216). -/
def execMeterPreset (ten : Tenant) (ch : Fin 64) (k : Fin 16) (s : State) : Host.Outcome State Fault Refusal :=
  .next (s.presetRequest ten.val ch.val k.val (s.rd MTR_CVAL_HI_VAL_X)
    (s.rd MTR_CVAL_HI_VAL_HI * 2 ^ 32 + s.rd MTR_CVAL_LO_VAL_LO))

/-- PRESET_APPLY: presets take effect at a cycle boundary, after the cycle that ended there (R216). -/
def execPresetApply (s : State) : Host.Outcome State Fault Refusal := .next s.applyPresets

/-- METER_CHECKPOINT (R225). -/
def execMeterCheckpoint (s : State) : Host.Outcome State Fault Refusal := .next s.meterCheckpoint

/-- ACCUMULATOR_ECC: an uncorrectable error in a channel's accumulators (R226). -/
def execAccumulatorEcc (ch : Fin 48) (s : State) : Host.Outcome State Fault Refusal := .next (s.reloadChan ch.val)

/-- MTR_LO_READ: the low word of a latch time (`acc` none) or of a cumulative register, with the high word of the same
instant latched (R232). -/
def execMtrLoRead (ch : Fin 48) (acc : Option (Fin 10)) (s : State) : Host.Outcome State Fault Refusal :=
  let n := ch.val
  match acc, s.mch n with
  | none, some c => .next ((s.wr (MTR_CH_LATCH_HI_X_HI n) (c.latch / 2 ^ 32)).answerWord c.latch)
  | some k, some c =>
    let a := c.acc.getD k.val ⟨0, 0, 0, 0⟩
    .next (((s.wr (MTR_CH_ACC_HI_CUM_HI n k.val) (a.cum / 2 ^ 32)).wr (MTR_CH_ACC_HI_WRAP n k.val) a.wrap).answerWord a.cum)
  | _, none => .next (s.answerWord 0)

end Sys2Proof.Machine
end

