-- ==== Sys2Proof/Machine/Net.lean ====
section
/-! DEFINITION. The meanings of the network commands (spec/10_site_network.md). -/

namespace Sys2Proof.Machine

/-- ETHERNET_FRAME_RECEIVED: `bytes` without the FCS, `fcsOk` whether it was right (R288). -/
def execEthernetFrameReceived (port : Fin 2) (bytes : List Byte) (fcsOk : Bool) (s : State) : Host.Outcome State Fault Refusal :=
  .next (s.frameIn port.val bytes fcsOk)

/-- TRANSMIT_DESCRIPTOR: the descriptor at a DRAM address (R299). -/
def execTransmitDescriptor (addr : Word) (s : State) : Host.Outcome State Fault Refusal := .next (s.transmit addr.toNat)

/-- ETHERNET_FRAME_SENT: a port begins its next frame, at a PTP time in seconds and nanoseconds (R298, R299). -/
def execEthernetFrameSent (port : Fin 2) (sec : BitVec 48) (ns : BitVec 30) (s : State) : Host.Outcome State Fault Refusal :=
  .next (s.frameOut port.val (sec.toNat % 2 ^ 32) ns.toNat)

/-- LINK_UP at a speed: 0 10, 1 100, 2 1000 Mbit/s (R287). -/
def execLinkUp (port : Fin 2) (speed : Fin 3) (s : State) : Host.Outcome State Fault Refusal :=
  .next (s.linkUp port.val (speed.val + 1))

/-- LINK_DOWN (R295). -/
def execLinkDown (port : Fin 2) (s : State) : Host.Outcome State Fault Refusal := .next (s.linkLost port.val)

/-- NEG_FAIL: the partner offers only half duplex (R287). -/
def execNegFail (port : Fin 2) (s : State) : Host.Outcome State Fault Refusal :=
  .next (((s.lower (NET_P_STAT_LINK port.val)).wr (NET_P_STAT_SPEED port.val) 0).raise (NET_P_STAT_NEG_FAIL port.val))

/-- DOWNSHIFT: the traffic in kbit/s in each direction averaged over DS_WIN (R289). -/
def execDownshift (port : Fin 2) (rx tx : Nat) (s : State) : Host.Outcome State Fault Refusal :=
  let p := port.val
  if s.on (NET_P_CFG_DS_EN p) ∧ s.rd (NET_P_STAT_SPEED p) = 3 ∧ (s.rd (NET_P_CFG_ADV p)).testBit 1 ∧ rx < 5000 ∧ tx < 5000 ∧
      s.mayShift p then
    .next (s.shifted p true)
  else .next s

/-- UPSHIFT: the traffic in kbit/s averaged over 1 s, or a frame of Q6 or Q7 that waits (R289). -/
def execUpshift (port : Fin 2) (rx tx : Nat) (s : State) : Host.Outcome State Fault Refusal :=
  let p := port.val
  if s.on (NET_P_STAT_DS p) ∧ (50000 < rx ∨ 50000 < tx ∨ s.urgentWaits p) ∧ s.mayShift p then .next (s.shifted p false)
  else .next s

/-- LPI_ENTRY: the port has held no frame for LPI_T µs (R290). -/
def execLpiEntry (port : Fin 2) (s : State) : Host.Outcome State Fault Refusal :=
  let p := port.val
  if s.on (NET_P_CFG_EEE_EN p) ∧ s.on (NET_P_STAT_LINK p) ∧ 2 ≤ s.rd (NET_P_STAT_SPEED p) ∧ !(s.net.tx.any fun f => f.port == p) then
    .next (s.raise (NET_P_STAT_LPI p))
  else .next s

/-- RING_TEST_FRAME (R295). -/
def execRingTestFrame (s : State) : Host.Outcome State Fault Refusal := .next s.ringTest

/-- RING_OPEN (R295). -/
def execRingOpen (s : State) : Host.Outcome State Fault Refusal := .next s.ringOpen

/-- RING_CLOSE (R295). -/
def execRingClose (s : State) : Host.Outcome State Fault Refusal := .next s.ringClose

/-- RING_CONTROL_FRAME: the oldest received one (R295). -/
def execRingControlFrame (s : State) : Host.Outcome State Fault Refusal := .next s.ringFrame

/-- ADDRESS_AGING: entries unused for 300 s (R294). -/
def execAddressAging (s : State) : Host.Outcome State Fault Refusal :=
  .next (s.onNet fun n => { n with learned := n.learned.filter fun l => decide (s.ms < l.ms + 300000) })

/-- PTP_SYNC_CHANGE: SYNC, the port states and the offset from the master in ns (R304). -/
def execPtpSyncChange (sync : Bool) (p0 p1 : BitVec 4) (ofs : Word) (s : State) : Host.Outcome State Fault Refusal :=
  .next (s.ptpSync sync p0.toNat p1.toNat ofs.toNat)

/-- PTP_MESSAGE_INTERVAL: 0 Sync, 1 Announce, 2 Pdelay_Req, 3 Delay_Req (R303). -/
def execPtpMessageInterval (port : Fin 2) (kind : Fin 4) (s : State) : Host.Outcome State Fault Refusal :=
  .next (s.ptpInterval port.val kind.val)

/-- UPT_FRAME_RECEIVED: the UPT engine takes the next frame of its queues (R302, R313). -/
def execUptFrameReceived (s : State) : Host.Outcome State Fault Refusal := .next s.uptReceive

/-- UPT_READ: the oldest accepted transaction, a READ (R316). -/
def execUptRead (s : State) : Host.Outcome State Fault Refusal := .next (s.onMsg uREAD false State.uptRead)

/-- UPT_WRITE (R316). -/
def execUptWrite (s : State) : Host.Outcome State Fault Refusal := .next (s.onMsg uWRITE false State.uptWrite)

/-- UPT_SUBSCRIBE (R321). -/
def execUptSubscribe (s : State) : Host.Outcome State Fault Refusal := .next (s.onMsg uSUBSCRIBE false State.uptSubscribe)

/-- UPT_NOTICE (R320). -/
def execUptNotice (s : State) : Host.Outcome State Fault Refusal := .next (s.onMsg uNOTICE false State.uptNotice)

/-- UPT_EVENT: `localTime` is the local line time interpolated at an announced crossing (R57, R318). -/
def execUptEvent (localTime : BitVec 56) (s : State) : Host.Outcome State Fault Refusal :=
  .next (s.onMsg uEVENT false fun s m => s.uptEvent m localTime)

/-- UPT_RESPONSE: the response to a SUBSCRIBE of the module (R313, R320). -/
def execUptResponse (s : State) : Host.Outcome State Fault Refusal := .next (s.onMsg uSUBSCRIBE true State.uptResponse)

/-- REASSEMBLY_TIMEOUT: incomplete COMMANDs 2 s after their first segment (R317). -/
def execReassemblyTimeout (s : State) : Host.Outcome State Fault Refusal :=
  let late := s.net.reasm.filter fun r => decide (r.ms + 2000 ≤ s.ms)
  .next ((s.bumpBy NET_UPT_CNT_A_LENERR late.length).onNet fun n => { n with
    reasm := n.reasm.filter fun r => decide (s.ms < r.ms + 2000) })

/-- SUBSCRIBE_REFRESH (R320). -/
def execSubscribeRefresh (s : State) : Host.Outcome State Fault Refusal :=
  if s.on LTU_SCHED_EN ∧ s.net.nextRefresh ≤ s.cyc then
    .next ((s.subscribeAll fun n => s.rd (NET_SUB_STAT_STATE n) != sbTYPE).onNet fun n => { n with nextRefresh := s.cyc + 256 })
  else .next s

/-- SUBSCRIBE_RETRY: the request of a TID has had no response (R320). -/
def execSubscribeRetry (tid : Half) (s : State) : Host.Outcome State Fault Refusal := .next (s.subRetry tid.toNat)

/-- SUBSCRIPTION_STALE (R320). -/
def execSubscriptionStale (sub : Fin 2048) (s : State) : Host.Outcome State Fault Refusal :=
  match s.sub sub.val with
  | none => .next s
  | some b =>
    if s.rd (NET_SUB_STAT_STATE sub.val) = sbACTIVE ∧ b.notice + b.tmo ≤ s.cyc then
      .next (s.subEnds sub.val sbSTALE (s.rd (NET_SUB_STAT_LASTCODE sub.val)) 0x43 0x0A4A)
    else .next s

/-- PERIODIC_NOTICE: the periodic publications of the present cycle (R321). -/
def execPeriodicNotice (s : State) : Host.Outcome State Fault Refusal := .next (s.notify s.periodicDue)

/-- CHANGE_NOTICE: a publication of a subscriber whose change or repetition is due (R321). -/
def execChangeNotice (addr subno : Half) (s : State) : Host.Outcome State Fault Refusal :=
  .next (s.notify fun p => samePub addr.toNat subno.toNat p && s.changeDue p)

/-- PUBLICATION_DROP: publications not refreshed for 1,024 lc (R321). -/
def execPublicationDrop (s : State) : Host.Outcome State Fault Refusal :=
  .next (s.onNet fun n => { n with pubs := n.pubs.filter fun p => decide (s.cyc < p.refreshed + 1024) }).countPubs

/-- KEY_BINDING_CHANGE: a write of NET_KEYn (R312). -/
def execKeyBindingChange (n : Fin 128) (en : Bool) (slot : Byte) (s : State) : Host.Outcome State Fault Refusal :=
  .next (s.bindKey n.val en slot.toNat)

end Sys2Proof.Machine
end

