-- ==== Sys2Proof/Machine/Pdir.lean ====
section
/-! DEFINITION. The meanings of the point-directory commands (spec/03_points_and_tenants.md). -/

namespace Sys2Proof.Machine

/-- POINT_READ: judged under R76; an uncorrectable error first restores the entry (R84). -/
def execPointRead (port : Port) (tag : Tenant) (handle : Half) (elem : Fin 8) (ecc : Ecc) (s : State) :
    Host.Outcome State Fault Refusal :=
  let s := match ecc with
    | .clean => s
    | .corrected => s.bump HLT_ERR_A_ECC
    | .uncorrectable => s.pointEcc handle.toNat
  .next (s.readElem port.val tag.val handle.toNat elem.val)

/-- TRANSACTION_WRITE: judged under R76; writes the raw state of an XACT point when served. -/
def execTransactionWrite (port : Port) (tag : Tenant) (handle : Half) (elem : Fin 8) (type : PType) (value : Word)
    (s : State) : Host.Outcome State Fault Refusal :=
  .next (s.transWrite port.val tag.val handle.toNat elem.val type value)

/-- TABLE_WINDOW_READ (R83): after an uncorrectable error the access receives a bus error (R84). -/
def execTableWindowRead (port : Port) (tag : Tenant) (handle : Fin 8192) (word : Fin 8) (ecc : Ecc) (s : State) :
    Host.Outcome State Fault Refusal :=
  match ecc with
  | .clean => .next (s.windowRead port.val tag.val handle.val word.val)
  | .corrected => .next ((s.bump HLT_ERR_A_ECC).windowRead port.val tag.val handle.val word.val)
  | .uncorrectable => .next { s.pointEcc handle.val with answer := ⟨0, 0, [], true⟩ }

/-- TABLE_WINDOW_WRITE (R83). -/
def execTableWindowWrite (port : Port) (tag : Tenant) (handle : Fin 8192) (word : Fin 8) (size : Nat) (value : Word)
    (s : State) : Host.Outcome State Fault Refusal :=
  .next (s.windowWrite port.val tag.val handle.val word.val size value)

/-- FORCE: a write of PDIR_FCMD with OP 0b01, with the value of PDIR_FVAL (R85, R482). -/
def execForce (tag : Tenant) (handle : BitVec 13) (s : State) : Host.Outcome State Fault Refusal :=
  .next (s.forceReq 10 tag.val handle.toNat (BitVec.ofNat 32 (s.rd PDIR_FVAL_VAL)) none)

/-- RELEASE: a write of PDIR_FCMD with OP 0b10 (R85, R482). -/
def execRelease (tag : Tenant) (handle : BitVec 13) (s : State) : Host.Outcome State Fault Refusal :=
  .next (s.releaseReq 10 tag.val handle.toNat)

/-- FORCE_RECORD_COMPLETE: the MRAM record of the handle's force or release is complete (R86). -/
def execForceRecordComplete (handle : BitVec 13) (s : State) : Host.Outcome State Fault Refusal :=
  match s.pdir.jobs.find? (fun j => j.handle = handle.toNat) with
  | some j => .next (s.forceRecorded j)
  | none => .next s

end Sys2Proof.Machine
end

