-- ==== Sys2Proof/Machine/Plk.lean ====
section
/-! DEFINITION. The meanings of the pair commands but the transfer of images (spec/11_redundant_pair.md). -/

namespace Sys2Proof.Machine

/-- PAIR_WATCH_CHANGE: the filtered level; inactive makes a SYNCED module claim, as the incoming one after GO, else hot,
`ns` after the line went inactive; `watch4` is the level at the 4 µs sample of R329 (R326, R328, R335). -/
def execPairWatchChange (level watch4 : Bool) (ns : Nat) (s : State) : Host.Outcome State Fault Refusal :=
  let s := s.wr PLK_STAT_WATCH (bit level)
  if level then .next s
  else
    let s := s.onPlk fun p => { p with quietMs := s.ms }
    if !s.paired || !s.awake || s.rd PLK_STAT_STATE != psSYNCED || s.claimBarred then .next s
    else if s.plk.go then .next (s.claim 3 0 watch4)
    else .next (s.hotClaim ns watch4)

/-- COLD_TAKEOVER_TIMEOUT: PAIR_WATCH was inactive for the wait of Table 11-2. -/
def execColdTakeoverTimeout (watch4 : Bool) (s : State) : Host.Outcome State Fault Refusal :=
  if s.paired && s.awake && !s.on PLK_STAT_WATCH && !s.claimBarred && s.coldDue then .next (s.coldClaim watch4) else .next s

/-- OUTGOING_STAGE_DISABLE: 20 µs after X (R327). -/
def execOutgoingStageDisable (s : State) : Host.Outcome State Fault Refusal :=
  if s.plk.leaving ∧ s.rd PLK_STAT_STATE ≠ psCONTROL then .next s.disableStages else .next s

/-- HOLDOFF_EXPIRY: the count of the preferred primary has ended and RECLAIM is sent (R333). -/
def execHoldoffExpiry (s : State) : Host.Outcome State Fault Refusal :=
  if s.rd PLK_STAT_ROLE = 1 ∧ s.rd PLK_STAT_STATE = psSYNCED ∧ s.rd PLK_CFG_HOLDOFF ≠ 0 ∧ s.rd PLK_STAT_HOLD_REM = 0 ∧
      !s.plk.reclaimed ∧ !s.on HLT_STAT_MFAULT then
    .next ((s.sendLink (.ctrl 3 0)).onPlk fun p => { p with reclaimed := true })
  else .next s

/-- GO_DEADLINE (R335). -/
def execGoDeadline (s : State) : Host.Outcome State Fault Refusal := if s.paired then .next s.goDeadline else .next s

/-- PAIR_RELEASE: the RELEASE request of PLK_CMD (R334, R344). -/
def execPairRelease (ten : Tenant) (s : State) : Host.Outcome State Fault Refusal :=
  let s := s.lower PLK_CRES_DONE
  match s.judgePair true ten.val with
  | some c => .next (s.pairResult c)
  | none => .next (s.startSwo.pairResult 0x0B00)

/-- PAIR_RESYNC: the RESYNC request of PLK_CMD, which restarts R341 in a module not in control (R344). -/
def execPairResync (ten : Tenant) (s : State) : Host.Outcome State Fault Refusal :=
  let s := s.lower PLK_CRES_DONE
  match s.judgePair false ten.val with
  | some c => .next (s.pairResult c)
  | none =>
    let st := s.rd PLK_STAT_STATE
    .next ((if st = psSYNCED then s.unsync else if st = psRESYNC then s.enterResync else s).pairResult 0x0B00)

/-- HEARTBEAT_SEND (R337). -/
def execHeartbeatSend (s : State) : Host.Outcome State Fault Refusal :=
  if s.paired && s.on PLK_STAT_LINK then
    let b := s.newBeat
    .next ((s.onPlk fun p => { p with beat := some b, nak := false }).sendLink (.hb b))
  else .next s

/-- HEARTBEAT_RECEIVED: `arrival` is the local line time at its start delimiter (R336, R341, R342). -/
def execHeartbeatReceived (head : LinkHead) (beat : Beat) (arrival : BitVec 56) (s : State) :
    Host.Outcome State Fault Refusal :=
  .next (s.onFrame head fun s => (s.forwardTo arrival.toNat).heartbeat beat)

/-- LINK_FRAME_RETRANSMIT: 16 µs without acknowledgement (R336). -/
def execLinkFrameRetransmit (s : State) : Host.Outcome State Fault Refusal :=
  if s.on PLK_STAT_LINK then .next s.retransmit else .next s

/-- PAIR_LINK_DOWN: no valid frame for 32 µs (R337). -/
def execPairLinkDown (s : State) : Host.Outcome State Fault Refusal := .next s.linkFails

/-- SYNCED_LINK_GRACE: a SYNCED module without link for 64 µs (R337). -/
def execSyncedLinkGrace (s : State) : Host.Outcome State Fault Refusal :=
  if s.rd PLK_STAT_STATE = psSYNCED ∧ !s.on PLK_STAT_LINK then
    .next ((s.enterResync.raise PLK_EVT_SYNC).log srcPLK 0x0B46 0 [])
  else .next s

/-- PAIR_LINK_UP: the twin's epoch and the link delay in la measured at the start (R336, R342). -/
def execPairLinkUp (twinEpoch : Word) (delay : Nat) (s : State) : Host.Outcome State Fault Refusal :=
  .next (s.linkStarts twinEpoch.toNat delay)

/-- CTRL_FAULT: a SYNCED module claims hot (R330). -/
def execCtrlFault (head : LinkHead) (ns : Nat) (watch4 : Bool) (s : State) : Host.Outcome State Fault Refusal :=
  .next (s.onFrame head fun s => if s.rd PLK_STAT_STATE = psSYNCED then s.hotClaim ns watch4 else s)

/-- CTRL_RESYNC: the module in control sends every mirrored item in full (R341). -/
def execCtrlResync (head : LinkHead) (s : State) : Host.Outcome State Fault Refusal := .next (s.onFrame head State.sendAll)

/-- CTRL_RECLAIM: the module in control starts a planned switch-over (R335). -/
def execCtrlReclaim (head : LinkHead) (s : State) : Host.Outcome State Fault Refusal :=
  .next (s.onFrame head fun s =>
    if s.rd PLK_STAT_STATE = psCONTROL ∧ !s.on PLK_STAT_SWO_PEND then s.startSwo else s)

/-- CTRL_SWO: the incoming twin converts X and arms its switch-over entry (R335, R342). -/
def execCtrlSwo (head : LinkHead) (x : BitVec 56) (s : State) : Host.Outcome State Fault Refusal :=
  .next (s.onFrame head fun s => if s.rd PLK_STAT_STATE = psSYNCED then s.takeSwo (s.fromTwin x.toNat) else s)

/-- CTRL_GO (R335). -/
def execCtrlGo (head : LinkHead) (s : State) : Host.Outcome State Fault Refusal :=
  .next (s.onFrame head fun s =>
    if s.rd PLK_STAT_STATE = psSYNCED ∧ s.on PLK_STAT_SWO_PEND then s.onPlk fun p => { p with go := true } else s)

/-- CTRL_SWO_CANCEL (R335). -/
def execCtrlSwoCancel (head : LinkHead) (s : State) : Host.Outcome State Fault Refusal :=
  .next (s.onFrame head fun s =>
    if s.rd PLK_STAT_STATE = psSYNCED then
      ((s.lower PLK_STAT_SWO_PEND).lower LTU_SCHED_SWO_ARM).onPlk fun p => { p with go := false, atX := false }
    else s)

/-- CTRL_IMAGE_REQ: the twin sends its Knaec image (R341). -/
def execCtrlImageReq (head : LinkHead) (s : State) : Host.Outcome State Fault Refusal :=
  .next (s.onFrame head fun s => s.sendImage s.cfg.image)

/-- MIRROR_OUT: entries of a batch, applied at its LAST frame (R338). -/
def execMirrorOut (head : LinkHead) (entries : List OutEntry) (last : Bool) (s : State) : Host.Outcome State Fault Refusal :=
  .next (s.onFrame head fun s => s.mirrorOutIn entries last)

/-- MIRROR_FORCE: OP 1 sets and 2 releases (Table 11-4). -/
def execMirrorForce (head : LinkHead) (handle : BitVec 13) (op : Fin 3) (ten : Tenant) (value fts : Word) (s : State) :
    Host.Outcome State Fault Refusal :=
  .next (s.onFrame head fun s => if op = 0 then s else s.mirrorForceIn handle.toNat op.val ten.val value fts)

/-- MIRROR_LOOP: each record with the 25 MHz count of this module at the sample's due time (R330, R338). -/
def execMirrorLoop (head : LinkHead) (recs : List (LoopMirror × Nat)) (s : State) : Host.Outcome State Fault Refusal :=
  .next (s.onFrame head fun s => recs.foldl (fun s r => s.mirrorLoopIn r.1 r.2) s)

/-- MIRROR_METER (R339). -/
def execMirrorMeter (head : LinkHead) (recs : List MeterMirror) (s : State) : Host.Outcome State Fault Refusal :=
  .next (s.onFrame head fun s => if s.applies then recs.foldl (fun s m => s.applyMeterMirror m s.cycleOfs) s else s)

/-- MIRROR_GRN: records for the twin tail (R340). -/
def execMirrorGrn (head : LinkHead) (body : List Byte) (s : State) : Host.Outcome State Fault Refusal :=
  .next (s.onFrame head fun s => s.mirrorGrnIn (recsOf body.length body))

/-- MIRROR_DATA: rows held until DATA_END (R338). -/
def execMirrorData (head : LinkHead) (rows : List RowMirror) (s : State) : Host.Outcome State Fault Refusal :=
  .next (s.onFrame head fun s => if s.applies then s.onPlk fun p => { p with rows := p.rows ++ rows } else s)

/-- MIRROR_DATA_END (R338, R341). -/
def execMirrorDataEnd (head : LinkHead) (rec_ : SnapMirror) (s : State) : Host.Outcome State Fault Refusal :=
  .next (s.onFrame head fun s => s.mirrorDataEnd rec_)

/-- PLK_OFS_LO_READ: the low word of the pair offset is returned, the high word latched (R347). -/
def execPlkOfsLoRead (s : State) : Host.Outcome State Fault Refusal :=
  .next ((s.wr PLK_OFS_HI_OFS_HI (s.plk.ofs / 2 ^ 32)).answerWord s.plk.ofs)

/-- PLK_SWO_LO_READ: the low word of the last change of control is returned, the high word latched (R347). -/
def execPlkSwoLoRead (s : State) : Host.Outcome State Fault Refusal :=
  .next ((s.wr PLK_SWO_HI_T_HI (s.plk.changed / 2 ^ 32)).answerWord s.plk.changed)

/-- SWITCHOVER_POINT: the armed switch-over entry issues its kind 0 event (R64, R335). -/
def execSwitchoverPoint (s : State) : Host.Outcome State Fault Refusal := .next (s.onEvent 0 0 fun s _ => s.swoPoint)

end Sys2Proof.Machine
end

