-- ==== Sys2Proof/Machine/Pwr.lean ====
section
/-! DEFINITION. The meanings of the power, reset, sleep and health commands (spec/15_power_startup_health.md); `vin` is VIN in units
of 10 mV. -/

namespace Sys2Proof.Machine

/-- VIN as measured (PWR_STAT.VIN). -/
def State.measureVin (s : State) (vin : Half) : State := s.wr PWR_STAT_VIN vin.toNat

/-- The die temperature as measured, in 0.1 °C, and the highest since the last read (HLT_TEMP).
Log entry 20 (DESIGN CHOICE, DEDUCED). -/
def State.dieIs (s : State) (die : Half) : State :=
  let s := s.wr HLT_TEMP_NOW die.toNat
  if sint16 (s.rd HLT_TEMP_MAX) < sint16 die.toNat then s.wr HLT_TEMP_MAX die.toNat else s

/-- POWER_ON_RESET: VIN rose from below 7.5 V to 9.4 V or more; the role is read (R35, R417). `lost` tells that the backup domain
has lost its contents (R413). Log entry 24 (DESIGN CHOICE, DEDUCED). -/
def execPowerOnReset (vin : Half) (role : Fin 3) (lost : Bool) (found : Found) (s : State) : Host.Outcome State Fault Refusal :=
  if vin.toNat < 940 then .next s
  else .next ((s.startUp 1 (some role.val) lost found).measureVin vin)

/-- LOCK_WAIT_END (R420, R421). Log entry 24 (DESIGN CHOICE, DEDUCED). -/
def execLockWaitEnd (s : State) : Host.Outcome State Fault Refusal := .next s.lockWaitEnd

/-- PIN_RESET: RST_N low, in every state of a powered module (R418). -/
def execPinReset (found : Found) (s : State) : Host.Outcome State Fault Refusal :=
  if s.pwr.unpowered then .next s
  else .next (((s.controlRelease 1).startUp 2 none false found).wr PWR_STAT_VIN (s.rd PWR_STAT_VIN))

/-- PF_ASSERT: PF_N low for 2 µs, by the module or by the carrier (R416, R429, R432). -/
def execPfAssert (vin : Half) (flush : FlushIn) (s : State) : Host.Outcome State Fault Refusal :=
  if s.pwr.unpowered || s.on PWR_STAT_PF then .next (s.measureVin vin) else .next ((s.measureVin vin).powerFail flush)

/-- RECOVERY_RESET: VIN back at 9.4 V for 50 ms after a completed flush (R430). -/
def execRecoveryReset (vin : Half) (found : Found) (s : State) : Host.Outcome State Fault Refusal :=
  if !s.on PWR_STAT_HOLD || s.pwr.unpowered || decide (vin.toNat < 940) then .next s
  else .next ((s.startUp 3 none false found).measureVin vin)

/-- SUPPLY_LOSS: below 7.5 V the regulators stop; outputs are high-impedance and PAIR_ACT low (R418, R431). -/
def execSupplyLoss (vin : Half) (s : State) : Host.Outcome State Fault Refusal :=
  if 750 ≤ vin.toNat then .next s
  else
    let s := ((s.measureVin vin).disableStages.raise PWR_STAT_PF).onPwr fun p => { p with unpowered := true }
    .next (if s.paired then s.pairAct false else s)

/-- SETLVL (R423). -/
def execSetlvl (ten : Tenant) (level : Fin 4) (s : State) : Host.Outcome State Fault Refusal := .next (s.setLevel ten.val level.val)

/-- LEVEL_CHANGE_COMPLETE (R422). -/
def execLevelChangeComplete (s : State) : Host.Outcome State Fault Refusal := .next s.levelDone

/-- SLEEP_REQUEST (R425); the SLEEP instruction of a task reaches SUP with its activation's commit. -/
def execSleepRequest (ten : Tenant) (state : Fin 4) (s : State) : Host.Outcome State Fault Refusal :=
  .next (s.sleepRequest ten.val state.val)

/-- SLEEP_ENTRY_COMPLETE (R426). -/
def execSleepEntryComplete (flush : FlushIn) (s : State) : Host.Outcome State Fault Refusal := .next (s.enterSleep flush)

/-- WAKE_EVENT: the source of a bit of PWR_WAKE_EN is detected (R427). -/
def execWakeEvent (source : Fin 5) (s : State) : Host.Outcome State Fault Refusal := .next (s.wakeEvent source.val)

/-- WAKE_COMPLETE (R428). -/
def execWakeComplete (s : State) : Host.Outcome State Fault Refusal := .next s.wake

/-- MODULE_FAULT: a condition of Table 15-8 rises; class Reset runs the flush and resets with cause FAULT (R433). -/
def execModuleFault (cause : Fin 4) (die : Half) (flush : FlushIn) (found : Found) (s : State) : Host.Outcome State Fault Refusal :=
  if !s.powered then .next s
  else
    let s := (s.dieIs die).faultRises (cause.val + 1)
    if cause.val = 3 then .next ((s.flushSteps flush).startUp 4 none false found) else .next s

/-- MODULE_FAULT_CLEAR: the temperature or VCORE is back (Table 15-8). -/
def execModuleFaultClear (cause : Fin 4) (die : Half) (s : State) : Host.Outcome State Fault Refusal :=
  .next ((s.dieIs die).faultEnds (cause.val + 1))

/-- INDICATOR_UPDATE: every 86,400 s (R435, R436). -/
def execIndicatorUpdate (lossPpm erases writes driftPpb : Nat) (die : Half) (s : State) : Host.Outcome State Fault Refusal :=
  if !s.powered then .next s
  else .next ([0, 1, 2, 3, 4].foldl (State.updateIndicator ⟨lossPpm, erases, writes, driftPpb⟩) (s.dieIs die))

/-- SUP_WATCHDOG_EXPIRY: 250 ms without a kick (R434). -/
def execSupWatchdogExpiry (s : State) : Host.Outcome State Fault Refusal :=
  if s.hlt.supRestart || !s.powered || decide (2 ≤ s.rd PWR_STAT_SLEEP) || decide (s.ms < s.hlt.kick + 250) then .next s
  else .next s.supRestarts

/-- SUP_RESTART_COMPLETE: SUP serves commands again (R20). -/
def execSupRestartComplete (s : State) : Host.Outcome State Fault Refusal :=
  if !s.hlt.supRestart then .next s
  else
    let s := s.onHlt fun h => { h with supRestart := false, kick := s.ms }
    .next ((s.raise HPT_STAT_SUPRDY).raise HPT_IRQ_SUPRDY)

/-- HLT_WDOG_KICK: a write of 1 to KICK restarts the timer (R434). -/
def execHltWdogKick (s : State) : Host.Outcome State Fault Refusal := .next (s.onHlt fun h => { h with kick := s.ms })

/-- LIFECYCLE_RESET: with no operation started, the OTP word of the target is programmed, the change recorded and the module reset
as a power-on reset does (R369). -/
def execLifecycleReset (found : Found) (s : State) : Host.Outcome State Fault Refusal :=
  match s.ksu.lcTo with
  | none => .next s
  | some t =>
    if s.ksu.ops.any (fun o => o.started) || s.on PWR_STAT_PF then .next s
    else
      let s := s.onKsu fun k => { k with otp := k.otp.set (t - 1) 0xFFFFFFFF, lcTo := none }
      .next ((s.log srcKSU 0x0C45 0 []).startUp 5 none false found)

end Sys2Proof.Machine
end

