-- ==== Sys2Proof/Machine/Upd.lean ====
section
/-! DEFINITION. The meanings of the update commands and of what ends the phases of an update (spec/13_field_update.md); arguments
stand in UPD_ARG and a block in UPD_BLK. -/

namespace Sys2Proof.Machine

/-- UPDATE_OPEN (R379, R380). -/
def execUpdateOpen (src : Source) (ten : Tenant) (s : State) : Host.Outcome State Fault Refusal :=
  .next (s.updCommand src ten.val .open_)

/-- UPDATE_WRITE: the block of UPD_BLK at position `pos` (R381 to R383). -/
def execUpdateWrite (src : Source) (ten : Tenant) (pos : BitVec 15) (s : State) : Host.Outcome State Fault Refusal :=
  .next (s.updCommand src ten.val (.write pos.toNat))

/-- UPDATE_FINISH (R384). -/
def execUpdateFinish (src : Source) (ten : Tenant) (s : State) : Host.Outcome State Fault Refusal :=
  .next (s.updCommand src ten.val .finish)

/-- VERIFICATION_COMPLETE; `bad` tells that NAND could not read a page of the slot (R28, R384). -/
def execVerificationComplete (bad : Bool) (s : State) : Host.Outcome State Fault Refusal :=
  if s.updState = usVERIFYING ∧ s.serveGate.isNone then .next (s.updVerified bad) else .next s

/-- UPDATE_INSTALL (R385, R392). -/
def execUpdateInstall (src : Source) (ten : Tenant) (s : State) : Host.Outcome State Fault Refusal :=
  .next (s.updCommand src ten.val .install)

/-- COMPONENT_RESTART: a RESTART component, or a fall-back over such components, restarts the module; in a pair the module in
CONTROL first gives up control by a planned switch-over, or with ALONE restarts without one (R385, R389, R392). -/
def execComponentRestart (found : Found) (s : State) : Host.Outcome State Fault Refusal :=
  let next := if s.updState = usFALLBACK then s.toUndo.head? else if s.upd.pending.isSome then none else s.nextComp
  let due := match next with | some c => c.restart | none => false
  let busy := s.serveGate.isSome || s.on PWR_STAT_ENTRY || !(s.updState == usINSTALLING || s.updState == usFALLBACK)
  match next with
  | none => .next s
  | some c =>
    if !due || busy || (s.updState == usINSTALLING && s.inForce c) then .next s
    else if s.paired && s.inControl && s.on PLK_STAT_TWIN_SYNCED then .next (if s.on PLK_STAT_SWO_PEND then s else s.startSwo)
    else if s.paired && s.inControl && s.updState == usINSTALLING && !s.upd.alone then .next s
    else
      let s := if s.updState = usINSTALLING then s.onUpd fun u => { u with pending := some c.order } else s
      .next (s.startUp 6 none false found)

/-- UPDATE_CONFIRM (R388). -/
def execUpdateConfirm (src : Source) (ten : Tenant) (s : State) : Host.Outcome State Fault Refusal :=
  .next (s.updCommand src ten.val .confirm)

/-- UPDATE_FALLBACK (R389). -/
def execUpdateFallback (src : Source) (ten : Tenant) (s : State) : Host.Outcome State Fault Refusal :=
  .next (s.updCommand src ten.val .fallback)

/-- UPDATE_ABORT (Table 13-5). -/
def execUpdateAbort (src : Source) (ten : Tenant) (s : State) : Host.Outcome State Fault Refusal :=
  .next (s.updCommand src ten.val .abort)

/-- UPDATE_STATUS (Table 13-5). -/
def execUpdateStatus (src : Source) (ten : Tenant) (s : State) : Host.Outcome State Fault Refusal :=
  .next (s.updCommand src ten.val .status)

/-- LOCK_TIMEOUT (R380). -/
def execLockTimeout (s : State) : Host.Outcome State Fault Refusal :=
  if s.serveGate.isSome then .next s else .next s.lockTimeout

/-- TRIAL_WINDOW_END (R388). -/
def execTrialWindowEnd (s : State) : Host.Outcome State Fault Refusal :=
  if s.serveGate.isSome then .next s else .next s.windowEnds

/-- RESTART_ENABLE_TIMEOUT: 30 s after a restart of the update (Table 13-6). -/
def execRestartEnableTimeout (s : State) : Host.Outcome State Fault Refusal :=
  match s.upd.enableMs with
  | some t => if !s.on LTU_SCHED_EN ∧ t + 30000 ≤ s.ms ∧ s.serveGate.isNone then .next (s.fallback 3) else .next s
  | none => .next s

end Sys2Proof.Machine
end

