-- ==== Sys2Proof/Machine/Well.lean ====
section
/-! DEFINITION. The meanings of Well's commands (spec/14_granary_and_well.md). -/

namespace Sys2Proof.Machine

/-- WELL_SET: a write of WELL_CMD with OP 1 (R408, R409). -/
def execWellSet (ten : Tenant) (s : State) : Host.Outcome State Fault Refusal := .next (s.wellCommand ten.val s.setCmd)

/-- WELL_ARM: a write of WELL_CMD with OP 2 (R408, R409). -/
def execWellArm (ten : Tenant) (alarm : Fin 4) (s : State) : Host.Outcome State Fault Refusal :=
  .next (s.wellCommand ten.val (s.armCmd alarm))

/-- WELL_DISARM: a write of WELL_CMD with OP 3 (R409). -/
def execWellDisarm (ten : Tenant) (alarm : Fin 4) (s : State) : Host.Outcome State Fault Refusal :=
  .next (s.wellCommand ten.val (some (.disarm alarm)))

/-- BACKUP_MEMORY_WRITE (R409, R412). -/
def execBackupMemoryWrite (ten : Tenant) (index : Fin 16) (value : Word) (s : State) : Host.Outcome State Fault Refusal :=
  .next (s.backupWrite ten.val index.val value.toNat)

/-- WELL_COMMAND_COMPLETE: the crossing command takes effect (R409). -/
def execWellCommandComplete (s : State) : Host.Outcome State Fault Refusal := .next s.wellComplete

/-- ALARM_FIRE: an armed alarm reaches its target by counting; the time is brought to it (R410). -/
def execAlarmFire (alarm : Fin 4) (s : State) : Host.Outcome State Fault Refusal :=
  if s.on (WELL_ALM_STAT_ARMED alarm.val) then
    let t := s.target alarm.val
    let s := s.onWell fun w => if w.sec < t then { w with sec := t, sub := 0 } else w
    .next (s.fireCount alarm.val)
  else .next s

/-- WELL_TIME_WRAP: one second after the last valid time (R406). -/
def execWellTimeWrap (s : State) : Host.Outcome State Fault Refusal := .next s.wellWrap

/-- BACKUP_SWITCHOVER: the rail falls below 2.80 V; the first switch-over is stamped, a single module locks (R411, R412). -/
def execBackupSwitchover (s : State) : Host.Outcome State Fault Refusal :=
  let s := (s.onWell fun w => { w with onBackup := true }).bump WELL_BSWCNT_CNT
  let s := if s.on WELL_BSW1_VALID then s
    else (((s.wr WELL_BSW0_SEC s.well.sec).wr WELL_BSW1_SECHI (s.well.sec / 2 ^ 32)).wr WELL_BSW1_SUB s.well.sub).raise
      WELL_BSW1_VALID
  let s := s.raise WELL_EVT_BSW
  if s.rd PLK_STAT_ROLE = 0 then .next s.wellLock else .next s

/-- BACKUP_RETURN: the rail rises to 2.95 V (R411). -/
def execBackupReturn (s : State) : Host.Outcome State Fault Refusal :=
  .next (s.onWell fun w => { w with onBackup := false })

/-- WELL_SUBSEC_READ: the subsecond is returned and TIME0 and TIME1 of the same instant are latched (R415). -/
def execWellSubsecRead (s : State) : Host.Outcome State Fault Refusal :=
  let s := ((s.wr WELL_TIME0_T s.timeWords.1).wr WELL_TIME1_T s.timeWords.2).wr WELL_SUBSEC_T s.well.sub
  .next (s.answerWord s.well.sub)

end Sys2Proof.Machine
end

