-- ==== Sys2Proof/Machine/AccessOps.lean ====
section
/-! DEFINITION. Accesses to the internal address space: the regions and partitions with their masters, register reads and
writes with what they trigger, and accesses to memories (R9, R11, R12, R21 to R26, R29). -/

namespace Sys2Proof.Machine

/-- The state that a command leaves; a command that stops leaves the state it found. -/
def ran (o : Host.Outcome State Fault Refusal) (s : State) : State :=
  match o with
  | .next t => t
  | _ => s

/-- The word that a register read answered, with the state after it. -/
def readBy (o : Host.Outcome State Fault Refusal) (s : State) : State × Nat :=
  let t := ran o s
  (t, (t.answer.words.headD 0).toNat)

/-- A tenant field. -/
def tenAt (w lo : Nat) : Tenant := Fin.ofNat 64 (bitsOf w lo 6)

/-- The source of a SRC field; 0 names none. -/
def sourceOf : Nat → Option Source
  | 1 => some .host | 2 => some .network | 3 => some .service | _ => none

/-! ## Register writes that do more than set a field -/

/-- LTU_CFG: a new reference phase waits for its first zero crossing (R40). -/
def State.setLtuCfg (s : State) (w : Nat) : State :=
  let ref := s.rd LTU_CFG_REF
  let s := s.writeLtuCfg w true
  if s.rd LTU_CFG_REF = ref then s else s.onLtu fun l => { l with refNew := true }

/-- Writes in the LTU window: `o` is the offset. -/
def State.ltuWrite (s : State) (o w : Nat) : Option State :=
  match o with
  | 0x000 => some (s.setLtuCfg w)
  | 0x024 =>
    some (match bitsOf w 28 4 with
      | 1 => ran (execCload (BitVec.ofNat 24 w) s) s
      | 2 => ran (execSiteResync s) s
      | _ => s)
  | 0x040 => some (s.writeSiteCfg w)
  | 0x060 =>
    some (if bitsOf w 31 1 = 1 then ran (execSchedulerEnable s) s else if s.on LTU_SCHED_EN then ran (execSchedulerDisable s) s else s)
  | 0x064 => some (if s.on LTU_SCHED_SWAP_PEND then s else s.wr LTU_SWAP_LO_X_LO w)
  | 0x068 => some (ran (execSwapArm (BitVec.ofNat 24 w) s) s)
  | 0x070 => some (if s.on LTU_SCHED_SWO_ARM then s else s.wr LTU_SWO_LO_X_LO w)
  | 0x074 =>
    some (if bitsOf w 31 1 = 1 then ran (execSwitchoverEntryCancel s) s else ran (execSwitchoverEntryArm (BitVec.ofNat 24 w) s) s)
  | _ =>
    if o < 0x1000 ∨ 0x5000 ≤ o then none
    else
      let e := (o - 0x1000) % 0x2000
      some (ran (execSchedulerEntryWrite (Fin.ofNat 2 ((o - 0x1000) / 0x2000)) (Fin.ofNat 512 (e / 16)) (Fin.ofNat 4 (e % 16 / 4))
        (BitVec.ofNat 32 w) s) s)

/-- PDIR: force requests; tenant 0 stays enabled, and quotas above 8,192 act as 8,192 (R77, R85). -/
def State.pdirWrite (s : State) (o w : Nat) : Option State :=
  if o = 0x030 then
    some (match bitsOf w 30 2 with
      | 1 => ran (execForce (tenAt w 24) (BitVec.ofNat 13 w) s) s
      | 2 => ran (execRelease (tenAt w 24) (BitVec.ofNat 13 w) s) s
      | _ => s)
  else if 0x100 ≤ o ∧ o < 0x300 ∧ o % 8 = 0 then
    let n := (o - 0x100) / 8
    let s := if n = 0 then s else s.wr (PDIR_TEN_CFG_EN n) (bitsOf w 31 1)
    some (s.wr (PDIR_TEN_CFG_QUOTA n) (min 8192 (bitsOf w 0 14)))
  else none

/-- CXE: commands, the load port and value changes. -/
def State.cxeWrite (s : State) (o w : Nat) : Option State :=
  match o with
  | 0x008 =>
    some (match bitsOf w 28 4 with
      | 1 => ran (execCxeRestart 0 s) s
      | 2 => ran (execCxeRestore (Fin.ofNat 2 w) s) s
      | _ => s)
  | 0x044 => some (ran (execLoadPortWrite (BitVec.ofNat 32 w) s) s)
  | 0x080 =>
    some (match bitsOf w 30 2 with
      | 1 => ran (execValueChangeData (tenAt w 24) (Fin.ofNat 16 (bitsOf w 20 4)) (BitVec.ofNat 19 w) s) s
      | 2 => ran (execValueChangePreset (tenAt w 24) (BitVec.ofNat 12 w) s) s
      | _ => s)
  | _ => none

/-- CLE, MTR, FIO, FBE and PLK: their request registers. -/
def State.requestWrite (s : State) (a w : Nat) : Option State :=
  let ten := tenAt w 16
  let op := bitsOf w 28 4
  match a with
  | 0x40030008 =>
    let l := Fin.ofNat 128 w
    some (match op with
      | 1 => ran (execLoopAuto ten l s) s
      | 2 => ran (execLoopManual ten l (bitsOf w 27 1 == 1) s) s
      | 3 => ran (execLoopManout ten l s) s
      | 4 => ran (execLoopReset ten l s) s
      | 5 => ran (execLoopCoef ten l (Fin.ofNat 4 (bitsOf w 24 2)) s) s
      | _ => s)
  | 0x40040008 => some (if op = 1 then ran (execMeterPreset ten (Fin.ofNat 64 w) (Fin.ofNat 16 (bitsOf w 24 4)) s) s else s)
  | 0x40050008 => some (if op = 1 then ran (execFioReset ten (Fin.ofNat 256 w) s) s else s)
  | 0x40060008 =>
    some (match op with
      | 1 => ran (execFrameCancel ten (Fin.ofNat 4096 w) s) s
      | 2 => ran (execBusRecover ten (Fin.ofNat 4096 w) s) s
      | _ => s)
  | 0x40080008 =>
    some (match op with
      | 1 => ran (execPairRelease ten s) s
      | 2 => ran (execPairResync ten s) s
      | _ => s)
  | _ => none

/-- NET: limits of MAXF and ETYPE, the ring mode, key bindings (R288, R295, R312). A manager starts with ETH1 blocked. -/
def State.netWrite (s : State) (o w : Nat) : Option State :=
  match o with
  | 0x008 =>
    let m := bitsOf w 0 14
    let s := (s.wr NET_CFG_EN (bitsOf w 31 1)).wr NET_CFG_RXDEF (bitsOf w 16 4)
    some (if 1518 ≤ m ∧ m ≤ 9216 then s.wr NET_CFG_MAXF m else s)
  | 0x010 =>
    let s := s.wr NET_UPT_CFG_UDP_PORT (bitsOf w 16 16)
    some (if bitsOf w 0 16 < 0x600 then s else s.wr NET_UPT_CFG_ETYPE (bitsOf w 0 16))
  | 0x040 =>
    let was := s.ringMode
    let s := s.wr NET_RING_CFG_MODE (bitsOf w 30 2)
    some (if s.ringMode = was then s else s.ringState (if s.ringMode = 0 then 0 else 1))
  | _ =>
    if 0xA00 ≤ o ∧ o < 0xC00 then
      some (ran (execKeyBindingChange (Fin.ofNat 128 ((o - 0xA00) / 4)) (bitsOf w 31 1 == 1) (BitVec.ofNat 8 w) s) s)
    else none

/-- KSU_CMD. -/
def State.ksuWrite (s : State) (w : Nat) : State :=
  let ten := tenAt w 20
  let slot : Byte := BitVec.ofNat 8 w
  let aux : Byte := BitVec.ofNat 8 (w / 256)
  match bitsOf w 27 5 with
  | 1 => ran (execKsuGenerate ten slot s) s
  | 2 => ran (execKsuImport ten slot aux s) s
  | 3 => ran (execKsuDerive ten slot aux s) s
  | 4 => ran (execKsuExport ten slot aux s) s
  | 5 => ran (execKsuPubkey ten slot s) s
  | 6 => ran (execKsuInvalidate ten slot s) s
  | 7 => ran (execKsuReclaim ten slot s) s
  | 8 => ran (execKsuAttest ten slot s) s
  | 9 => ran (execKsuCert ten slot s) s
  | 10 => ran (execKsuSign ten slot s) s
  | 11 => ran (execKsuVerify ten slot s) s
  | 12 => ran (execKsuEncrypt ten slot s) s
  | 13 => ran (execKsuDecrypt ten slot s) s
  | 14 => ran (execKsuMac ten slot s) s
  | 15 => ran (execKsuMacv ten slot s) s
  | 16 => ran (execKsuLcset ten false false s) s
  | 17 => ran (execKsuNonce ten s) s
  | _ => s

/-- GRN_CMD; `bad` the position of a page that NAND cannot read. -/
def State.grnWrite (s : State) (w : Nat) (bad : Option Nat) : State :=
  let ten := tenAt w 20
  match sourceOf (bitsOf w 26 2), bitsOf w 28 4 with
  | _, 4 => ran (execGrnFlush ten s) s
  | some src, 1 => ran (execGrnRead src ten (BitVec.ofNat 7 w) bad s) s
  | some src, 2 => ran (execGrnFreeze src ten s) s
  | some src, 3 => ran (execGrnThaw src ten s) s
  | _, _ => s

/-- Well: commands and backup memory. -/
def State.wellWrite (s : State) (o w : Nat) : Option State :=
  if o = 0x00C then
    some (match bitsOf w 28 4 with
      | 1 => ran (execWellSet (tenAt w 16) s) s
      | 2 => ran (execWellArm (tenAt w 16) (Fin.ofNat 4 w) s) s
      | 3 => ran (execWellDisarm (tenAt w 16) (Fin.ofNat 4 w) s) s
      | _ => s)
  else if 0x0C0 ≤ o ∧ o < 0x100 then some (ran (execBackupMemoryWrite 0 (Fin.ofNat 16 ((o - 0x0C0) / 4)) (BitVec.ofNat 32 w) s) s)
  else none

/-- PWR_CMD. -/
def State.pwrWrite (s : State) (w : Nat) : State :=
  match bitsOf w 28 4 with
  | 1 => ran (execSetlvl (tenAt w 16) (Fin.ofNat 4 (bitsOf w 26 2)) s) s
  | 2 => ran (execSleepRequest (tenAt w 16) (Fin.ofNat 4 (bitsOf w 26 2)) s) s
  | _ => s

/-- UPD_CMD. -/
def State.updWriteCmd (s : State) (w : Nat) : State :=
  let ten := tenAt w 20
  match sourceOf (bitsOf w 26 2) with
  | none => s
  | some src =>
    match bitsOf w 28 4 with
    | 1 => ran (execUpdateOpen src ten s) s
    | 2 => ran (execUpdateWrite src ten (BitVec.ofNat 15 w) s) s
    | 3 => ran (execUpdateFinish src ten s) s
    | 4 => ran (execUpdateInstall src ten s) s
    | 5 => ran (execUpdateConfirm src ten s) s
    | 6 => ran (execUpdateFallback src ten s) s
    | 7 => ran (execUpdateAbort src ten s) s
    | 8 => ran (execUpdateStatus src ten s) s
    | _ => s

/-! ## Mill's registers -/

/-- The states of MILL_CHn_STAT. -/
def miIDLE : Nat := 0
def miPENDING : Nat := 1
def miRUNNING : Nat := 2
def miHALTED : Nat := 3

/-- A channel is idle: it neither waits nor runs (R451). -/
def State.millIdle (s : State) (n : Nat) : Bool :=
  s.rd (MILL_CH_STAT_STATE n) == miIDLE || s.rd (MILL_CH_STAT_STATE n) == miHALTED

/-- A write of MILL_CHn_START: an idle, enabled channel becomes pending (R451). -/
def State.millStart (s : State) (n desc : Nat) : State :=
  if s.millIdle n && s.on (MILL_CH_CFG_EN n) then
    let s := ((s.wr (MILL_CH_STAT_STATE n) miPENDING).wr (MILL_CH_CUR_ADDR n) desc).wr (MILL_CH_BYTES_BYTES n) 0
    s.raiseBit MILL_STAT_PEND n
  else s

/-- Writes in the Mill window. -/
def State.millWrite (s : State) (o w : Nat) : Option State :=
  if 0x100 ≤ o ∧ o < 0x300 ∧ (o - 0x100) % 32 < 8 then
    let n := (o - 0x100) / 32
    if o % 32 = 0 then
      let s := s.wr (MILL_CH_CFG_EN n) (bitsOf w 31 1)
      some (if s.millIdle n then s.wr (MILL_CH_CFG_TEN n) (bitsOf w 0 6) else s)
    else some (s.millStart n (w / 32 * 32))
  else none

/-! ## Registers (R9, R11, R12, R21) -/

/-- What a write of a whole register does beyond setting its fields: none where the register's fields alone say it.
Log entry 21 (DESIGN CHOICE, DEDUCED). -/
def State.specialWrite (s : State) (a w : Nat) : Option State :=
  let o := a % 0x10000
  match a / 0x10000 with
  | 0x4000 => s.ltuWrite o w
  | 0x4001 => s.pdirWrite o w
  | 0x4002 => s.cxeWrite o w
  | 0x4003 | 0x4004 | 0x4005 | 0x4006 | 0x4008 => s.requestWrite a w
  | 0x4007 => s.netWrite o w
  | 0x4009 => if o = 0x008 then some (s.ksuWrite w) else none
  | 0x400A => if o = 0x018 then some (s.grnWrite w none) else none
  | 0x400B => s.wellWrite o w
  | 0x400C => if o = 0x008 then some (s.pwrWrite w) else none
  | 0x400D => if o = 0x008 then some (if bitsOf w 31 1 = 1 then ran (execHltWdogKick s) s else s) else none
  | 0x400E => if o = 0x00C then some (s.doorbell (bitsOf w 0 17)) else none
  | 0x400F => s.millWrite o w
  | 0x4010 => if o = 0x008 then some (s.updWriteCmd w) else none
  | _ => none

/-- A write of a whole register: commands and limits first, otherwise each field by its access code. -/
def State.regWrite (s : State) (a w : Nat) : State := (s.specialWrite a w).getD (s.writeReg a w)

/-- The W1C and RC fields of a register set by hardware: `hw` has a 1 for each bit, or the counts, that arrive with the access. -/
def hwFields (acc : Acc) (a hw : Nat) (s : State) : State :=
  (regFields a).foldl (fun s f =>
    let fl : Fld := ⟨a, f.lo, f.width⟩
    if f.acc = acc then s.wr fl (s.rd fl ||| bitsOf hw f.lo f.width) else s) s

/-- RC fields cleared by a read (R12). -/
def State.clearRc (s : State) (a : Nat) : State :=
  (regFields a).foldl (fun s f => if f.acc = .rc then s.wr ⟨a, f.lo, f.width⟩ 0 else s) s

/-- Words that are not kept in the register file. Log entry 12 (DESIGN CHOICE, DEDUCED). -/
def State.derivedWord (s : State) (a : Nat) : Option Nat :=
  if 0x40001000 ≤ a ∧ a < 0x40005000 then
    let e := (a - 0x40001000) % 0x2000
    some ((sget SchedEntry.zero (s.ltu.bank ((a - 0x40001000) / 0x2000)) (e / 16)).word (e % 16 / 4))
  else if 0x40090400 ≤ a ∧ a < 0x40090C00 then
    let n := (a - 0x40090400) / 8
    some (if a % 8 = 0 then (match s.key n with | some k => k.attr | none => 0) else s.slotStat n)
  else if 0x40070A00 ≤ a ∧ a < 0x40070C00 then
    let n := (a - 0x40070A00) / 4
    let shown := match s.netKey n with | .ok k => 2 ^ 30 + k.tenant * 2 ^ 8 | .error _ => 0
    some (s.rd (NET_KEY_EN n) * 2 ^ 31 + shown + s.rd (NET_KEY_SLOT n))
  else if a = 0x40080014 then some (s.rd PLK_KEY_EN * 2 ^ 31 + bit s.linkKeyOk * 2 ^ 30 + s.rd PLK_KEY_SLOT)
  else none

/-- Registers whose read latches or is answered by a block (R67, R232, R286, R347, R415). -/
def State.latchingRead (s : State) (a : Nat) : Option (State × Nat) :=
  let m := a - 0x40041000
  match a with
  | 0x40000010 => some (readBy (execLtuNowLoRead s) s)
  | 0x40000048 => some (readBy (execLtuSofsLoRead s) s)
  | 0x400B0028 => some (readBy (execWellSubsecRead s) s)
  | _ =>
    if a = PLK_OFS_LO_OFS_LO.addr then some (readBy (execPlkOfsLoRead s) s)
    else if a = PLK_SWO_LO_T_LO.addr then some (readBy (execPlkSwoLoRead s) s)
    else if 0x40061000 ≤ a ∧ a < 0x40061700 ∧ a % 64 = 0x20 then
      some (readBy (execFbeSofLoRead (Fin.ofNat 28 ((a - 0x40061000) / 64)) s) s)
    else if 0x40041000 ≤ a ∧ a < 0x40044000 ∧ m % 256 = 0x0C then
      some (readBy (execMtrLoRead (Fin.ofNat 48 (m / 256)) none s) s)
    else if 0x40041000 ≤ a ∧ a < 0x40044000 ∧ 0x20 ≤ m % 256 ∧ m % 256 < 0x70 ∧ m % 8 = 0 then
      some (readBy (execMtrLoRead (Fin.ofNat 48 (m / 256)) (some (Fin.ofNat 10 ((m % 256 - 0x20) / 8))) s) s)
    else none

/-- A read of a whole register (R11, R12, R21). -/
def State.regRead (s : State) (a : Nat) : State × Nat :=
  match s.latchingRead a, s.derivedWord a with
  | some r, _ => r
  | none, some w => (s, w)
  | none, none => (s.clearRc a, fieldsWord s a (regFields a))

/-! ## Regions and masters (R22, R26, R29) -/

/-- The regions of Table 1-3. -/
inductive Region where
  | rom | supRam | code | data | windows | points | mram | dram
deriving DecidableEq, Repr

/-- The region of an address. -/
def regionOf (a : Nat) : Option Region :=
  if a ≤ 0x0003FFFF then some .rom
  else if 0x10000000 ≤ a ∧ a ≤ 0x1003FFFF then some .supRam
  else if 0x20000000 ≤ a ∧ a ≤ 0x201FFFFF then some .code
  else if 0x21000000 ≤ a ∧ a ≤ 0x211FFFFF then some .data
  else if 0x40000000 ≤ a ∧ a ≤ 0x4010FFFF then some .windows
  else if 0x50000000 ≤ a ∧ a ≤ 0x5003FFFF then some .points
  else if 0x70000000 ≤ a ∧ a ≤ 0x70FFFFFF then some .mram
  else if 0x80000000 ≤ a ∧ a ≤ 0x8FFFFFFF then some .dram
  else none

/-- The partitions of Table 1-4, in its order. -/
def partition (a : Nat) : Nat :=
  if a < 0x70200000 then 0
  else if a < 0x70400000 then 1
  else if a < 0x70500000 then 2
  else if a < 0x70600000 then 3
  else if a < 0x70A00000 then 4
  else 5

/-- The region that holds a whole range. -/
def regionOfRange (a n : Nat) : Option Region :=
  if n = 0 then none
  else if regionOf a = regionOf (a + n - 1) ∧ (regionOf a ≠ some .mram ∨ partition a = partition (a + n - 1)) then regionOf a
  else none

/-- The tenant that a Mill channel carries. -/
def State.millTen (s : State) (ch : Nat) : Nat := s.rd (MILL_CH_CFG_TEN ch)

/-- A range lies in DRAM allocated to a tenant: a bulk window of its session (R29, R449). Log entry 21 (DESIGN CHOICE, DEDUCED). -/
def State.allocated (s : State) (ten a n : Nat) : Bool :=
  [s.hpt.host, s.hpt.service].any fun p =>
    p.session == some ten && (match p.bulk with | some (b, sz) => decide (b ≤ a) && decide (a + n ≤ b + sz) | none => false)

/-- A master may make an access in a partition (Table 1-4). Log entry 21 (DESIGN CHOICE, DEDUCED). -/
def partitionAdmits (m : Master) (acc : Access) (ten : Nat) : Nat → Bool
  | 0 | 1 => m == .cxe || (m == .sup && acc == .read)
  | 2 => m == .ksu
  | 3 => (m == .grn && acc == .write) || (m == .sup && acc == .read)
  | 4 =>
    match m with
    | .sup => true
    | .mill _ => ten == 0
    | .pdir | .mtr => acc == .read
    | _ => false
  | _ => false

/-- The tenant with which a master accesses; `tag` is that of an engine's requester (R23). -/
def State.masterTen (s : State) (m : Master) (tag : Nat) : Nat :=
  match m with
  | .sup => 0
  | .mill ch => s.millTen ch.val
  | _ => tag

/-- A master may make an access to a range (Tables 1-3 and 1-4, R29). Log entry 21 (DESIGN CHOICE, DEDUCED). -/
def State.admitsAccess (s : State) (m : Master) (acc : Access) (a n : Nat) : Bool :=
  let mill := match m with | .mill _ => true | _ => false
  let ten := s.masterTen m 0
  let data := acc != .fetch
  match regionOfRange a n with
  | none => false
  | some .rom => m == .sup && acc != .write
  | some .supRam => (m == .sup || mill) && data
  | some .code => ((m == .sup || mill) && data) || (m == .cxe && acc == .fetch)
  | some .data => (m == .cxe && data) || ((m == .sup || mill) && acc == .read)
  | some .windows => (m == .sup || mill) && data
  | some .points => data
  | some .mram => data && partitionAdmits m acc ten (partition a)
  | some .dram =>
    data && (match m with
      | .sup | .net | .plk | .hpt => true
      | .mill _ => ten == 0 || s.allocated ten a n
      | _ => false)

/-- The code SRAM bank that an address lies in runs an image (Table 1-3). -/
def State.codeRuns (s : State) (a : Nat) : Bool :=
  s.on CXE_STAT_LOADED && s.rd CXE_STAT_CODE_BANK == (a - 0x20000000) / 0x100000

/-- The condition of the moment: no write into the bank that runs (Table 1-3, R453). -/
def State.admitsNow (s : State) (acc : Access) (a n : Nat) : Bool :=
  !(regionOf a == some .code && acc == .write && (s.codeRuns a || s.codeRuns (a + n - 1)))

/-! ## Accesses -/

/-- The PDIR port of a master (Table 3-6). Log entry 21 (DESIGN CHOICE, DEDUCED). -/
def masterPort (m : Master) (acc : Access) : Nat :=
  match m with
  | .cxe => if acc = .write then 0 else 6
  | .mtr => 3
  | .net => 7
  | .hpt => 8
  | .mill _ => 9
  | .plk => 1
  | _ => 10

/-- The answer of `n` bytes, as words. -/
def bytesWords : List Byte → Nat → List Word
  | _, 0 => []
  | [], _ => []
  | bs, k + 1 => BitVec.ofNat 32 (leNat (bs.take 4)) :: bytesWords (bs.drop 4) k
def State.answerBytes (s : State) (bs : List Byte) : State :=
  { s with answer := ⟨0, 0, bytesWords bs bs.length, false⟩ }

/-- Bytes stored into the data image: its rows are preserved for a running snapshot and count as changed (R153 to R155). -/
def State.storeData (s : State) (off : Nat) (bs : List Byte) : State :=
  let rows := (List.range (bs.length / rowSize + 2)).map fun k => off / rowSize + k
  let hit := rows.filter fun r => decide (r * rowSize < off + bs.length)
  let s := hit.foldl (fun s r => (s.preserveRow r).onCxe fun c => { c with dirty0 := c.dirty0.add r, dirty1 := c.dirty1.add r }) s
  s.setBytes (dataBase + off) bs

/-- Bytes written to a region that is not a register window or the point table. -/
def State.memWrite (s : State) (a : Nat) (bs : List Byte) : State :=
  if regionOf a = some .data then s.storeData (a - dataBase) bs else s.setBytes a bs

/-- Bytes read from such a region; what Hearth and Granary keep in MRAM has no layout of the spec, so reading it gives open
values. Log entry 21 (DESIGN CHOICE, DEDUCED). -/
def State.memRead (s : State) (a n : Nat) : State × List Byte :=
  if regionOf a = some .mram ∧ (partition a = 2 ∨ partition a = 3) then (s.tookOpens n, openBytes s n) else (s, s.bytes a n)

/-- A part of a register word, as an access of its size reads it: another size or alignment reads 0 (R9).
Log entry 21 (DESIGN CHOICE, DEDUCED). -/
def State.windowAccess (s : State) (acc : Access) (a n w : Nat) : State × Nat :=
  if n ≠ 4 ∨ a % 4 ≠ 0 then (s, 0)
  else if acc = .write then (s.regWrite a w, 0)
  else s.regRead a

/-- The record of an uncorrectable error met by an access: CX_MEM_FAULT in CXE's memories; elsewhere the spec names no code.
Log entry 21 (DESIGN CHOICE, DEDUCED). -/
def State.memFault (s : State) (a ten : Nat) : State :=
  let t := match regionOf a with
    | some .code | some .data => (s.raise CXE_EVT_MEM_FAULT).log srcCXE 0x054A ten []
    | _ => s.tookOpen.log srcSUP (s.openValue % 65536) ten []
  { t.uncorrectable with answer := ⟨0, 0, [], true⟩ }

/-- A memory has an error-correcting code (R25). -/
def hasEcc (a : Nat) : Bool :=
  match regionOf a with
  | some .rom | some .windows | none => false
  | _ => true

/-- A read or fetch of `n` bytes that the map admits. -/
def State.readAt (s : State) (m : Master) (tag : Nat) (acc : Access) (a n : Nat) : State × List Byte :=
  match regionOf a with
  | some .windows =>
    let r := s.windowAccess acc a n 0
    (r.1, leBytes n r.2)
  | some .points =>
    let read := s.windowRead (masterPort m acc) (s.masterTen m tag) ((a - 0x50000000) / 32)
    let word := fun k => leBytes 4 ((read k).answer.words.headD 0).toNat
    (read (a % 32 / 4), slice (word (a % 32 / 4) ++ (if a % 32 < 28 then word (a % 32 / 4 + 1) else [])) (a % 4) n)
  | _ => s.memRead a n

/-- A write of `n` bytes that the map admits. -/
def State.writeAt (s : State) (m : Master) (tag : Nat) (a : Nat) (bs : List Byte) : State :=
  match regionOf a with
  | some .windows => (s.windowAccess .write a bs.length (leNat bs)).1
  | some .points =>
    s.windowWrite (masterPort m .write) (s.masterTen m tag) ((a - 0x50000000) / 32) (a % 32 / 4)
      (if a % 4 = 0 then bs.length else 0) (BitVec.ofNat 32 (leNat bs))
  | _ => s.memWrite a bs

/-- An access of `n` bytes by a master (R22 to R26): refused with a bus error and counted, failed by an uncorrectable error, or
served. -/
def State.fabric (s : State) (m : Master) (tag : Nat) (acc : Access) (a n v : Nat) (ecc : Ecc) : State :=
  if !s.admitsAccess m acc a n || !s.admitsNow acc a n then s.busError
  else if ecc = .uncorrectable && hasEcc a then
    if regionOf a = some .points then { s.pointEcc ((a - 0x50000000) / 32) with answer := ⟨0, 0, [], true⟩ }
    else s.memFault a (s.masterTen m tag)
  else
    let s := if ecc = .corrected && hasEcc a then s.bump HLT_ERR_A_ECC else s
    if acc = .write then { s.writeAt m tag a (leBytes n v) with answer := ⟨0, 0, [], false⟩ }
    else
      let r := s.readAt m tag acc a n
      r.1.answerBytes r.2

end Sys2Proof.Machine
end

