-- ==== Sys2Proof/Machine/Access.lean ====
section
/-! DEFINITION. The meanings of register accesses and of accesses to the internal address space (spec/00, R9 to R12;
spec/01, R21 to R29). -/

namespace Sys2Proof.Machine

/-- REGISTER_WRITE: a write of `size` bytes; another width or alignment than the register's has no effect (R9, R11, R21). A
register whose write is a row of its own has that row's effect. -/
def execRegisterWrite (addr : Word) (size : Nat) (value : Word) (s : State) : Host.Outcome State Fault Refusal :=
  if size ≠ 4 ∨ addr.toNat % 4 ≠ 0 ∨ !inWindows addr.toNat then .next s else .next (s.regWrite addr.toNat value.toNat)

/-- W1C_REGISTER_WRITE: bits that hardware sets in the same SYS cycle read 1 after the write (R12). -/
def execW1cRegisterWrite (addr value hwSet : Word) (s : State) : Host.Outcome State Fault Refusal :=
  if addr.toNat % 4 ≠ 0 ∨ !inWindows addr.toNat then .next s
  else .next (hwFields .w1c addr.toNat hwSet.toNat (s.regWrite addr.toNat value.toNat))

/-- RC_REGISTER_READ: the value is returned and the field cleared; what arrives in the same cycle stays (R12). -/
def execRcRegisterRead (addr hwSet : Word) (s : State) : Host.Outcome State Fault Refusal :=
  if addr.toNat % 4 ≠ 0 ∨ !inWindows addr.toNat then .next (s.answerWord 0)
  else
    let r := s.regRead addr.toNat
    .next ((hwFields .rc addr.toNat hwSet.toNat r.1).answerWord r.2)

/-- FABRIC_ACCESS: `tag` is the tenant of an engine's requester; `ecc` what the code found in the words accessed (R22 to R26). -/
def execFabricAccess (master : Master) (tag : Tenant) (access : Access) (addr : Word) (size : Nat) (value : Word) (ecc : Ecc)
    (s : State) : Host.Outcome State Fault Refusal :=
  .next (s.fabric master tag.val access addr.toNat size value.toNat ecc)

end Sys2Proof.Machine
end

