-- ==== Sys2Proof/Machine/HptOps.lean ====
section
/-! DEFINITION. The command service of SUP and the host port: commands of Table 16-5, block requests of Table 16-6, UPT
COMMAND transactions, the service port and SPI frames (R317, R439 to R450). -/

namespace Sys2Proof.Machine

/-! ## The service of a command (R442, R446) -/

/-- A command's entry of Table 16-5: its code, whether it needs no session, whether tenant 0 alone may ask, and its sources. -/
structure CmdRow where
  code : Nat
  open_ : Bool
  operator : Bool
  net : Bool
deriving DecidableEq, Repr

/-- The commands that a mailbox carries out. -/
def cmdRows : List CmdRow := [
  ⟨0x0002, true, false, true⟩, ⟨0x0003, true, false, false⟩, ⟨0x0010, false, false, true⟩, ⟨0x0011, false, false, true⟩,
  ⟨0x0020, false, true, true⟩, ⟨0x0030, false, true, true⟩, ⟨0x0031, false, false, true⟩, ⟨0x0032, false, false, true⟩,
  ⟨0x0040, false, false, false⟩, ⟨0x0041, false, false, false⟩, ⟨0x0101, false, false, true⟩, ⟨0x0102, false, false, true⟩,
  ⟨0x0103, false, false, true⟩, ⟨0x0104, false, false, true⟩, ⟨0x0105, false, false, true⟩, ⟨0x0106, false, false, true⟩,
  ⟨0x0108, false, false, true⟩, ⟨0x0109, false, false, true⟩, ⟨0x010A, false, false, true⟩, ⟨0x010B, false, false, true⟩,
  ⟨0x010C, false, false, true⟩, ⟨0x0110, false, false, true⟩, ⟨0x0112, false, false, true⟩, ⟨0x011B, false, false, true⟩]

/-- The entry of a code that a mailbox's source may use. -/
def cmdRow (b : Box) (code : Nat) : Option CmdRow :=
  (cmdRows.find? fun r => r.code == code).bind fun r => match b with
    | .net _ _ => if r.net then some r else none
    | _ => some r

/-- The refusal of a command before it is carried out: source, session, length of the arguments, tenant (R442, R446). -/
def State.judgeCmd (s : State) (b : Box) (c : HostCmd) (lenOk : Bool) : Option Nat :=
  match cmdRow b c.code with
  | none => some hpBAD_CMD
  | some r =>
    if !r.open_ && (s.boxTen b).isNone then some hpNO_SESSION
    else if !lenOk then some hpBAD_LEN
    else if r.operator && s.boxTen b != some 0 then some hpNOT_OPERATOR
    else none

/-- What a command answers: its result code, BUSY reason and data; nothing while its result is awaited. -/
abbrev CmdAnswer := Option (Nat × Nat × List Byte)

/-- The mailbox's pending command carried out, where it has this code and has not begun: `f` takes the tenant and the arguments.
Log entry 22 (DESIGN CHOICE, DEDUCED). -/
def State.runCmd (s : State) (b : Box) (code : Nat) (lenOk : List Byte → Bool)
    (f : State → Nat → List Byte → State × CmdAnswer) : State :=
  match (s.box b).cmd with
  | none => s
  | some c =>
    if (s.box b).begun || c.code != code || !s.serving then s
    else match s.judgeCmd b c (lenOk c.args) with
      | some e => s.finishCmd b c e 0 []
      | none =>
        let r := f (s.setBox b fun m => { m with begun := true }) ((s.boxTen b).getD 0) c.args
        match r.2 with
        | some (code, reason, data) => r.1.finishCmd b c code reason data
        | none => r.1

/-- Arguments of a fixed length. -/
def argsLen (n : Nat) (bs : List Byte) : Bool := bs.length == n

/-- A command done with some data. -/
def done (s : State) (data : List Byte) : State × CmdAnswer := (s, some (hpOK, 0, data))
def refused_ (s : State) (code : Nat) : State × CmdAnswer := (s, some (code, 0, []))

/-! ## STATUS, SESSION, points and registers -/

/-- The registers that STATUS returns. -/
def statusRegs : List Nat := [LTU_STAT_STATE.addr, PLK_STAT_ROLE.addr, CXE_STAT_LOADED.addr, UPD_STAT_STATE.addr, PWR_STAT_LVL.addr,
  HLT_STAT_MFAULT.addr]

/-- STATUS; the network has no nonce of its own, so what stands there is open. -/
def State.cmdStatus (s : State) (b : Box) : State × CmdAnswer :=
  let words := statusRegs.flatMap fun a => leBytes 4 (fieldsWord s a (regFields a))
  match b with
  | .host => done s (words ++ fit 16 s.hpt.host.nonce)
  | .service => done s (words ++ fit 16 s.hpt.service.nonce)
  | .net _ _ => done (s.tookOpens 16) (words ++ openBytes s 16)

/-- SESSION of the host or the service port (R442). -/
def State.cmdSession (s : State) (host : Bool) (args : List Byte) : State × CmdAnswer :=
  let k := leAt args 0 1
  let src : Byte := if host then 1 else 3
  if args.length ≠ 20 then refused_ s hpBAD_LEN
  else if k = 0xFF then done (s.closeSession host) []
  else
    let fail := fun (s : State) => refused_ (s.log srcHPT 0x1042 0 [.n1 src.toNat, .n1 k]) hpAUTH_FAIL
    match s.netKey k with
    | .error _ => fail (s.countKeyRefusal k)
    | .ok key =>
      if fit 16 (Config.cmac key.material (fit 16 (s.portState host).nonce ++ [src])) = slice args 4 16 then
        done (s.openSession host key.tenant) []
      else fail s

/-- PREAD and PWRITE: the records as in UPT READ and WRITE (R315, R316), through the source's port. -/
def State.cmdPread (s : State) (port ten : Nat) (args : List Byte) : State × CmdAnswer :=
  match records 2 2 args with
  | none => done s badBody
  | some rs =>
    let r := rs.foldl (State.readOne port ten) (s, respHead 0x0A00 0 rs.length)
    done r.1 r.2
def State.cmdPwrite (s : State) (port ten : Nat) (args : List Byte) : State × CmdAnswer :=
  match records 4 8 args with
  | none => done s badBody
  | some rs =>
    let r := rs.foldl (State.writeOne port ten) (s, respHead 0x0A00 0 rs.length)
    done r.1 r.2

/-- Words read one after the other by SUP (R9); a word that ends with a bus error has no value of the spec. -/
def State.readWords (s : State) (a : Nat) : Nat → State × List Byte
  | 0 => (s, [])
  | n + 1 =>
    let t := s.fabric .sup 0 .read (a % 2 ^ 32) 4 0 .clean
    let w := if t.answer.busError then s.openValue % 2 ^ 32 else (t.answer.words.headD 0).toNat
    let t := if t.answer.busError then t.tookOpen else t
    let r := t.readWords (a + 4) n
    (r.1, leBytes 4 w ++ r.2)

/-- REGRD: 1 to 256 words; a misaligned address reads 0. -/
def State.cmdRegrd (s : State) (args : List Byte) : State × CmdAnswer :=
  let a := leAt args 0 4
  let n := leAt args 4 4
  if n = 0 ∨ 256 < n then refused_ s hpBAD_LEN
  else if a % 4 ≠ 0 then done s (List.replicate (4 * n) 0)
  else
    let r := s.readWords a n
    done r.1 r.2

/-! ## IMAGE (R446, R343) -/

/-- A source's staging area, and some bytes put into it. -/
def State.stagingOf (s : State) (b : Box) : List Host.Cell :=
  match b with
  | .host => s.hpt.host.staging
  | .service => s.hpt.service.staging
  | .net _ _ => s.hpt.staging
def State.stage (s : State) (b : Box) (off : Nat) (bs : List Byte) : State :=
  let cells := (bs.zipIdx.map fun x => (off + x.2, x.1)).filter fun c => c.2 != 0
  let put := fun (m : List Host.Cell) => putCells m off bs.length cells
  match b with
  | .host => s.onPort true fun p => { p with staging := put p.staging }
  | .service => s.onPort false fun p => { p with staging := put p.staging }
  | .net _ _ => s.onHpt fun h => { h with staging := put h.staging }

/-- A range of a source's bulk window. -/
def State.bulkOf (s : State) (b : Box) : Option (Nat × Nat) :=
  match b with
  | .host => s.hpt.host.bulk
  | .service => s.hpt.service.bulk
  | .net _ _ => none

/-- The bytes that an IMAGE command brings; none where the arguments or the bulk range do not hold them. -/
def State.imageBytes (s : State) (b : Box) (args : List Byte) : Option (List Byte) :=
  if leAt args 4 4 / 2 % 2 = 0 then some (args.drop 8)
  else if args.length ≠ 16 then none
  else match s.bulkOf b with
    | none => none
    | some (base, size) =>
      let o := leAt args 8 4
      let n := leAt args 12 4
      if o + n ≤ size then some (s.bytes (base + o) n) else none

/-- The 16 bytes of a loader result record (Table 4-13). -/
def LoadFault.encode (f : LoadFault) : List Byte :=
  leBytes 2 f.code ++ leBytes 1 f.sect ++ leBytes 1 f.task ++ leBytes 4 f.offset ++ leBytes 4 f.a ++ leBytes 4 f.b

/-- An image accepted, and one refused with a code. -/
def loadOk : LoadFault := ⟨0, 255, 255, 0, 0, 0⟩
def loadRefused (code : Nat) : LoadFault := ⟨code, 255, 255, 0, 0, 0⟩

/-- The twin's answer to an image is awaited (R343). -/
def State.awaitsTwin (s : State) : Bool := s.plk.imgAwait && s.on PLK_STAT_TWIN_SYNCED

/-- IMAGE: bytes staged, and with SUBMIT handed to the loader; in a pair also to a SYNCED twin, whose answer is awaited.
Log entry 22 (DESIGN CHOICE, DEDUCED). -/
def State.cmdImage (s : State) (b : Box) (args : List Byte) : State × CmdAnswer :=
  let off := leAt args 0 4
  match s.imageBytes b args with
  | none => refused_ s hpBAD_LEN
  | some bs =>
    if 0x400000 < off + bs.length then refused_ s hpBAD_LEN
    else
      let s := s.stage b off bs
      if leAt args 4 4 % 2 = 0 then done s []
      else match s.supGate with
        | some r => (s, some (cBUSY, r, []))
        | none =>
          if s.awaitsTwin then done s (loadRefused 0x0503).encode
          else
            let area := s.stagingOf b
            let im := (List.range (off + bs.length)).map fun k => sget 0 area k
            let r := s.submit im
            if r.2.code = 0 ∧ r.1.paired ∧ r.1.on PLK_STAT_TWIN_SYNCED then
              ((r.1.sendImage im).onPlk fun p => { p with imgAwait := true }, none)
            else done r.1 r.2.encode

/-! ## Meter reports (R230) -/

/-- Reports in order, as many whole ones as `room` bytes take. -/
def takeBytes : Nat → List StoredReport → List Byte
  | _, [] => []
  | room, r :: t => if r.bytes.length ≤ room then r.bytes ++ takeBytes (room - r.bytes.length) t else []

/-- A report that a tenant's READ or ACK concerns. -/
def StoredReport.waits (r : StoredReport) (ten : Nat) : Bool := r.tenant == ten && !r.acked

/-- REPORT_READ, by the tenant named or by tenant 0. Log entry 22 (DESIGN CHOICE, DEDUCED). -/
def State.cmdReportRead (s : State) (ten : Nat) (args : List Byte) : State × CmdAnswer :=
  let t := leAt args 0 1
  if ten ≠ 0 ∧ ten ≠ t then refused_ s hpNOT_OPERATOR
  else
    done s (takeBytes (min 65520 (leAt args 8 4)) (s.mtr.store.filter fun r => r.waits t && decide (leAt args 4 4 ≤ r.seq)))

/-- REPORT_ACK: every report up to UPTO. -/
def State.cmdReportAck (s : State) (ten : Nat) (args : List Byte) : State × CmdAnswer :=
  let t := leAt args 0 1
  let hit := fun (r : StoredReport) => r.waits t && decide (r.seq ≤ leAt args 4 4)
  if ten ≠ 0 ∧ ten ≠ t then refused_ s hpNOT_OPERATOR
  else
    let n := (s.mtr.store.filter hit).length
    done (s.onMtr fun m => { m with store := m.store.map fun r => if hit r then { r with acked := true } else r }) (leBytes 4 n)

/-! ## Bulk windows (R449) -/

/-- BULK_OPEN: a window at a base that the spec leaves to SUP, in DRAM and apart from the other source's.
Log entry 22 (DESIGN CHOICE, DEDUCED). -/
def State.cmdBulkOpen (s : State) (host : Bool) (args : List Byte) : State × CmdAnswer :=
  let n := leAt args 0 4
  if (s.portState host).bulk.isSome ∨ n = 0 ∨ n % 65536 ≠ 0 ∨ 0x1000000 < n then refused_ s hpBULK
  else
    let base := 0x80000000 + 0x2000000 * (s.openValue % 8) + (if host then 0 else 0x1000000)
    done (s.tookOpen.onPort host fun p => { p with bulk := some (base, n) }) (leBytes 4 base)

/-- BULK_CLOSE. Log entry 22 (DESIGN CHOICE, DEDUCED). -/
def State.cmdBulkClose (s : State) (host : Bool) : State × CmdAnswer := done (s.onPort host fun p => { p with bulk := none }) []

/-! ## Block requests (R447) -/

/-- A field of a word replaced. -/
def putBits (w lo n v : Nat) : Nat := w - bitsOf w lo n * 2 ^ lo + v % 2 ^ n * 2 ^ lo

/-- Argument word `k`. -/
def argWord (args : List Byte) (k : Nat) : Nat := leAt args (4 * k) 4

/-- Argument words written to registers, in order. -/
def State.writeArgs (s : State) (args : List Byte) (k : Nat) : List Nat → State
  | [] => s
  | a :: t => (s.writeReg a (argWord args k)).writeArgs args (k + 1) t

/-- Argument bytes from `k` on written to a buffer of `n` words. -/
def State.writeBuf (s : State) (bs : List Byte) (a : Nat) : Nat → State
  | 0 => s
  | n + 1 =>
    if bs.isEmpty then s else (s.writeReg a (leNat (padTo 4 (bs.take 4)))).writeBuf (bs.drop 4) (a + 4) n

/-- The word that a register shows. -/
def State.shownWord (s : State) (a : Nat) : Nat := fieldsWord s a (regFields a)

/-- Bytes of a buffer of words. -/
def State.readBuf (s : State) (a n : Nat) : List Byte :=
  ((List.range ((n + 3) / 4)).flatMap fun k => leBytes 4 (s.shownWord (a + 4 * k))).take n

/-- The result registers of a block request, the first one with DONE and CODE. -/
def resultRegs : Nat → List Nat
  | 0x0101 => [0x40010038]
  | 0x0112 => [CXE_VCHG_RES_DONE.addr]
  | 0x0103 => [CLE_CRES_DONE.addr]
  | 0x0104 => [MTR_CRES_DONE.addr]
  | 0x0105 => [FIO_CRES_DONE.addr]
  | 0x0106 => [FBE_CRES_DONE.addr]
  | 0x0108 => [PLK_CRES_DONE.addr]
  | 0x0109 => [KSU_CRES_DONE.addr]
  | 0x010A => [GRN_RRES_DONE.addr, GRN_RNEXT_NEXT.addr]
  | 0x010B | 0x011B => [WELL_CRES_DONE.addr]
  | 0x010C => [PWR_CRES_DONE.addr]
  | 0x0110 => [UPD_RES_DONE.addr, UPD_RES_DET_DETAIL.addr]
  | _ => []

/-- The block's result stands: DONE, and for a force or a release also its record and the twin's acknowledgement (R86, R338). -/
def State.blockDone (s : State) (code : Nat) (args : List Byte) : Bool :=
  let h := bitsOf (argWord args 0) 0 13
  let shown := match resultRegs code with | a :: _ => bitsOf (s.shownWord a) 31 1 == 1 | [] => true
  shown && (code != 0x0101 || (!(s.pdir.jobs.any fun j => j.handle == h) && !s.plk.forces.contains h))

/-- The answer to a block request: the code and reason of the block's result, its registers and output bytes.
Log entry 22 (DESIGN CHOICE, DEDUCED). -/
def State.blockAnswer (s : State) (code : Nat) : CmdAnswer :=
  let regs := resultRegs code
  let w := match regs with | a :: _ => s.shownWord a | [] => 0
  let c := w % 65536
  let reason :=
    if code = 0x0101 ∨ code = 0x0110 then bitsOf w 16 8
    else if c = cBUSY ∧ s.answer.code = cBUSY then s.answer.reason else 0
  let more :=
    if code = 0x0109 then s.readBuf (KSU_OBUF_W 0).addr (s.rd KSU_CRES_OUTLEN)
    else if code = 0x010A then s.readBuf 0x400A1000 (32 * s.rd GRN_RRES_NREC)
    else []
  some (c, reason, regs.flatMap (fun a => leBytes 4 (s.shownWord a)) ++ more)

/-- A block request carried out: answered at once where the block has answered, or where its operation is one that the block
ignores. -/
def State.blockRan (s : State) (code : Nat) (args : List Byte) (known : Bool) : State × CmdAnswer :=
  if !known || s.blockDone code args then (s, s.blockAnswer code) else (s, none)

/-- Another mailbox waits for a block request of the same code, whose result registers SUP therefore keeps free.
Log entry 22 (DESIGN CHOICE, DEDUCED). -/
def State.blockHeld (s : State) (b : Box) (code : Nat) : Bool :=
  let others := [Box.host, Box.service] ++ s.hpt.boxes.map fun x => Box.net (BitVec.ofNat 16 x.1.1) (BitVec.ofNat 8 x.1.2)
  others.any fun o => o != b && (let m := s.box o; m.begun && m.done.isNone && (m.cmd.map HostCmd.code) == some code)

/-- A block request: the operand words are written first, the command word last, with the session's tenant and the source in
place of what the arguments hold. Log entry 22 (DESIGN CHOICE, DEDUCED). -/
def State.runBlock (s : State) (b : Box) (code : Nat) (lenOk : List Byte → Bool)
    (f : State → Nat → List Byte → State × CmdAnswer) : State :=
  if s.blockHeld b code then s else s.runCmd b code lenOk f

/-- A request whose command register takes the tenant at bit `lo` and whose operation is one of `ops` in the top bits.
Log entry 22 (DESIGN CHOICE, DEDUCED). -/
def State.blockWrite (s : State) (code addr tenLo ten : Nat) (args : List Byte) (operands : List Nat) (known : Bool) :
    State × CmdAnswer :=
  let s := s.writeArgs args 1 operands
  (s.regWrite addr (putBits (argWord args 0) tenLo 6 ten)).blockRan code args known

/-- The operation in bits 31 to 28 of the command word lies between 1 and `n`. -/
def opUpTo (n : Nat) (args : List Byte) : Bool := let op := bitsOf (argWord args 0) 28 4; decide (1 ≤ op) && decide (op ≤ n)

/-- A force or release through the source's PDIR port. -/
def State.blockForce (s : State) (b : Box) (ten : Nat) (args : List Byte) : State × CmdAnswer :=
  let s := s.writeArgs args 1 [PDIR_FVAL_VAL.addr]
  let w := argWord args 0
  let h := bitsOf w 0 13
  match bitsOf w 30 2 with
  | 1 => (s.forceReq (boxPort b) ten h (BitVec.ofNat 32 (s.rd PDIR_FVAL_VAL)) none).blockRan 0x0101 args true
  | 2 => (s.releaseReq (boxPort b) ten h).blockRan 0x0101 args true
  | _ => s.blockRan 0x0101 args false

/-- RESTART; every other command is refused (Table 16-6). -/
def State.blockRestart (s : State) (ten : Nat) (args : List Byte) : State × CmdAnswer :=
  if bitsOf (argWord args 0) 28 4 ≠ 1 then refused_ s hpBAD_CMD
  else
    let t := ran (execCxeRestart (Fin.ofNat 64 ten) s) s
    (t, some (t.answer.code, t.answer.reason, leBytes 4 t.answer.code))

/-- A key request: attributes, lengths and input first. -/
def State.blockKsu (s : State) (ten : Nat) (args : List Byte) : State × CmdAnswer :=
  let s := s.writeArgs args 1 [KSU_CARG0_ARG.addr, KSU_CARG1_INLEN.addr]
  let s := s.writeBuf (args.drop 12) (KSU_IBUF_W 0).addr 512
  let w := argWord args 0
  let op := bitsOf w 27 5
  (s.ksuWrite (putBits w 20 6 ten)).blockRan 0x0109 args (decide (1 ≤ op) && decide (op ≤ 17))

/-- A recorder request. -/
def State.blockGrn (s : State) (b : Box) (ten : Nat) (args : List Byte) (bad : Option Nat) : State × CmdAnswer :=
  let s := s.writeArgs args 1 [GRN_RSEQ_S.addr]
  (s.grnWrite (putBits (putBits (argWord args 0) 20 6 ten) 26 2 (boxSource b).code) bad).blockRan 0x010A args (opUpTo 4 args)

/-- A backup word; an index beyond 15 names no register. Log entry 22 (DESIGN CHOICE, DEDUCED). -/
def State.blockBackup (s : State) (ten : Nat) (args : List Byte) : State × CmdAnswer :=
  let n := argWord args 0
  if 16 ≤ n then s.blockRan 0x011B args false
  else (s.backupWrite ten n (argWord args 1)).blockRan 0x011B args true

/-- An update command, with the block of a WRITE. -/
def State.blockUpd (s : State) (b : Box) (ten : Nat) (args : List Byte) : State × CmdAnswer :=
  let s := s.writeArgs args 1 [UPD_ARG_W.addr]
  let s := s.writeBuf (args.drop 8) 0x40101000 1024
  let w := putBits (putBits (argWord args 0) 20 6 ten) 26 2 (boxSource b).code
  (s.updWriteCmd w).blockRan 0x0110 args (opUpTo 8 args)

/-- The length of an update request's arguments: with a block for WRITE. -/
def updLen (args : List Byte) : Bool :=
  if bitsOf (argWord args 0) 28 4 = 2 then args.length == 4104 else args.length == 8

/-! ## Results (R445) -/

/-- The result of a command that has begun and whose block, or whose twin, has answered. -/
def State.lateResult (s : State) (c : HostCmd) : Option (List Byte) :=
  if c.code = 0x0030 then (if s.awaitsTwin then none else some (c.result hpOK 0 loadOk.encode))
  else if s.blockDone c.code c.args then (s.blockAnswer c.code).map fun r => c.result r.1 r.2.1 r.2.2
  else none

/-- A command's result becomes present; an unknown code, or one that its source may not use, has HP_BAD_CMD (R446).
Log entry 22 (DESIGN CHOICE, DEDUCED). -/
def State.resultPresent (s : State) (b : Box) : State :=
  let m := s.box b
  match m.cmd with
  | none => s
  | some c =>
    if !s.serving then s
    else match m.done with
      | some r => s.present b c r
      | none =>
        if m.begun then
          (match s.lateResult c with
          | some r => s.present b c r
          | none => s)
        else if (cmdRow b c.code).isNone then s.present b c (c.result hpBAD_CMD 0 [])
        else s

/-! ## UPT COMMAND transactions and the service port (R317, R448) -/

/-- A mailbox for a network requester: its own, a new one, or the least recently used one without a pending command. -/
def State.claimBox (s : State) (src key : Nat) : Option State :=
  let place := ((src, key), Mailbox.empty)
  if (s.netBox src key).isSome then some s
  else if s.hpt.boxes.length < 64 then some (s.onHpt fun h => { h with boxes := h.boxes ++ [place] })
  else
    let free := s.hpt.boxes.filter fun x => x.2.cmd.isNone
    match free.foldl (fun (o : Option ((Nat × Nat) × Mailbox)) x => match o with
        | none => some x
        | some y => if x.2.used < y.2.used then some x else some y) none with
    | none => none
    | some v => some (s.onHpt fun h => { h with boxes := (h.boxes.filter fun x => x.1 ≠ v.1) ++ [place] })

/-- A complete COMMAND of a network requester served by SUP. Log entry 22 (DESIGN CHOICE, DEDUCED). -/
def State.netCommand (s : State) (m : UptMsg) : State :=
  let c : HostCmd := ⟨m.body, some m⟩
  let busy := fun (s : State) (r : Nat) => (s.bump NET_UPT_CNT_B_BUSY).sendResponse m (c.result cBUSY r [])
  if !s.supReady then s.respondBusy m bSUP_NOT_READY
  else if !recordOk m.body then s.respond m (c.result hpBAD_LEN 0 [])
  else if c.code = 1 then s.onHpt fun h => { h with asks := h.asks ++ [c] }
  else match s.netBox m.hdr.src m.hdr.key with
    | some b => if b.cmd.isSome then busy s bCMD_PENDING else s.startCmd c.box c (some m.hdr.ten)
    | none => match s.claimBox m.hdr.src m.hdr.key with
      | none => busy s bMBOX_FULL
      | some t => t.startCmd c.box c (some m.hdr.ten)

/-- The segments of a transaction are all present: their bodies joined. -/
def Reassembly.whole (r : Reassembly) : Option (List Byte) :=
  match r.segs.find? fun x => x.2.2 with
  | none => none
  | some l =>
    let parts := (List.range (l.1 + 1)).map fun k => r.segs.find? fun x => x.1 == k
    if parts.all Option.isSome then some (parts.flatMap fun p => match p with | some x => x.2.1 | none => []) else none

/-- A COMMAND, or a segment of one (R317). Log entry 22 (DESIGN CHOICE, DEDUCED). -/
def State.uptCommand (s : State) (m : UptMsg) : State :=
  let same := fun (r : Reassembly) => r.hdr.src == m.hdr.src && r.hdr.key == m.hdr.key && r.hdr.tid == m.hdr.tid
  let seg := (m.hdr.seg, m.body, m.hdr.last)
  if m.hdr.seg = 0 ∧ m.hdr.last then s.netCommand m
  else match s.net.reasm.find? same with
    | none =>
      if s.net.reasm.length < 8 then s.onNet fun n => { n with reasm := n.reasm ++ [⟨m.hdr, m.path, [seg], s.ms⟩] }
      else if m.hdr.seg = 0 then s.respondBusy m 0x44
      else s
    | some r =>
      let r := if r.segs.any fun x => x.1 == m.hdr.seg then r else { r with segs := r.segs ++ [seg] }
      let drop := s.onNet fun n => { n with reasm := n.reasm.filter fun x => !same x }
      if 65536 < (r.segs.map fun x => x.2.1.length).sum then drop.bump NET_UPT_CNT_A_LENERR
      else match r.whole with
        | some body => drop.netCommand { m with hdr := { m.hdr with seg := 0, last := true }, body := body }
        | none => drop.onNet fun n => { n with reasm := n.reasm ++ [r] }

/-- A frame of the service port's byte stream (R448). -/
def State.serviceFrame (s : State) (f : List Byte) : State :=
  let n := leAt f 0 4
  let r := slice f 4 n
  let c : HostCmd := ⟨r, none⟩
  if !s.hpt.usb || !s.powered || s.on PWR_STAT_PF || decide (2 ≤ s.rd PWR_STAT_SLEEP) then s
  else if f.length ≠ n + 8 ∨ leAt f (n + 4) 4 ≠ crc32c r then s
  else if !s.supReady then s.usbSend (c.result cBUSY bSUP_NOT_READY [])
  else if !recordOk r then s.usbSend (c.result hpBAD_LEN 0 [])
  else if c.code = 1 then s.onHpt fun h => { h with asks := h.asks ++ [c] }
  else if s.hpt.service.box.cmd.isSome then s.usbSend (c.result cBUSY bCMD_PENDING [])
  else s.startCmd .service c none

/-! ## SPI frames (R439 to R441, R445, R449, R450) -/

/-- The bytes over which a frame's CRC runs: the address, most significant byte first, and the data. -/
def frameCrc (addr : Nat) (data : List Byte) : Nat := crc32c ((leBytes 3 addr).reverse ++ data)

/-- A frame as Table 16-1 lays it out; anything else is a framing error. Log entry 22 (DESIGN CHOICE, DEDUCED). -/
def frameOk (read : Bool) (op : Byte) (addr n : Nat) : Bool :=
  (if read then op == 0x01 || op == 0x81 else op == 0x02 || op == 0x82) && addr % 4 == 0 && decide (n ≤ 65536)

/-- A byte of the aperture lies in the open window; its address there. -/
def State.apertureAt (s : State) (addr : Nat) : Option Nat :=
  match s.hpt.host.bulk with
  | none => none
  | some (base, size) =>
    let x := s.rd HPT_BWPAGE_PAGE * 0x100000 + (addr - 0x100000)
    if x < size then some (base + x) else none

/-- The addresses of the aperture. -/
def inAperture (addr : Nat) : Bool := decide (0x100000 ≤ addr) && decide (addr < 0x200000)

/-- A frame's accesses beyond the bulk window, counted once for the frame (R449). Log entry 22 (DESIGN CHOICE, DEDUCED). -/
def State.countBulk (s : State) (addr n : Nat) : State :=
  if (List.range (n / 4)).any fun k => inAperture (addr + 4 * k) && (s.apertureAt (addr + 4 * k)).isNone then s.bump HPT_ERRCNT_BULK
  else s

/-- A word written by the host; read-only and unmapped addresses ignore it, and the command buffer while a command is pending. -/
def State.hostWrite (s : State) (addr w : Nat) : State :=
  if addr < 0x40 then s.regWrite (0x400E0000 + addr) w
  else if 0x10000 ≤ addr ∧ addr < 0x20000 then
    if s.on HPT_STAT_PEND then s
    else
      let a := addr - 0x10000
      let cells := ((leBytes 4 w).zipIdx.map fun x => (a + x.2, x.1)).filter fun c => c.2 != 0
      s.onHpt fun h => { h with cmdBuf := putCells h.cmdBuf a 4 cells }
  else if inAperture addr then
    match s.apertureAt addr with
    | some a => s.setBytes a (leBytes 4 w)
    | none => s
  else s

/-- The data words of a write frame, in ascending addresses. -/
def State.hostWrites (s : State) (addr : Nat) (data : List Byte) : Nat → State
  | 0 => s
  | n + 1 => (s.hostWrite addr (leNat (data.take 4))).hostWrites (addr + 4) (data.drop 4) n

/-- A word read by the host; `rec_` is the result record of this frame. -/
def State.hostRead (s : State) (rec_ : List Byte) (addr : Nat) : State × Nat :=
  if addr < 0x40 then s.regRead (0x400E0000 + addr)
  else if 0x20000 ≤ addr ∧ addr < 0x30000 then (s, leAt rec_ (addr - 0x20000) 4)
  else if inAperture addr then
    (s, match s.apertureAt addr with | some a => leNat (s.bytes a 4) | none => 0)
  else (s, 0)

/-- The words of a read frame. -/
def State.hostReads (s : State) (rec_ : List Byte) (addr : Nat) : Nat → State × List Byte
  | 0 => (s, [])
  | n + 1 =>
    let r := s.hostRead rec_ addr
    let t := r.1.hostReads rec_ (addr + 4) n
    (t.1, leBytes 4 r.2 ++ t.2)

/-- The frame that wakes the module is lost (R450). -/
def State.spiWakes (s : State) : Bool := decide (2 ≤ s.rd PWR_STAT_SLEEP)

/-- A write frame, with its CRC as received (R441). -/
def State.spiWrite (s : State) (op : Byte) (addr : Nat) (data : List Byte) (crc : Nat) : State :=
  if !s.powered then s
  else if s.spiWakes then s.wakeEvent 2
  else if !frameOk false op addr data.length then s.bump HPT_ERRCNT_FRAME
  else if data.length % 4 ≠ 0 ∨ crc ≠ frameCrc addr data then (s.bump HPT_ERRCNT_CRC).raise HPT_IRQ_CRCERR
  else (s.countBulk addr data.length).hostWrites addr data (data.length / 4)

/-- A read frame of `n` bytes: its data and its CRC are answered (R440); a frame that starts at the result buffer is a result
read (R445). Log entry 22 (DESIGN CHOICE, DEDUCED). -/
def State.spiRead (s : State) (op : Byte) (addr n : Nat) : State :=
  if !s.powered then s
  else if s.spiWakes then
    let good := frameCrc addr (List.replicate n 0xFF)
    let bad := if s.openValue % 2 ^ 32 = good then (good + 1) % 2 ^ 32 else s.openValue % 2 ^ 32
    ((s.wakeEvent 2).tookOpen).answerBytes (List.replicate n 0xFF ++ leBytes 4 bad)
  else if !frameOk true op addr n then s.bump HPT_ERRCNT_FRAME
  else
    let s := if addr = 0x20000 ∧ 0 < n then s.setBox .host Mailbox.countRead else s
    let s := s.countBulk addr n
    let r := s.hostReads (s.hpt.host.box.shown 0 0) addr ((n + 3) / 4)
    r.1.answerBytes (r.2.take n ++ leBytes 4 (frameCrc addr (r.2.take n)))

/-! ## Images of the pair (R341, R343) -/

/-- A CTRL frame with the first 8 bytes of a loader record. -/
def State.sendImageResult (s : State) (f : LoadFault) : State := s.sendLink (.ctrl 8 (leNat (f.encode.take 8)))

/-- A complete image received in IMG frames is loaded under R133: by a SYNCED standby for its twin's submission, which learns the
result, or by a module in RESYNC that asked for it. -/
def State.imageArrived (s : State) (bs : List Byte) : State :=
  if s.rd PLK_STAT_STATE = psSYNCED then
    let r := s.submit bs
    r.1.sendImageResult r.2
  else if s.rd PLK_STAT_STATE = psRESYNC then
    (s.submit bs).1.log srcPLK 0x0B4B 0 []
  else s

/-- An IMG frame (R341). -/
def State.imageSegment (s : State) (seg : List Byte) (last : Bool) : State :=
  let bs := s.plk.image ++ seg
  if last then (s.onPlk fun p => { p with image := [] }).imageArrived bs else s.onPlk fun p => { p with image := bs }

/-- The commands that wait for the twin's answer end with a record. -/
def State.endImages (s : State) (data : List Byte) : State :=
  let end_ := fun (m : Mailbox) => match m.cmd with
    | some c => if m.begun ∧ m.done.isNone ∧ c.code = 0x0030 then { m with done := some (c.result hpOK 0 data) } else m
    | none => m
  s.onHpt fun h => { h with
    host := { h.host with box := end_ h.host.box }, service := { h.service with box := end_ h.service.box }
    boxes := h.boxes.map fun x => (x.1, end_ x.2) }

/-- The twin's result (R343): an acceptance lets the exchange be armed; a refusal ends the submission, whose record is
PL_TWIN_REFUSED followed by the twin's; an update falls back (Table 13-6). -/
def State.twinResult (s : State) (record : List Byte) : State :=
  if !s.plk.imgAwait || s.rd PLK_STAT_STATE != psCONTROL then s
  else
    let s := s.onPlk fun p => { p with imgAwait := false }
    if leAt record 0 2 = 0 then s.endImages loadOk.encode
    else
      let own : Bool := s.updState == usINSTALLING && !(s.cxe.next.map (fun p => p.ver) != (s.nextComp.map fun c => c.ver))
      let s := s.discardNext.endImages ((loadRefused 0x0B06).encode ++ record)
      if own then s.fallback 5 else s

end Sys2Proof.Machine
end

