-- ==== Sys2Proof/Machine/Hpt.lean ====
section
/-! DEFINITION. The meanings of the commands of the host port, the mailboxes and the command service (spec/16, R439 to R450),
of UPT COMMAND transactions (R317) and of images on the pair link (R341, R343). -/

namespace Sys2Proof.Machine

/-! ## Frames and mailboxes -/

/-- SPI_WRITE_FRAME: the bytes received between the address and the CRC, and the CRC (R441). -/
def execSpiWriteFrame (opcode : Byte) (addr : BitVec 24) (data : List Byte) (crc : Word) (s : State) :
    Host.Outcome State Fault Refusal :=
  .next (s.spiWrite opcode addr.toNat data crc.toNat)

/-- SPI_READ_FRAME of `len` data bytes: `answer` holds them and the CRC (R440, R445). -/
def execSpiReadFrame (opcode : Byte) (addr : BitVec 24) (len : Nat) (s : State) : Host.Outcome State Fault Refusal :=
  .next (s.spiRead opcode addr.toNat len)

/-- DOORBELL: a write of HPT_DOORBELL (R444). -/
def execDoorbell (len : BitVec 17) (s : State) : Host.Outcome State Fault Refusal := .next (s.doorbell len.toNat)

/-- COMMAND_RESULT_PRESENT (R445). -/
def execCommandResultPresent (box : Box) (s : State) : Host.Outcome State Fault Refusal := .next (s.resultPresent box)

/-- MAILBOX_TIMEOUT: 50 ms since the command came (R448). -/
def execMailboxTimeout (box : Box) (s : State) : Host.Outcome State Fault Refusal := .next (s.mailboxTimeout box)

/-- SERVICE_PORT_FRAME: LEN, record and CRC-32C (R448). -/
def execServicePortFrame (frame : List Byte) (s : State) : Host.Outcome State Fault Refusal := .next (s.serviceFrame frame)

/-- USB_CONNECT: VBUS sense at or above 4.0 V (R476). -/
def execUsbConnect (s : State) : Host.Outcome State Fault Refusal :=
  .next (if s.powered then s.onHpt fun h => { h with usb := true } else s)

/-- USB_DISCONNECT: the service session ends (R442). -/
def execUsbDisconnect (s : State) : Host.Outcome State Fault Refusal :=
  .next ((s.onHpt fun h => { h with usb := false }).closeSession false)

/-- UPT_COMMAND: the oldest accepted transaction, a COMMAND or a segment of one (R317). -/
def execUptCommand (s : State) : Host.Outcome State Fault Refusal :=
  .next (if s.awake then s.onMsg uCOMMAND false State.uptCommand else s)

/-! ## Commands of Table 16-5 -/

/-- RESULT: the oldest one that waits (R448). -/
def execHpResult (box : Box) (s : State) : Host.Outcome State Fault Refusal := .next (if s.serving then s.serveResult box else s)

/-- STATUS (R446). -/
def execHpStatus (box : Box) (s : State) : Host.Outcome State Fault Refusal :=
  .next (s.runCmd box 0x0002 (argsLen 0) fun s _ _ => s.cmdStatus box)

/-- SESSION of the host or the service port; a new nonce follows every one (R442). -/
def execHpSession (host : Bool) (s : State) : Host.Outcome State Fault Refusal :=
  .next (s.runCmd (if host then .host else .service) 0x0003 (fun _ => true) fun s _ args =>
    let r := s.cmdSession host args
    (r.1.drawNonce host, r.2))

/-- PREAD (R446, R316). -/
def execHpPread (box : Box) (s : State) : Host.Outcome State Fault Refusal :=
  .next (s.runCmd box 0x0010 (fun a => decide (2 ≤ a.length)) fun s ten args => s.cmdPread (boxPort box) ten args)

/-- PWRITE (R446, R316). -/
def execHpPwrite (box : Box) (s : State) : Host.Outcome State Fault Refusal :=
  .next (s.runCmd box 0x0011 (fun a => decide (4 ≤ a.length)) fun s ten args => s.cmdPwrite (boxPort box) ten args)

/-- REGRD (R446). -/
def execHpRegrd (box : Box) (s : State) : Host.Outcome State Fault Refusal :=
  .next (s.runCmd box 0x0020 (argsLen 8) fun s _ args => s.cmdRegrd args)

/-- IMAGE (R446, R343). -/
def execHpImage (box : Box) (s : State) : Host.Outcome State Fault Refusal :=
  .next (s.runCmd box 0x0030 (fun a => decide (8 ≤ a.length)) fun s _ args => s.cmdImage box args)

/-- REPORT_READ (R230, R446). -/
def execReportRead (box : Box) (s : State) : Host.Outcome State Fault Refusal :=
  .next (s.runCmd box 0x0031 (argsLen 12) fun s ten args => s.cmdReportRead ten args)

/-- REPORT_ACK (R230, R446). -/
def execReportAck (box : Box) (s : State) : Host.Outcome State Fault Refusal :=
  .next (s.runCmd box 0x0032 (argsLen 8) fun s ten args => s.cmdReportAck ten args)

/-- BULK_OPEN of the host or the service port (R449). -/
def execBulkOpen (host : Bool) (s : State) : Host.Outcome State Fault Refusal :=
  .next (s.runCmd (if host then .host else .service) 0x0040 (argsLen 4) fun s _ args => s.cmdBulkOpen host args)

/-- BULK_CLOSE (R449). -/
def execBulkClose (host : Bool) (s : State) : Host.Outcome State Fault Refusal :=
  .next (s.runCmd (if host then .host else .service) 0x0041 (argsLen 0) fun s _ _ => s.cmdBulkClose host)

/-! ## Block requests of Table 16-6 -/

/-- BLOCK_FORCE: PDIR_FCMD and PDIR_FVAL. -/
def execBlockForce (box : Box) (s : State) : Host.Outcome State Fault Refusal :=
  .next (s.runBlock box 0x0101 (argsLen 8) fun s ten args => s.blockForce box ten args)

/-- BLOCK_CXE_CMD: RESTART only. -/
def execBlockCxeCmd (box : Box) (s : State) : Host.Outcome State Fault Refusal :=
  .next (s.runBlock box 0x0102 (argsLen 4) fun s ten args => s.blockRestart ten args)

/-- BLOCK_VALUE_CHANGE: CXE_VCHG_CTL and CXE_VCHG_DATA0 to 15. -/
def execBlockValueChange (box : Box) (s : State) : Host.Outcome State Fault Refusal :=
  .next (s.runBlock box 0x0112 (argsLen 68) fun s ten args =>
    let op := bitsOf (argWord args 0) 30 2
    s.blockWrite 0x0112 0x40020080 24 ten args ((List.range 16).map fun n => (CXE_VCHG_DATA_DATA n).addr) (op == 1 || op == 2))

/-- BLOCK_LOOP: CLE_CMD and CLE_CVAL0 to 3. -/
def execBlockLoop (box : Box) (s : State) : Host.Outcome State Fault Refusal :=
  .next (s.runBlock box 0x0103 (argsLen 20) fun s ten args =>
    s.blockWrite 0x0103 0x40030008 16 ten args ((List.range 4).map fun n => (CLE_CVAL_VAL n).addr) (opUpTo 5 args))

/-- BLOCK_PRESET: MTR_CMD, MTR_CVAL_LO and MTR_CVAL_HI. -/
def execBlockPreset (box : Box) (s : State) : Host.Outcome State Fault Refusal :=
  .next (s.runBlock box 0x0104 (argsLen 12) fun s ten args =>
    s.blockWrite 0x0104 0x40040008 16 ten args [MTR_CVAL_LO_VAL_LO.addr, MTR_CVAL_HI_VAL_HI.addr] (opUpTo 1 args))

/-- BLOCK_FIO: FIO_CMD. -/
def execBlockFio (box : Box) (s : State) : Host.Outcome State Fault Refusal :=
  .next (s.runBlock box 0x0105 (argsLen 4) fun s ten args => s.blockWrite 0x0105 0x40050008 16 ten args [] (opUpTo 1 args))

/-- BLOCK_FBE: FBE_CMD. -/
def execBlockFbe (box : Box) (s : State) : Host.Outcome State Fault Refusal :=
  .next (s.runBlock box 0x0106 (argsLen 4) fun s ten args => s.blockWrite 0x0106 0x40060008 16 ten args [] (opUpTo 2 args))

/-- BLOCK_PLK: PLK_CMD. -/
def execBlockPlk (box : Box) (s : State) : Host.Outcome State Fault Refusal :=
  .next (s.runBlock box 0x0108 (argsLen 4) fun s ten args => s.blockWrite 0x0108 0x40080008 16 ten args [] (opUpTo 2 args))

/-- BLOCK_KSU: KSU_CMD, KSU_CARG0, KSU_CARG1 and INLEN bytes of input. -/
def execBlockKsu (box : Box) (s : State) : Host.Outcome State Fault Refusal :=
  .next (s.runBlock box 0x0109 (fun a => decide (12 ≤ a.length) && a.length == 12 + bitsOf (argWord a 2) 16 12)
    fun s ten args => s.blockKsu ten args)

/-- BLOCK_GRN: GRN_CMD and GRN_RSEQ; `badPage` is a page that the walk finds unreadable, as in GRN_READ. -/
def execBlockGrn (box : Box) (badPage : Option Nat) (s : State) : Host.Outcome State Fault Refusal :=
  .next (s.runBlock box 0x010A (argsLen 8) fun s ten args => s.blockGrn box ten args badPage)

/-- BLOCK_WELL: WELL_CMD, WELL_SET0, WELL_SET1, WELL_SETSUB and WELL_SETPER. -/
def execBlockWell (box : Box) (s : State) : Host.Outcome State Fault Refusal :=
  .next (s.runBlock box 0x010B (argsLen 20) fun s ten args =>
    s.blockWrite 0x010B WELL_CMD_OP.addr 16 ten args [0x400B0030, 0x400B0034, 0x400B0038, 0x400B003C] (opUpTo 3 args))

/-- BLOCK_BACKUP: an index and a word of backup memory. -/
def execBlockBackup (box : Box) (s : State) : Host.Outcome State Fault Refusal :=
  .next (s.runBlock box 0x011B (argsLen 8) fun s ten args => s.blockBackup ten args)

/-- BLOCK_PWR: PWR_CMD. -/
def execBlockPwr (box : Box) (s : State) : Host.Outcome State Fault Refusal :=
  .next (s.runBlock box 0x010C (argsLen 4) fun s ten args => s.blockWrite 0x010C 0x400C0008 16 ten args [] (opUpTo 2 args))

/-- BLOCK_UPD: UPD_CMD, UPD_ARG and, for WRITE, a block. -/
def execBlockUpd (box : Box) (s : State) : Host.Outcome State Fault Refusal :=
  .next (s.runBlock box 0x0110 updLen fun s ten args => s.blockUpd box ten args)

/-! ## Images on the pair link -/

/-- CTRL_IMAGE_RESULT: the first 8 bytes of the twin's loader record (R343). -/
def execCtrlImageResult (head : LinkHead) (record : List Byte) (s : State) : Host.Outcome State Fault Refusal :=
  .next (s.onFrame head fun s => s.twinResult record)

/-- MIRROR_IMG: a segment of an image (R341). -/
def execMirrorImg (head : LinkHead) (seg : List Byte) (last : Bool) (s : State) : Host.Outcome State Fault Refusal :=
  .next (s.onFrame head fun s => s.imageSegment seg last)

end Sys2Proof.Machine
end

