-- ==== Sys2Proof/Machine/KnControl.lean ====
section
/-! DEFINITION. The Knaec control, move, data and system instructions (R96 to R98, R104 to R112, R120 to R122). -/

namespace Sys2Proof.Machine

/-- NOP. -/
def execKnNop (lane : Fin 8) (s : State) : Host.Outcome State Fault Refusal :=
  .next (s.knLane lane (enc 0x00 0 0 0 0) fun ln => ln)

/-- EXT supplies bits [31:16] of the next instruction's immediate (R96). -/
def execKnExt (lane : Fin 8) (hi : Half) (s : State) : Host.Outcome State Fault Refusal :=
  .next (s.knRun lane (enc 0x01 1 0 0 hi.toNat) fun s ln =>
    s.setLane lane { ln with pc := ln.pc + 1, ext := some hi })

/-- END ends the activation (R112). -/
def execKnEnd (lane : Fin 8) (s : State) : Host.Outcome State Fault Refusal :=
  .next (s.knRun lane (enc 0x02 0 0 0 0) fun s _ => s.endActivation lane)

/-- BR: if the condition holds, control goes forward to the next word plus the immediate (R108). -/
def execKnBr (lane : Fin 8) (cond : Fin 16) (imm : Half) (s : State) : Host.Outcome State Fault Refusal :=
  .next (s.knRun lane (enc 0x03 1 cond.val 0 imm.toNat) fun s ln =>
    s.setLane lane (if ln.fl.cond cond.val then ln.goto (ln.pc + 1 + (widen .z ln.ext imm).toNat) else ln.step))

/-- CALL pushes the address of the next word and enters a routine (R98, R111). A ninth level, which the loader refuses,
has no effect in the spec. Log entry 5 (DESIGN CHOICE, DEDUCED). -/
def execKnCall (lane : Fin 8) (routine : BitVec 12) (s : State) : Host.Outcome State Fault Refusal :=
  if s.atWord lane (enc 0x04 1 0 0 routine.toNat) then
    let ln := s.lane lane
    if ln.calls.length < 8 then
      .next (s.setLane lane { ln.goto (s.routineAt routine.toNat) with calls := (ln.pc + 1) :: ln.calls })
    else .fault .noRecord
  else .next s

/-- RET pops an address and goes on there; with an empty call stack it ends the activation (R111). -/
def execKnRet (lane : Fin 8) (s : State) : Host.Outcome State Fault Refusal :=
  .next (s.knRun lane (enc 0x05 0 0 0 0) fun s ln =>
    match ln.calls with
    | [] => s.endActivation lane
    | r :: t => s.setLane lane
        { ln.goto r with calls := t, loops := ln.loops.filter fun x => decide (x.level ≤ t.length) })

/-- The word after the ENDL that closes the body at `pc`, `depth` inner bodies being open; CASE tables are stepped
over. `fuel` is the size of a code bank. -/
def State.afterEndl (s : State) : Nat → Nat → Nat → Nat
  | 0, pc, _ => pc
  | fuel + 1, pc, depth =>
    let w := s.code pc
    if wOP w = 0x07 then (if depth = 0 then pc + 1 else s.afterEndl fuel (pc + 1) (depth - 1))
    else if wOP w = 0x06 then s.afterEndl fuel (pc + 1) (depth + 1)
    else if wOP w = 0x09 then s.afterEndl fuel (pc + 1 + wIMM w) depth
    else s.afterEndl fuel (pc + 1) depth

/-- The words of a code bank. -/
def codeWords : Nat := 262144

/-- The loop records of the present call level. -/
def Lane.loopsHere (ln : Lane) : List LoopRec := ln.loops.filter fun x => x.level == ln.calls.length

/-- LOOP opens a body of `n` iterations, or skips it when `n` is 0 (R109). A fifth level, which the loader refuses, has
no effect in the spec. Log entry 5 (DESIGN CHOICE, DEDUCED). -/
def execKnLoop (lane : Fin 8) (d : Fin 16) (n : Half) (s : State) : Host.Outcome State Fault Refusal :=
  if s.atWord lane (enc 0x06 1 d.val 0 n.toNat) then
    let ln := s.lane lane
    if n = 0 then .next (s.setLane lane (ln.goto (s.afterEndl codeWords (ln.pc + 1) 0)))
    else if 4 ≤ ln.loopsHere.length then .fault .noRecord
    else
      let r : LoopRec := ⟨n.toNat - 1, 0, d, ln.pc + 1, ln.calls.length⟩
      .next (s.setLane lane { (ln.setReg d 0).step with loops := r :: ln.loops })
  else .next s

/-- ENDL repeats the innermost body or falls through (R109); outside every body, which the loader refuses, it has no
effect in the spec. Log entry 5 (DESIGN CHOICE, DEDUCED). -/
def execKnEndl (lane : Fin 8) (s : State) : Host.Outcome State Fault Refusal :=
  if s.atWord lane (enc 0x07 0 0 0 0) then
    let ln := s.lane lane
    match ln.loops with
    | [] => .fault .noRecord
    | r :: t =>
      if r.left = 0 then .next (s.setLane lane { ln.step with loops := t })
      else
        let r' := { r with left := r.left - 1, idx := r.idx + 1 }
        .next (s.setLane lane
          { (ln.setReg r.reg (BitVec.ofNat 32 r'.idx)).goto r.body with loops := r' :: t })
  else .next s

/-- BRK: if the condition holds, the innermost body is left for the word after its ENDL (R109); outside every body,
which the loader refuses, it has no effect in the spec. Log entry 5 (DESIGN CHOICE, DEDUCED). -/
def execKnBrk (lane : Fin 8) (cond : Fin 16) (s : State) : Host.Outcome State Fault Refusal :=
  if s.atWord lane (enc 0x08 1 cond.val 0 0) then
    let ln := s.lane lane
    match ln.loops with
    | [] => .fault .noRecord
    | _ :: t =>
      if ln.fl.cond cond.val then
        .next (s.setLane lane { ln.goto (s.afterEndl codeWords (ln.pc + 1) 0) with loops := t })
      else .next (s.setLane lane ln.step)
  else .next s

/-- CASE goes through a table of `n` forward offsets at index W(A), or to the first word after it (R110). -/
def execKnCase (lane : Fin 8) (a : Fin 16) (n : Half) (s : State) : Host.Outcome State Fault Refusal :=
  .next (s.knRun lane (enc 0x09 1 0 a.val n.toNat) fun s ln =>
    let i := (ln.reg a).toNat
    let base := ln.pc + 1 + n.toNat
    s.setLane lane (ln.goto (if i < n.toNat then base + s.code (ln.pc + 1 + i) % 65536 else base)))

/-- SET writes 1 if the condition holds, else 0. -/
def execKnSet (lane : Fin 8) (d cond : Fin 16) (s : State) : Host.Outcome State Fault Refusal :=
  .next (s.knLane lane (enc 0x0A 1 d.val 0 cond.val) fun ln => ln.setReg d (if ln.fl.cond cond.val then 1 else 0))

/-- SLEEP requests the state 1, 2 or 3 in W(A); any other value is ignored (R120). -/
def execKnSleep (lane : Fin 8) (a : Fin 16) (s : State) : Host.Outcome State Fault Refusal :=
  .next (s.knRun lane (enc 0x0B 0 0 a.val 0) fun s ln =>
    let v := (ln.reg a).toNat
    let s := s.setLane lane ln.step
    if 1 ≤ v ∧ v ≤ 3 then s.setAct ln.task fun x => { x with sleep := some v } else s)

/-- LOG records an application event with W(A), the task, its tenant and the activation's due time (R121). -/
def execKnLog (lane : Fin 8) (a : Fin 16) (event : BitVec 12) (s : State) : Host.Outcome State Fault Refusal :=
  .next (s.knRun lane (enc 0x0C 1 0 a.val event.toNat) fun s ln =>
    let due := match s.actOn lane with | some x => x.due | none => s.ltu.now
    (s.setLane lane ln.step).logAt srcCXE (0xA000 + event.toNat) (s.taskTen ln.task) due
      [.n1 ln.task, .n4 (ln.reg a).toNat])

/-- An item of the activation's time (Table 4-8). Log entry 6 (DESIGN CHOICE, DEDUCED). -/
def Act.timeItem (x : Act) : Nat → Nat
  | 0 => x.due % 2 ^ 32
  | 1 => x.due / 2 ^ 32
  | 2 => min x.late 0xFFFFFFFF
  | _ => x.ms

/-- LTA writes an item of the activation's time (R122). -/
def execKnLta (lane : Fin 8) (d : Fin 16) (item : Fin 4) (s : State) : Host.Outcome State Fault Refusal :=
  .next (s.knRun lane (enc 0x0D 1 d.val 0 item.val) fun s ln =>
    let v := match s.actOn lane with | some x => x.timeItem item.val | none => 0
    s.setLane lane (ln.setReg d (BitVec.ofNat 32 v)).step)

/-- MOV copies B to W(D) and leaves the flags. -/
def execKnMov (lane : Fin 8) (d : Fin 16) (b : KArg) (s : State) : Host.Outcome State Fault Refusal :=
  .next (s.knLane lane (encB 0x10 d 0 b) fun ln => ln.setReg d (ln.arg .s b))

/-- The effective byte offset of LDD and STD (R106). -/
def Lane.dataOff (ln : Lane) (a : Fin 16) (imm : Half) : Nat :=
  let o := (ln.reg a + widen .s ln.ext imm).toNat
  o - o % 4

/-- An access that is not in range (R107): counted, and recorded once per activation. -/
def State.rangeFault (s : State) (lane : Fin 8) (pc off : Nat) : State :=
  let t := (s.lane lane).task
  let s := s.bump (CXE_TASK_FLT_FAULT t)
  match s.actOn lane with
  | some x =>
    if x.rangeNoted then s
    else (s.setAct t fun x => { x with rangeNoted := true }).log srcCXE 0x0441 (s.taskTen t) [.n1 t, .n4 pc, .n4 off]
  | none => s

/-- A data fault on LDD (R151): counted, and recorded once per activation. -/
def State.dataFault (s : State) (lane : Fin 8) : State :=
  let t := (s.lane lane).task
  let s := (s.bump (CXE_TASK_FLT_FAULT t)).raise CXE_EVT_MEM_FAULT
  let s := match s.actOn lane with
    | some x =>
      if x.memNoted then s
      else (s.setAct t fun x => { x with memNoted := true }).log srcCXE 0x054A (s.taskTen t) []
    | none => s
  s.uncorrectable

/-- LDD loads a data image word; 0 when out of range or faulty (R106, R107, R151). -/
def execKnLdd (lane : Fin 8) (d a : Fin 16) (imm : Half) (ecc : Ecc) (s : State) : Host.Outcome State Fault Refusal :=
  .next (s.knRun lane (enc 0x11 1 d.val a.val imm.toNat) fun s ln =>
    let off := ln.dataOff a imm
    if s.inRange (s.taskTen ln.task) off then
      match ecc with
      | .clean => s.setLane lane (ln.setReg d (s.readData off)).step
      | .corrected => (s.bump HLT_ERR_A_ECC).setLane lane (ln.setReg d (s.readData off)).step
      | .uncorrectable => (s.dataFault lane).setLane lane (ln.setReg d 0).step
    else (s.rangeFault lane ln.pc off).setLane lane (ln.setReg d 0).step)

/-- STD stores W(D) in a data image word when it is in range (R106, R107, R155). -/
def execKnStd (lane : Fin 8) (d a : Fin 16) (imm : Half) (s : State) : Host.Outcome State Fault Refusal :=
  .next (s.knRun lane (enc 0x12 1 d.val a.val imm.toNat) fun s ln =>
    let off := ln.dataOff a imm
    if s.inRange (s.taskTen ln.task) off then (s.writeData off (ln.reg d)).setLane lane ln.step
    else (s.rangeFault lane ln.pc off).setLane lane ln.step)

end Sys2Proof.Machine
end

