-- ==== Sys2Proof/Machine/KnInt.lean ====
section
/-! DEFINITION. The Knaec integer instructions (R99 to R101, R105): results and flags of Table 4-5 and Table 4-3. -/

namespace Sys2Proof.Machine

/-- The high 32 bits of a signed product. -/
def mulHigh (x y : Word) : Word := BitVec.ofInt 32 (x.toInt * y.toInt / 2 ^ 32)

/-- Quotients and remainders with their V condition (R101). -/
def divS (x y : Word) : FRes :=
  if y = 0 then ⟨0, true⟩
  else if x = 0x80000000 ∧ y = 0xFFFFFFFF then ⟨0x80000000, true⟩
  else ⟨BitVec.ofInt 32 (x.toInt.tdiv y.toInt), false⟩
def divU (x y : Word) : FRes := if y = 0 then ⟨0, true⟩ else ⟨x / y, false⟩
def modS (x y : Word) : FRes :=
  if y = 0 then ⟨0, true⟩
  else if x = 0x80000000 ∧ y = 0xFFFFFFFF then ⟨0, true⟩
  else ⟨BitVec.ofInt 32 (x.toInt.tmod y.toInt), false⟩
def modU (x y : Word) : FRes := if y = 0 then ⟨0, true⟩ else ⟨x % y, false⟩

/-- Minima and maxima, and the absolute value. -/
def minS (x y : Word) : Word := if y.toInt < x.toInt then y else x
def maxS (x y : Word) : Word := if x.toInt < y.toInt then y else x
def minU (x y : Word) : Word := if y.toNat < x.toNat then y else x
def maxU (x y : Word) : Word := if x.toNat < y.toNat then y else x
def absI (y : Word) : Word := if y.msb then -y else y

/-- Shifts by B[5:0] with the last bit shifted out, 0 for a shift by 0 (R101). -/
def shiftBy (y : Word) : Nat := y.toNat % 64
def shl (x y : Word) : FRes :=
  let k := shiftBy y
  ⟨x <<< k, decide (0 < k) && decide (k ≤ 32) && x.toNat.testBit (32 - k)⟩
def shr (x y : Word) : FRes :=
  let k := shiftBy y
  ⟨x >>> k, decide (0 < k) && x.toNat.testBit (k - 1)⟩
def sar (x y : Word) : FRes :=
  let k := shiftBy y
  ⟨x.sshiftRight k, decide (0 < k) && (if k ≤ 32 then x.toNat.testBit (k - 1) else x.msb)⟩

/-- ADD: W(D) ← W(A) + B, modulo 2^32 (Table 4-5). -/
def Lane.doKnAdd (ln : Lane) (d : Fin 16) (x y : Word) : Lane := ln.result d (x + y) (ln.fl.add x y)
/-- ADD on a lane. -/
def execKnAdd (lane : Fin 8) (d a : Fin 16) (b : KArg) (s : State) : Host.Outcome State Fault Refusal :=
  .next (s.knLane lane (encB 0x20 d a b) fun ln => ln.doKnAdd d (ln.reg a) (ln.arg .s b))

/-- SUB: W(D) ← W(A) − B (Table 4-5). -/
def Lane.doKnSub (ln : Lane) (d : Fin 16) (x y : Word) : Lane := ln.result d (x - y) (ln.fl.sub x y)
/-- SUB on a lane. -/
def execKnSub (lane : Fin 8) (d a : Fin 16) (b : KArg) (s : State) : Host.Outcome State Fault Refusal :=
  .next (s.knLane lane (encB 0x21 d a b) fun ln => ln.doKnSub d (ln.reg a) (ln.arg .s b))

/-- MUL: the low 32 bits of the product; V when the signed product lies outside INT32 (Table 4-5). -/
def Lane.doKnMul (ln : Lane) (d : Fin 16) (x y : Word) : Lane := ln.result d (x * y) (ln.fl.znv (x * y) (outI32 (x.toInt * y.toInt)))
/-- MUL on a lane. -/
def execKnMul (lane : Fin 8) (d a : Fin 16) (b : KArg) (s : State) : Host.Outcome State Fault Refusal :=
  .next (s.knLane lane (encB 0x22 d a b) fun ln => ln.doKnMul d (ln.reg a) (ln.arg .s b))

/-- MULH: the high 32 bits of the signed product (Table 4-5). -/
def Lane.doKnMulh (ln : Lane) (d : Fin 16) (x y : Word) : Lane := ln.result d (mulHigh x y) (ln.fl.zn (mulHigh x y))
/-- MULH on a lane. -/
def execKnMulh (lane : Fin 8) (d a : Fin 16) (b : KArg) (s : State) : Host.Outcome State Fault Refusal :=
  .next (s.knLane lane (encB 0x23 d a b) fun ln => ln.doKnMulh d (ln.reg a) (ln.arg .s b))

/-- DIV: signed quotient, truncating; division by zero writes 0 and sets V, −2^31 / −1 writes −2^31 and sets V (Table 4-5). -/
def Lane.doKnDiv (ln : Lane) (d : Fin 16) (x y : Word) : Lane := ln.result d (divS x y).w (ln.fl.znv (divS x y).w (divS x y).v)
/-- DIV on a lane. -/
def execKnDiv (lane : Fin 8) (d a : Fin 16) (b : KArg) (s : State) : Host.Outcome State Fault Refusal :=
  .next (s.knLane lane (encB 0x24 d a b) fun ln => ln.doKnDiv d (ln.reg a) (ln.arg .s b))

/-- DIVU: unsigned quotient; division by zero writes 0 and sets V (Table 4-5). -/
def Lane.doKnDivu (ln : Lane) (d : Fin 16) (x y : Word) : Lane := ln.result d (divU x y).w (ln.fl.znv (divU x y).w (divU x y).v)
/-- DIVU on a lane. -/
def execKnDivu (lane : Fin 8) (d a : Fin 16) (b : KArg) (s : State) : Host.Outcome State Fault Refusal :=
  .next (s.knLane lane (encB 0x25 d a b) fun ln => ln.doKnDivu d (ln.reg a) (ln.arg .z b))

/-- MOD: signed remainder with the sign of the dividend (Table 4-5). -/
def Lane.doKnMod (ln : Lane) (d : Fin 16) (x y : Word) : Lane := ln.result d (modS x y).w (ln.fl.znv (modS x y).w (modS x y).v)
/-- MOD on a lane. -/
def execKnMod (lane : Fin 8) (d a : Fin 16) (b : KArg) (s : State) : Host.Outcome State Fault Refusal :=
  .next (s.knLane lane (encB 0x26 d a b) fun ln => ln.doKnMod d (ln.reg a) (ln.arg .s b))

/-- MODU: unsigned remainder (Table 4-5). -/
def Lane.doKnModu (ln : Lane) (d : Fin 16) (x y : Word) : Lane := ln.result d (modU x y).w (ln.fl.znv (modU x y).w (modU x y).v)
/-- MODU on a lane. -/
def execKnModu (lane : Fin 8) (d a : Fin 16) (b : KArg) (s : State) : Host.Outcome State Fault Refusal :=
  .next (s.knLane lane (encB 0x27 d a b) fun ln => ln.doKnModu d (ln.reg a) (ln.arg .z b))

/-- NEG: W(D) ← −B (Table 4-5). -/
def Lane.doKnNeg (ln : Lane) (d : Fin 16) (y : Word) : Lane := ln.result d (-y) (ln.fl.sub 0 y)
/-- NEG on a lane. -/
def execKnNeg (lane : Fin 8) (d : Fin 16) (b : KArg) (s : State) : Host.Outcome State Fault Refusal :=
  .next (s.knLane lane (encB 0x28 d 0 b) fun ln => ln.doKnNeg d (ln.arg .s b))

/-- ABS: the absolute value; −2^31 is itself, with V (Table 4-5). -/
def Lane.doKnAbs (ln : Lane) (d : Fin 16) (y : Word) : Lane := ln.result d (absI y) (ln.fl.znv (absI y) (y == 0x80000000))
/-- ABS on a lane. -/
def execKnAbs (lane : Fin 8) (d : Fin 16) (b : KArg) (s : State) : Host.Outcome State Fault Refusal :=
  .next (s.knLane lane (encB 0x29 d 0 b) fun ln => ln.doKnAbs d (ln.arg .s b))

/-- MIN: the signed minimum (Table 4-5). -/
def Lane.doKnMin (ln : Lane) (d : Fin 16) (x y : Word) : Lane := ln.result d (minS x y) (ln.fl.zn (minS x y))
/-- MIN on a lane. -/
def execKnMin (lane : Fin 8) (d a : Fin 16) (b : KArg) (s : State) : Host.Outcome State Fault Refusal :=
  .next (s.knLane lane (encB 0x2A d a b) fun ln => ln.doKnMin d (ln.reg a) (ln.arg .s b))

/-- MAX: the signed maximum (Table 4-5). -/
def Lane.doKnMax (ln : Lane) (d : Fin 16) (x y : Word) : Lane := ln.result d (maxS x y) (ln.fl.zn (maxS x y))
/-- MAX on a lane. -/
def execKnMax (lane : Fin 8) (d a : Fin 16) (b : KArg) (s : State) : Host.Outcome State Fault Refusal :=
  .next (s.knLane lane (encB 0x2B d a b) fun ln => ln.doKnMax d (ln.reg a) (ln.arg .s b))

/-- MINU: the unsigned minimum (Table 4-5). -/
def Lane.doKnMinu (ln : Lane) (d : Fin 16) (x y : Word) : Lane := ln.result d (minU x y) (ln.fl.zn (minU x y))
/-- MINU on a lane. -/
def execKnMinu (lane : Fin 8) (d a : Fin 16) (b : KArg) (s : State) : Host.Outcome State Fault Refusal :=
  .next (s.knLane lane (encB 0x2C d a b) fun ln => ln.doKnMinu d (ln.reg a) (ln.arg .z b))

/-- MAXU: the unsigned maximum (Table 4-5). -/
def Lane.doKnMaxu (ln : Lane) (d : Fin 16) (x y : Word) : Lane := ln.result d (maxU x y) (ln.fl.zn (maxU x y))
/-- MAXU on a lane. -/
def execKnMaxu (lane : Fin 8) (d a : Fin 16) (b : KArg) (s : State) : Host.Outcome State Fault Refusal :=
  .next (s.knLane lane (encB 0x2D d a b) fun ln => ln.doKnMaxu d (ln.reg a) (ln.arg .z b))

/-- LIM: min(max(W(D), W(A)), B), signed (Table 4-5). -/
def Lane.doKnLim (ln : Lane) (d : Fin 16) (x y : Word) : Lane := ln.result d (minS (maxS (ln.reg d) x) y) (ln.fl.zn (minS (maxS (ln.reg d) x) y))
/-- LIM on a lane. -/
def execKnLim (lane : Fin 8) (d a : Fin 16) (b : KArg) (s : State) : Host.Outcome State Fault Refusal :=
  .next (s.knLane lane (encB 0x2E d a b) fun ln => ln.doKnLim d (ln.reg a) (ln.arg .s b))

/-- CMP: the flags of W(A) − B (Table 4-5). -/
def Lane.doKnCmp (ln : Lane) (x y : Word) : Lane := { ln with fl := ln.fl.sub x y }
/-- CMP on a lane. -/
def execKnCmp (lane : Fin 8) (a : Fin 16) (b : KArg) (s : State) : Host.Outcome State Fault Refusal :=
  .next (s.knLane lane (encB 0x2F 0 a b) fun ln => ln.doKnCmp (ln.reg a) (ln.arg .s b))

/-- AND: bitwise and (Table 4-5). -/
def Lane.doKnAnd (ln : Lane) (d : Fin 16) (x y : Word) : Lane := ln.result d (x &&& y) (ln.fl.zn (x &&& y))
/-- AND on a lane. -/
def execKnAnd (lane : Fin 8) (d a : Fin 16) (b : KArg) (s : State) : Host.Outcome State Fault Refusal :=
  .next (s.knLane lane (encB 0x30 d a b) fun ln => ln.doKnAnd d (ln.reg a) (ln.arg .z b))

/-- OR: bitwise or (Table 4-5). -/
def Lane.doKnOr (ln : Lane) (d : Fin 16) (x y : Word) : Lane := ln.result d (x ||| y) (ln.fl.zn (x ||| y))
/-- OR on a lane. -/
def execKnOr (lane : Fin 8) (d a : Fin 16) (b : KArg) (s : State) : Host.Outcome State Fault Refusal :=
  .next (s.knLane lane (encB 0x31 d a b) fun ln => ln.doKnOr d (ln.reg a) (ln.arg .z b))

/-- XOR: bitwise exclusive or (Table 4-5). -/
def Lane.doKnXor (ln : Lane) (d : Fin 16) (x y : Word) : Lane := ln.result d (x ^^^ y) (ln.fl.zn (x ^^^ y))
/-- XOR on a lane. -/
def execKnXor (lane : Fin 8) (d a : Fin 16) (b : KArg) (s : State) : Host.Outcome State Fault Refusal :=
  .next (s.knLane lane (encB 0x32 d a b) fun ln => ln.doKnXor d (ln.reg a) (ln.arg .z b))

/-- NOT: the complement of B (Table 4-5). -/
def Lane.doKnNot (ln : Lane) (d : Fin 16) (y : Word) : Lane := ln.result d (~~~y) (ln.fl.zn (~~~y))
/-- NOT on a lane. -/
def execKnNot (lane : Fin 8) (d : Fin 16) (b : KArg) (s : State) : Host.Outcome State Fault Refusal :=
  .next (s.knLane lane (encB 0x33 d 0 b) fun ln => ln.doKnNot d (ln.arg .z b))

/-- SHL: shift left by B[5:0] (Table 4-5). -/
def Lane.doKnShl (ln : Lane) (d : Fin 16) (x y : Word) : Lane := ln.result d (shl x y).w (ln.fl.znc (shl x y).w (shl x y).v)
/-- SHL on a lane. -/
def execKnShl (lane : Fin 8) (d a : Fin 16) (b : KArg) (s : State) : Host.Outcome State Fault Refusal :=
  .next (s.knLane lane (encB 0x34 d a b) fun ln => ln.doKnShl d (ln.reg a) (ln.arg .z b))

/-- SHR: shift right with zero fill (Table 4-5). -/
def Lane.doKnShr (ln : Lane) (d : Fin 16) (x y : Word) : Lane := ln.result d (shr x y).w (ln.fl.znc (shr x y).w (shr x y).v)
/-- SHR on a lane. -/
def execKnShr (lane : Fin 8) (d a : Fin 16) (b : KArg) (s : State) : Host.Outcome State Fault Refusal :=
  .next (s.knLane lane (encB 0x35 d a b) fun ln => ln.doKnShr d (ln.reg a) (ln.arg .z b))

/-- SAR: shift right with sign fill (Table 4-5). -/
def Lane.doKnSar (ln : Lane) (d : Fin 16) (x y : Word) : Lane := ln.result d (sar x y).w (ln.fl.znc (sar x y).w (sar x y).v)
/-- SAR on a lane. -/
def execKnSar (lane : Fin 8) (d a : Fin 16) (b : KArg) (s : State) : Host.Outcome State Fault Refusal :=
  .next (s.knLane lane (encB 0x36 d a b) fun ln => ln.doKnSar d (ln.reg a) (ln.arg .z b))

/-- TST: the flags of W(A) and B (Table 4-5). -/
def Lane.doKnTst (ln : Lane) (x y : Word) : Lane := { ln with fl := ln.fl.zn (x &&& y) }
/-- TST on a lane. -/
def execKnTst (lane : Fin 8) (a : Fin 16) (b : KArg) (s : State) : Host.Outcome State Fault Refusal :=
  .next (s.knLane lane (encB 0x37 0 a b) fun ln => ln.doKnTst (ln.reg a) (ln.arg .z b))

/-- BOOL: 1 if B ≠ 0, else 0 (Table 4-5). -/
def Lane.doKnBool (ln : Lane) (d : Fin 16) (y : Word) : Lane := ln.result d (if y = 0 then 0 else 1) { ln.fl with z := y == 0 }
/-- BOOL on a lane. -/
def execKnBool (lane : Fin 8) (d : Fin 16) (b : KArg) (s : State) : Host.Outcome State Fault Refusal :=
  .next (s.knLane lane (encB 0x38 d 0 b) fun ln => ln.doKnBool d (ln.arg .z b))

end Sys2Proof.Machine
end

