-- ==== Sys2Proof/Machine/KnPoint.lean ====
section
/-! DEFINITION. The Knaec point, timer and edge instructions (R113, R114, R117 to R119). -/

namespace Sys2Proof.Machine

/-- The copy of a handle in the activation's input image; unread handles are UNSET. -/
def State.imageOf (s : State) (lane : Fin 8) (h : Nat) : List Word :=
  match s.actOn lane with
  | some x => match x.image.find? fun e => e.1 == h with
    | some e => e.2
    | none => [0, 0xC0, 0, 0, 0, 0, 0, 0]
  | none => [0, 0xC0, 0, 0, 0, 0, 0, 0]

/-- PRD reads an element of a point from the input image and sets Z, N and Q (R113). -/
def execKnPrd (lane : Fin 8) (d : Fin 16) (elem : Fin 8) (handle : BitVec 13) (s : State) :
    Host.Outcome State Fault Refusal :=
  .next (s.knRun lane (enc 0x60 1 d.val 0 (elem.val * 2 ^ 13 + handle.toNat)) fun s ln =>
    let img := s.imageOf lane handle.toNat
    let v := img.getD elem.val 0
    let q := img.getD 1 0xC0
    s.setLane lane (ln.result d v { ln.fl.zn v with q := q == 0 || q == 0x20 }).step)

/-- The qualities that a task may stage (R114, Table 3-3). -/
def qualStageable (q : Byte) : Bool :=
  [0x00, 0x41, 0x42, 0x43, 0x44, 0x81, 0x82, 0x83, 0x84, 0x85, 0x86].contains q

/-- A staged write that replaces an earlier one of the same handle. -/
def stagePut (l : List Staged) (w : Staged) : List Staged := l.filter (fun x => x.handle ≠ w.handle) ++ [w]

/-- PWR stages W(A), and the quality W(D)[7:0] when ELEM = 1, for a point (R114). -/
def execKnPwr (lane : Fin 8) (d a : Fin 16) (withQual : Bool) (handle : BitVec 13) (s : State) :
    Host.Outcome State Fault Refusal :=
  .next (s.knRun lane (enc 0x61 1 (if withQual then d.val else 0) a.val (bit withQual * 2 ^ 13 + handle.toNat)) fun s ln =>
    let q : Byte := if withQual then (ln.reg d).truncate 8 else 0
    let ok := qualStageable q
    let w : Staged := ⟨handle.toNat, ln.reg a, if ok then q else 0x86⟩
    let noted := match s.actOn lane with | some x => x.qualNoted | none => true
    let s := (s.setLane lane ln.step).setAct ln.task fun x =>
      { x with staged := stagePut x.staged w, qualNoted := x.qualNoted || !ok }
    if ok || noted then s else s.log srcCXE 0x0442 (s.taskTen ln.task) [])

/-- The activation's latched millisecond counter. -/
def State.nowMs (s : State) (lane : Fin 8) : Nat := match s.actOn lane with | some x => x.ms | none => s.rd CXE_MSCNT_MS

/-- TMR evaluates a timer cell with input W(A) and writes its output (R117). -/
def execKnTmr (lane : Fin 8) (d a : Fin 16) (kind : Fin 3) (cell : BitVec 12) (s : State) :
    Host.Outcome State Fault Refusal :=
  .next (s.knRun lane (enc 0x70 1 d.val a.val (kind.val * 2 ^ 12 + cell.toNat)) fun s ln =>
    let p := s.physCell false cell.toNat
    let t := (s.timer p).eval kind.val (s.nowMs lane) (ln.reg a != 0)
    (s.setTimer p t).setLane lane
      (ln.result d (if t.output then 1 else 0) { ln.fl with z := !t.output }).step)

/-- TET writes the elapsed time of a timer cell, limited to its preset (R118). -/
def execKnTet (lane : Fin 8) (d : Fin 16) (cell : BitVec 12) (s : State) : Host.Outcome State Fault Refusal :=
  .next (s.knRun lane (enc 0x71 1 d.val 0 cell.toNat) fun s ln =>
    let t := s.timer (s.physCell false cell.toNat)
    s.setLane lane (ln.setReg d (BitVec.ofNat 32 (t.at_ (s.nowMs lane)))).step)

/-- TPS sets the preset of a timer cell; a negative value sets 0 and V (R118). -/
def execKnTps (lane : Fin 8) (a : Fin 16) (cell : BitVec 12) (s : State) : Host.Outcome State Fault Refusal :=
  .next (s.knRun lane (enc 0x72 1 0 a.val cell.toNat) fun s ln =>
    let p := s.physCell false cell.toNat
    let v := ln.reg a
    (s.setTimer p { s.timer p with preset := presetOf v }).setLane lane { ln.step with fl := { ln.fl with v := v.msb } })

/-- TRS resets a timer cell (R118). -/
def execKnTrs (lane : Fin 8) (cell : BitVec 12) (s : State) : Host.Outcome State Fault Refusal :=
  .next (s.knRun lane (enc 0x73 1 0 0 cell.toNat) fun s ln =>
    let p := s.physCell false cell.toNat
    (s.setTimer p (s.timer p).clear).setLane lane ln.step)

/-- EDG detects an edge of W(A) against an edge cell and stores the new input (R119). -/
def execKnEdg (lane : Fin 8) (d a : Fin 16) (kind : Fin 3) (cell : BitVec 12) (s : State) :
    Host.Outcome State Fault Refusal :=
  .next (s.knRun lane (enc 0x74 1 d.val a.val (kind.val * 2 ^ 12 + cell.toNat)) fun s ln =>
    let p := s.physCell true cell.toNat
    let inp := ln.reg a != 0
    let r := edgeResult kind.val inp (s.edgeBit p)
    (s.setEdgeBit p inp).setLane lane (ln.result d (if r then 1 else 0) { ln.fl with z := !r }).step)

end Sys2Proof.Machine
end

