-- ==== Sys2Proof/Machine/KnReal.lean ====
section
/-! DEFINITION. The Knaec REAL32 instructions (R102, R103, R105). -/

namespace Sys2Proof.Machine


/-- FADD: W(A) + B (Table 4-5). -/
def Lane.doKnFadd (ln : Lane) (d : Fin 16) (x y : Word) : Lane := ln.result d (fAdd x y).w (ln.fl.fznv (fAdd x y))
/-- FADD on a lane. -/
def execKnFadd (lane : Fin 8) (d a : Fin 16) (b : KArg) (s : State) : Host.Outcome State Fault Refusal :=
  .next (s.knLane lane (encB 0x40 d a b) fun ln => ln.doKnFadd d (ln.reg a) (ln.arg .f b))

/-- FSUB: W(A) − B (Table 4-5). -/
def Lane.doKnFsub (ln : Lane) (d : Fin 16) (x y : Word) : Lane := ln.result d (fSub x y).w (ln.fl.fznv (fSub x y))
/-- FSUB on a lane. -/
def execKnFsub (lane : Fin 8) (d a : Fin 16) (b : KArg) (s : State) : Host.Outcome State Fault Refusal :=
  .next (s.knLane lane (encB 0x41 d a b) fun ln => ln.doKnFsub d (ln.reg a) (ln.arg .f b))

/-- FMUL: W(A) × B (Table 4-5). -/
def Lane.doKnFmul (ln : Lane) (d : Fin 16) (x y : Word) : Lane := ln.result d (fMul x y).w (ln.fl.fznv (fMul x y))
/-- FMUL on a lane. -/
def execKnFmul (lane : Fin 8) (d a : Fin 16) (b : KArg) (s : State) : Host.Outcome State Fault Refusal :=
  .next (s.knLane lane (encB 0x42 d a b) fun ln => ln.doKnFmul d (ln.reg a) (ln.arg .f b))

/-- FDIV: W(A) / B (Table 4-5). -/
def Lane.doKnFdiv (ln : Lane) (d : Fin 16) (x y : Word) : Lane := ln.result d (fDiv x y).w (ln.fl.fznv (fDiv x y))
/-- FDIV on a lane. Log entry 7 (DEDUCED). -/
def execKnFdiv (lane : Fin 8) (d a : Fin 16) (b : KArg) (s : State) : Host.Outcome State Fault Refusal :=
  .next (s.knLane lane (encB 0x43 d a b) fun ln => ln.doKnFdiv d (ln.reg a) (ln.arg .f b))

/-- FSQRT: the square root of B (Table 4-5). -/
def Lane.doKnFsqrt (ln : Lane) (d : Fin 16) (y : Word) : Lane := ln.result d (fSqrt y).w (ln.fl.fznv (fSqrt y))
/-- FSQRT on a lane. -/
def execKnFsqrt (lane : Fin 8) (d : Fin 16) (b : KArg) (s : State) : Host.Outcome State Fault Refusal :=
  .next (s.knLane lane (encB 0x44 d 0 b) fun ln => ln.doKnFsqrt d (ln.arg .f b))

/-- FMA: W(D) + W(A) × B, rounded once (Table 4-5). -/
def Lane.doKnFma (ln : Lane) (d : Fin 16) (x y : Word) : Lane := ln.result d (fFma (ln.reg d) x y).w (ln.fl.fznv (fFma (ln.reg d) x y))
/-- FMA on a lane. -/
def execKnFma (lane : Fin 8) (d a : Fin 16) (b : KArg) (s : State) : Host.Outcome State Fault Refusal :=
  .next (s.knLane lane (encB 0x45 d a b) fun ln => ln.doKnFma d (ln.reg a) (ln.arg .f b))

/-- FNEG: B with the sign inverted (Table 4-5). -/
def Lane.doKnFneg (ln : Lane) (d : Fin 16) (y : Word) : Lane := ln.result d (fNeg y) (ln.fl.fzn (fNeg y))
/-- FNEG on a lane. -/
def execKnFneg (lane : Fin 8) (d : Fin 16) (b : KArg) (s : State) : Host.Outcome State Fault Refusal :=
  .next (s.knLane lane (encB 0x46 d 0 b) fun ln => ln.doKnFneg d (ln.arg .f b))

/-- FABS: B with the sign cleared (Table 4-5). -/
def Lane.doKnFabs (ln : Lane) (d : Fin 16) (y : Word) : Lane := ln.result d (fAbs y) (ln.fl.fzn (fAbs y))
/-- FABS on a lane. -/
def execKnFabs (lane : Fin 8) (d : Fin 16) (b : KArg) (s : State) : Host.Outcome State Fault Refusal :=
  .next (s.knLane lane (encB 0x47 d 0 b) fun ln => ln.doKnFabs d (ln.arg .f b))

/-- FMIN: the minimum of W(A) and B (Table 4-5). -/
def Lane.doKnFmin (ln : Lane) (d : Fin 16) (x y : Word) : Lane := ln.result d (fMin x y) (ln.fl.fzn (fMin x y))
/-- FMIN on a lane. -/
def execKnFmin (lane : Fin 8) (d a : Fin 16) (b : KArg) (s : State) : Host.Outcome State Fault Refusal :=
  .next (s.knLane lane (encB 0x48 d a b) fun ln => ln.doKnFmin d (ln.reg a) (ln.arg .f b))

/-- FMAX: the maximum of W(A) and B (Table 4-5). -/
def Lane.doKnFmax (ln : Lane) (d : Fin 16) (x y : Word) : Lane := ln.result d (fMax x y) (ln.fl.fzn (fMax x y))
/-- FMAX on a lane. -/
def execKnFmax (lane : Fin 8) (d a : Fin 16) (b : KArg) (s : State) : Host.Outcome State Fault Refusal :=
  .next (s.knLane lane (encB 0x49 d a b) fun ln => ln.doKnFmax d (ln.reg a) (ln.arg .f b))

/-- FLIM: FMIN(FMAX(W(D), W(A)), B) (Table 4-5). -/
def Lane.doKnFlim (ln : Lane) (d : Fin 16) (x y : Word) : Lane := ln.result d (fLim (ln.reg d) x y) (ln.fl.fzn (fLim (ln.reg d) x y))
/-- FLIM on a lane. -/
def execKnFlim (lane : Fin 8) (d a : Fin 16) (b : KArg) (s : State) : Host.Outcome State Fault Refusal :=
  .next (s.knLane lane (encB 0x4A d a b) fun ln => ln.doKnFlim d (ln.reg a) (ln.arg .f b))

/-- FCMP: the flags of Table 4-2 (Table 4-5). -/
def Lane.doKnFcmp (ln : Lane) (x y : Word) : Lane := { ln with fl := ln.fl.fcmp x y }
/-- FCMP on a lane. -/
def execKnFcmp (lane : Fin 8) (a : Fin 16) (b : KArg) (s : State) : Host.Outcome State Fault Refusal :=
  .next (s.knLane lane (encB 0x4B 0 a b) fun ln => ln.doKnFcmp (ln.reg a) (ln.arg .f b))

/-- ITOF: INT32 B as REAL32 (Table 4-5). -/
def Lane.doKnItof (ln : Lane) (d : Fin 16) (y : Word) : Lane := ln.result d (itof y) (ln.fl.fzn (itof y))
/-- ITOF on a lane. -/
def execKnItof (lane : Fin 8) (d : Fin 16) (b : KArg) (s : State) : Host.Outcome State Fault Refusal :=
  .next (s.knLane lane (encB 0x4C d 0 b) fun ln => ln.doKnItof d (ln.arg .s b))

/-- UTOF: UINT32 B as REAL32 (Table 4-5). -/
def Lane.doKnUtof (ln : Lane) (d : Fin 16) (y : Word) : Lane := ln.result d (utof y) (ln.fl.fzn (utof y))
/-- UTOF on a lane. -/
def execKnUtof (lane : Fin 8) (d : Fin 16) (b : KArg) (s : State) : Host.Outcome State Fault Refusal :=
  .next (s.knLane lane (encB 0x4D d 0 b) fun ln => ln.doKnUtof d (ln.arg .z b))

/-- FTOI: REAL32 B as INT32, truncated and saturated (Table 4-5). -/
def Lane.doKnFtoi (ln : Lane) (d : Fin 16) (y : Word) : Lane := ln.result d (ftoi y).w (ln.fl.znv (ftoi y).w (ftoi y).v)
/-- FTOI on a lane. -/
def execKnFtoi (lane : Fin 8) (d : Fin 16) (b : KArg) (s : State) : Host.Outcome State Fault Refusal :=
  .next (s.knLane lane (encB 0x4E d 0 b) fun ln => ln.doKnFtoi d (ln.arg .f b))

/-- FTOU: REAL32 B as UINT32, truncated and saturated (Table 4-5). -/
def Lane.doKnFtou (ln : Lane) (d : Fin 16) (y : Word) : Lane := ln.result d (ftou y).w (ln.fl.znv (ftou y).w (ftou y).v)
/-- FTOU on a lane. -/
def execKnFtou (lane : Fin 8) (d : Fin 16) (b : KArg) (s : State) : Host.Outcome State Fault Refusal :=
  .next (s.knLane lane (encB 0x4F d 0 b) fun ln => ln.doKnFtou d (ln.arg .f b))

/-- FRND: B rounded to an integral value, ties to even (Table 4-5). -/
def Lane.doKnFrnd (ln : Lane) (d : Fin 16) (y : Word) : Lane := ln.result d (fRnd y).w (ln.fl.fznv (fRnd y))
/-- FRND on a lane. -/
def execKnFrnd (lane : Fin 8) (d : Fin 16) (b : KArg) (s : State) : Host.Outcome State Fault Refusal :=
  .next (s.knLane lane (encB 0x50 d 0 b) fun ln => ln.doKnFrnd d (ln.arg .f b))

end Sys2Proof.Machine
end

