-- ==== Sys2Proof/Machine/MillOps.lean ====
section
/-! DEFINITION. The DMA engine Mill: descriptors, their checks, beats, and the ends of a descriptor (R451 to R455). -/

namespace Sys2Proof.Machine

/-! ## Descriptors (R452) -/

/-- A descriptor's fields (Table 16-7). -/
structure MillDesc where
  next : Nat
  src : Nat
  dst : Nat
  cntWord : Nat
  ctl : Nat
deriving DecidableEq, Repr

/-- The descriptor at an address. -/
def State.millDesc (s : State) (a : Nat) : MillDesc :=
  let w := fun k => leNat (s.bytes (a + 4 * k) 4)
  ⟨w 0, w 1, w 2, w 3, w 4⟩

def MillDesc.count (d : MillDesc) : Nat := bitsOf d.cntWord 0 24
def MillDesc.sinc (d : MillDesc) : Bool := d.ctl.testBit 0
def MillDesc.dinc (d : MillDesc) : Bool := d.ctl.testBit 1
def MillDesc.irq (d : MillDesc) : Bool := d.ctl.testBit 2
/-- Both addresses increment: 8-byte beats (R454). -/
def MillDesc.wide (d : MillDesc) : Bool := d.sinc && d.dinc

/-- Codes of Table 16-12. -/
def miDONE : Nat := 0x1010
def miCOUNT_ZERO : Nat := 0x1011
def miRANGE : Nat := 0x1012
def miALIGN : Nat := 0x1013
def miDESC : Nat := 0x1014
def miBUS_ERR : Nat := 0x1015
def miERR_LAST_BEAT : Nat := 0x1016

/-- Bytes that lie in SUP RAM, or in DRAM allocated to the channel's tenant. Log entry 23 (DESIGN CHOICE, DEDUCED). -/
def State.millPlace (s : State) (ch : Fin 16) (a n : Nat) : Bool :=
  (regionOfRange a n == some .supRam || regionOfRange a n == some .dram) && s.admitsAccess (.mill ch) .write a n

/-- The bytes that a side of the transfer reaches: its range, or the word at a fixed address. -/
def MillDesc.span (d : MillDesc) (inc : Bool) : Nat := if inc then d.count else 4

/-- The checks of R453, in order: the code of the first fault. Log entry 23 (DESIGN CHOICE, DEDUCED). -/
def State.millFault (s : State) (ch : Fin 16) (a : Nat) : Option Nat :=
  let d := s.millDesc a
  if a % 32 ≠ 0 ∨ !s.millPlace ch a 32 then some miDESC
  else if d.count = 0 then some miCOUNT_ZERO
  else if bitsOf d.cntWord 24 8 ≠ 0 ∨ 8 ≤ d.ctl then some miDESC
  else if !d.wide ∧ (d.src % 4 ≠ 0 ∨ d.dst % 4 ≠ 0 ∨ d.count % 4 ≠ 0) then some miALIGN
  else if !s.admitsAccess (.mill ch) .read d.src (d.span d.sinc) ∨ !s.admitsAccess (.mill ch) .write d.dst (d.span d.dinc) then
    some miRANGE
  else none

/-! ## Beats (R454) -/

/-- The number of read beats and of write beats. -/
def MillDesc.reads (d : MillDesc) : Nat := if d.wide then (d.src % 8 + d.count + 7) / 8 else d.count / 4
def MillDesc.writes (d : MillDesc) : Nat := if d.wide then (d.dst % 8 + d.count + 7) / 8 else d.count / 4

/-- The bytes of the range that precede write beat `k`: those issued before it. -/
def MillDesc.before (d : MillDesc) (k : Nat) : Nat := if d.wide then min d.count (8 * k - d.dst % 8) else min d.count (4 * k)

/-- The address of the first byte that write beat `k` enables, and the number of bytes it enables. -/
def MillDesc.writeAddr (d : MillDesc) (k : Nat) : Nat := if d.dinc then d.dst + d.before k else d.dst
def MillDesc.writeLen (d : MillDesc) (k : Nat) : Nat := d.before (k + 1) - d.before k

/-- The address and size of read beat `r`. -/
def MillDesc.readAddr (d : MillDesc) (r : Nat) : Nat :=
  if d.wide then d.src / 8 * 8 + 8 * r else if d.sinc then d.src + 4 * r else d.src
def MillDesc.readSize (d : MillDesc) : Nat := if d.wide then 8 else 4

/-- The read beats that the first `k` write beats need. -/
def MillDesc.needs (d : MillDesc) (k : Nat) : Nat := if !d.wide then k else if d.before k = 0 then 0 else (d.src % 8 + d.before k + 7) / 8

/-- Bytes as read; one that an earlier beat of this descriptor has written, which the read may precede or follow, is open.
Log entry 23 (DESIGN CHOICE, DEDUCED). -/
def overlapBytes (s : State) (lo hi a : Nat) : List Byte → List Byte
  | [] => []
  | b :: t => (if lo ≤ a ∧ a < hi then BitVec.ofNat 8 (Config.freeValue (s.free + (a - lo))) else b) :: overlapBytes s lo hi (a + 1) t

/-- `n` read beats from `r` on, with the bytes of the source range that they bring; `k` write beats have been issued. -/
def State.millReads (s : State) (ch : Fin 16) (d : MillDesc) (k r : Nat) : Nat → State × List Byte
  | 0 => (s, [])
  | n + 1 =>
    let a := d.readAddr r
    let x := s.readAt (.mill ch) 0 .read a d.readSize
    let hi := if d.dinc then d.dst + d.before k else if k = 0 then d.dst else d.dst + 4
    let hit : Bool := decide (d.dst < a + d.readSize) && decide (a < hi)
    let bs := if hit then overlapBytes x.1 d.dst hi a x.2 else x.2
    let s := if hit then x.1.tookOpens (hi - d.dst) else x.1
    let kept := if d.wide then (bs.take (d.src + d.count - a)).drop (d.src - a) else bs
    let y := s.millReads ch d k (r + 1) n
    (y.1, kept ++ y.2)

/-- `n` write beats from `k` on, with the reads that they need; `buf` holds the bytes read and not yet written. The bytes of
beats from `bad` on are open at the destination. Log entry 23 (DESIGN CHOICE, DEDUCED). -/
def State.millWrites (s : State) (ch : Fin 16) (d : MillDesc) (bad k : Nat) (buf : List Byte) : Nat → State
  | 0 => s
  | n + 1 =>
    let x := s.millReads ch d k (d.needs k) (d.needs (k + 1) - d.needs k)
    let buf := buf ++ x.2
    let len := d.writeLen k
    let s := x.1
    let s := if k < bad then s.writeAt (.mill ch) 0 (d.writeAddr k) (buf.take len)
      else (s.tookOpens len).writeAt (.mill ch) 0 (d.writeAddr k) (openBytes s len)
    let s := s.wr (MILL_CH_CNT_CNT ch.val) (d.count - d.before (k + 1))
    let s := s.wr (MILL_CH_BYTES_BYTES ch.val) ((s.rd (MILL_CH_BYTES_BYTES ch.val) + len) % 2 ^ 32)
    s.millWrites ch d bad (k + 1) (buf.drop len) n

/-- The first write beat that the moment refuses: into the code bank that runs (R453). -/
def State.millRefused (s : State) (d : MillDesc) : Option Nat :=
  if regionOf d.dst = some .code then
    (List.range d.writes).find? fun k => !s.admitsNow .write (d.writeAddr k) (d.writeLen k)
  else none

/-! ## Ends -/

/-- The code of the descriptor in STAT, and no channel running. -/
def State.millStopped (s : State) (ch code st : Nat) : State :=
  let s := ((s.wr (MILL_CH_STAT_CODE ch) code).wr (MILL_CH_STAT_STATE ch) st).lower MILL_STAT_BUSY
  { s.wr MILL_STAT_ACT 0 with mill := ⟨none⟩ }

/-- A chain halts: MILL_EVT.ERRn and MI_ERROR (R453, R455). -/
def State.millHalt (s : State) (ch code : Nat) : State :=
  ((s.millStopped ch code miHALTED).raiseBit MILL_EVT_ERR ch).log srcMILL 0x1043 (s.millTen ch) [.n1 ch, .n2 code]

/-- STATUS and REMAIN written back. -/
def State.millBack (s : State) (a code remain : Nat) : State :=
  (s.setBytes (a + 0x14) (leBytes 4 code)).setBytes (a + 0x18) (leBytes 4 remain)

/-- A fault before any byte is moved: STATUS is written back where it lies in the places of R452.
Log entry 23 (DESIGN CHOICE, DEDUCED). -/
def State.millRefuse (s : State) (ch : Fin 16) (a code : Nat) : State :=
  let s := if s.millPlace ch (a + 0x14) 4 then s.setBytes (a + 0x14) (leBytes 4 code) else s
  s.millHalt ch.val code

/-- A bus error: ERR_LAST_BEAT where only the last write beat has failed, after every other was answered, else MI_BUS_ERR.
`issued` write beats were issued, the last `out` of them are outstanding (R455). Log entry 23 (DESIGN CHOICE, DEDUCED). -/
def State.millBusError (s : State) (ch : Fin 16) (a : Nat) (d : MillDesc) (write : Bool) (beat issued out : Nat) : State :=
  let last : Bool := write && beat + 1 == d.writes && out == 1
  let code := if last then miERR_LAST_BEAT else miBUS_ERR
  let remain := d.count - d.before issued
  (s.millBack a code remain).millHalt ch.val code

/-- A descriptor whose bytes have all been moved: IRQ, and then NEXT or the end of the chain. -/
def State.millDone (s : State) (ch : Fin 16) (a : Nat) (d : MillDesc) : State :=
  let n := ch.val
  let s := s.millBack a miDONE 0
  let s := if d.irq ∨ d.next = 0 then s.raiseBit MILL_EVT_DONE n else s
  if d.next = 0 then s.millStopped n miDONE miIDLE else (s.wr (MILL_CH_STAT_CODE n) miDONE).wr (MILL_CH_CUR_ADDR n) d.next

/-- The end of the running channel's descriptor (R453, R454). A beat that the moment refuses ends it with a bus error; how many
of the next beats have been issued by then is open. Log entry 23 (DESIGN CHOICE, DEDUCED). -/
def State.millEnd (s : State) : State :=
  match s.mill.running with
  | none => s
  | some n =>
    let ch : Fin 16 := Fin.ofNat 16 n
    let a := s.rd (MILL_CH_CUR_ADDR ch.val)
    let d := s.millDesc a
    match s.millFault ch a with
    | some code =>
      let s := if a % 32 = 0 ∧ s.millPlace ch a 32 then s.wr (MILL_CH_CNT_CNT ch.val) d.count else s
      s.millRefuse ch a code
    | none =>
      let s := s.wr (MILL_CH_CNT_CNT ch.val) d.count
      match s.millRefused d with
      | none => (s.millWrites ch d d.writes 0 [] d.writes).millDone ch a d
      | some k =>
        let issued := min d.writes (k + 1 + s.openValue % 4)
        let s := (s.tookOpen.millWrites ch d k 0 [] k).bump HLT_ERR_A_FABRIC
        let s := s.wr (MILL_CH_CNT_CNT ch.val) (d.count - d.before issued)
        let s := s.wr (MILL_CH_BYTES_BYTES ch.val) ((s.rd (MILL_CH_BYTES_BYTES ch.val) + (d.before issued - d.before k)) % 2 ^ 32)
        let open_ := d.before issued - d.before k
        let s := (s.tookOpens open_).setBytes (d.dst + d.before k) (openBytes s open_)
        s.millBusError ch a d true k issued (issued - k)

/-- What a failed access leaves besides: the record of an uncorrectable error (R25), or a fabric error (R22). -/
def State.millCause (s : State) (ch : Fin 16) (a : Nat) (ecc : Bool) : State :=
  if !ecc then s.bump HLT_ERR_A_FABRIC
  else if regionOf a = some .points then s.pointEcc ((a - 0x50000000) / 32)
  else s.memFault a (s.millTen ch.val)

/-- A bus error met by the running channel (R455); one whose beats the descriptor does not have changes nothing.
Log entry 23 (DESIGN CHOICE, DEDUCED). -/
def State.millError (s : State) (err : MillErr) (ecc : Bool) : State :=
  match s.mill.running with
  | none => s
  | some n =>
    let ch : Fin 16 := Fin.ofNat 16 n
    let a := s.rd (MILL_CH_CUR_ADDR ch.val)
    let d := s.millDesc a
    let inPlace : Bool := a % 32 == 0 && s.millPlace ch a 32
    let ok := (s.millFault ch a).isNone
    let s0 := s.wr (MILL_CH_CNT_CNT ch.val) d.count
    match err with
    | .fetch =>
      if !inPlace then s
      else
        let left := s.openValue % 2 ^ 24
        let s := (s.tookOpen.wr (MILL_CH_CNT_CNT ch.val) left).millCause ch a ecc
        (s.millBack a miBUS_ERR left).millHalt ch.val miBUS_ERR
    | .read beat issued out =>
      if !ok || decide (d.reads ≤ beat) || decide (d.writes < issued) || decide (beat < d.needs issued) || decide (issued < out.val)
      then s
      else
        let s := s0.millWrites ch d (issued - out.val) 0 [] issued
        let s := (s.millReads ch d issued (d.needs issued) (beat - d.needs issued)).1
        (s.millCause ch (d.readAddr beat) ecc).millBusError ch a d false beat issued out.val
    | .write beat issued out =>
      if !ok || decide (d.writes < issued) || decide (issued ≤ beat) || decide (beat + out.val < issued) || decide (issued < out.val)
      then s
      else
        let s := s0.millWrites ch d (issued - out.val) 0 [] issued
        (s.millCause ch (d.writeAddr beat) ecc).millBusError ch a d true beat issued out.val
    | .writeBack =>
      if !ok || (s.millRefused d).isSome then s
      else
        let s := s0.millWrites ch d d.writes 0 [] d.writes
        let s := s.millCause ch (a + 0x14) ecc
        ((s.tookOpens 8).setBytes (a + 0x14) (openBytes s 8)).millHalt ch.val miDESC

/-- The lowest pending channel starts where none runs (R451). -/
def State.millGo (s : State) : State :=
  match s.mill.running, (List.range 16).find? fun n => (s.rd MILL_STAT_PEND).testBit n with
  | none, some n =>
    let s := s.wr MILL_STAT_PEND (s.rd MILL_STAT_PEND - 2 ^ n)
    let s := ((s.wr (MILL_CH_STAT_STATE n) miRUNNING).raise MILL_STAT_BUSY).wr MILL_STAT_ACT n
    { s with mill := ⟨some n⟩ }
  | _, _ => s

end Sys2Proof.Machine
end

