-- ==== Sys2Proof/Machine/Mill.lean ====
section
/-! DEFINITION. The meanings of the commands of the DMA engine Mill (spec/16, R451 to R455). -/

namespace Sys2Proof.Machine

/-- MILL_START: bits 31 to 5 of a descriptor address written to MILL_CHn_START (R451). -/
def execMillStart (ch : Fin 16) (desc : BitVec 27) (s : State) : Host.Outcome State Fault Refusal :=
  .next (s.millStart ch.val (32 * desc.toNat))

/-- MILL_CHANNEL_START (R451). -/
def execMillChannelStart (s : State) : Host.Outcome State Fault Refusal := .next (if s.powered then s.millGo else s)

/-- DESCRIPTOR_END (R453, R454). -/
def execDescriptorEnd (s : State) : Host.Outcome State Fault Refusal := .next (if s.powered then s.millEnd else s)

/-- MILL_BUS_ERROR: where the error is met, and whether its cause is an uncorrectable memory error (R455). -/
def execMillBusError (err : MillErr) (ecc : Bool) (s : State) : Host.Outcome State Fault Refusal :=
  .next (if s.powered then s.millError err ecc else s)

end Sys2Proof.Machine
end

