-- ==== Sys2Proof/Machine/Dispatch.lean ====
section
/-! DEFINITION. One arm per command: a direct call of its meaning. -/

namespace Sys2Proof.Machine

/-- The effect of a command on everything but the queue. -/
def exec (i : Instr) (s : State) : Host.Outcome State Fault Refusal :=
  match i with
  | .registerWrite addr size value => Sys2Proof.Machine.execRegisterWrite addr size value s
  | .w1cRegisterWrite addr value hwSet => Sys2Proof.Machine.execW1cRegisterWrite addr value hwSet s
  | .rcRegisterRead addr hwSet => Sys2Proof.Machine.execRcRegisterRead addr hwSet s
  | .fabricAccess master tag access addr size value ecc => Sys2Proof.Machine.execFabricAccess master tag access addr size value ecc s
  | .supWatchdogExpiry => Sys2Proof.Machine.execSupWatchdogExpiry s
  | .supRestartComplete => Sys2Proof.Machine.execSupRestartComplete s
  | .hltWdogKick => Sys2Proof.Machine.execHltWdogKick s
  | .referenceZeroCrossing freq rms angle => Sys2Proof.Machine.execReferenceZeroCrossing freq rms angle s
  | .mainsLossTimeout => Sys2Proof.Machine.execMainsLossTimeout s
  | .lineCycleBoundary sec ns => Sys2Proof.Machine.execLineCycleBoundary sec ns s
  | .cload arg => Sys2Proof.Machine.execCload arg s
  | .siteResync => Sys2Proof.Machine.execSiteResync s
  | .announcementReceived ann localTime => Sys2Proof.Machine.execAnnouncementReceived ann localTime s
  | .siteLoss => Sys2Proof.Machine.execSiteLoss s
  | .siteMasterElection => Sys2Proof.Machine.execSiteMasterElection s
  | .schedulerEnable => Sys2Proof.Machine.execSchedulerEnable s
  | .schedulerDisable => Sys2Proof.Machine.execSchedulerDisable s
  | .schedulerEntryWrite bank index word value => Sys2Proof.Machine.execSchedulerEntryWrite bank index word value s
  | .swapArm xHi => Sys2Proof.Machine.execSwapArm xHi s
  | .bankSwap => Sys2Proof.Machine.execBankSwap s
  | .switchoverEntryArm xHi => Sys2Proof.Machine.execSwitchoverEntryArm xHi s
  | .switchoverEntryCancel => Sys2Proof.Machine.execSwitchoverEntryCancel s
  | .switchoverPoint => Sys2Proof.Machine.execSwitchoverPoint s
  | .ltuNowLoRead => Sys2Proof.Machine.execLtuNowLoRead s
  | .ltuSofsLoRead => Sys2Proof.Machine.execLtuSofsLoRead s
  | .pointRead port tag handle elem ecc => Sys2Proof.Machine.execPointRead port tag handle elem ecc s
  | .transactionWrite port tag handle elem type value => Sys2Proof.Machine.execTransactionWrite port tag handle elem type value s
  | .tableWindowRead port tag handle word ecc => Sys2Proof.Machine.execTableWindowRead port tag handle word ecc s
  | .tableWindowWrite port tag handle word size value => Sys2Proof.Machine.execTableWindowWrite port tag handle word size value s
  | .force tag handle => Sys2Proof.Machine.execForce tag handle s
  | .release tag handle => Sys2Proof.Machine.execRelease tag handle s
  | .forceRecordComplete handle => Sys2Proof.Machine.execForceRecordComplete handle s
  | .taskActivation task => Sys2Proof.Machine.execTaskActivation task s
  | .activationDispatch => Sys2Proof.Machine.execActivationDispatch s
  | .outputCommit task => Sys2Proof.Machine.execOutputCommit task s
  | .deadlineOverrun task => Sys2Proof.Machine.execDeadlineOverrun task s
  | .cxeRestart ten => Sys2Proof.Machine.execCxeRestart ten s
  | .cxeRestore bank => Sys2Proof.Machine.execCxeRestore bank s
  | .codeFetchFault lane => Sys2Proof.Machine.execCodeFetchFault lane s
  | .snapshotComplete us faulty => Sys2Proof.Machine.execSnapshotComplete us faulty s
  | .timerCellRefresh => Sys2Proof.Machine.execTimerCellRefresh s
  | .loadPortWrite value => Sys2Proof.Machine.execLoadPortWrite value s
  | .valueChangeData ten n wofs => Sys2Proof.Machine.execValueChangeData ten n wofs s
  | .valueChangePreset ten cell => Sys2Proof.Machine.execValueChangePreset ten cell s
  | .valueChangeApply => Sys2Proof.Machine.execValueChangeApply s
  | .exchangeArm twinX => Sys2Proof.Machine.execExchangeArm twinX s
  | .knNop lane => Sys2Proof.Machine.execKnNop lane s
  | .knExt lane hi => Sys2Proof.Machine.execKnExt lane hi s
  | .knEnd lane => Sys2Proof.Machine.execKnEnd lane s
  | .knBr lane cond imm => Sys2Proof.Machine.execKnBr lane cond imm s
  | .knCall lane routine => Sys2Proof.Machine.execKnCall lane routine s
  | .knRet lane => Sys2Proof.Machine.execKnRet lane s
  | .knLoop lane d n => Sys2Proof.Machine.execKnLoop lane d n s
  | .knEndl lane => Sys2Proof.Machine.execKnEndl lane s
  | .knBrk lane cond => Sys2Proof.Machine.execKnBrk lane cond s
  | .knCase lane a n => Sys2Proof.Machine.execKnCase lane a n s
  | .knSet lane d cond => Sys2Proof.Machine.execKnSet lane d cond s
  | .knSleep lane a => Sys2Proof.Machine.execKnSleep lane a s
  | .knLog lane a event => Sys2Proof.Machine.execKnLog lane a event s
  | .knLta lane d item => Sys2Proof.Machine.execKnLta lane d item s
  | .knMov lane d b => Sys2Proof.Machine.execKnMov lane d b s
  | .knLdd lane d a imm ecc => Sys2Proof.Machine.execKnLdd lane d a imm ecc s
  | .knStd lane d a imm => Sys2Proof.Machine.execKnStd lane d a imm s
  | .knAdd lane d a b => Sys2Proof.Machine.execKnAdd lane d a b s
  | .knSub lane d a b => Sys2Proof.Machine.execKnSub lane d a b s
  | .knMul lane d a b => Sys2Proof.Machine.execKnMul lane d a b s
  | .knMulh lane d a b => Sys2Proof.Machine.execKnMulh lane d a b s
  | .knDiv lane d a b => Sys2Proof.Machine.execKnDiv lane d a b s
  | .knDivu lane d a b => Sys2Proof.Machine.execKnDivu lane d a b s
  | .knMod lane d a b => Sys2Proof.Machine.execKnMod lane d a b s
  | .knModu lane d a b => Sys2Proof.Machine.execKnModu lane d a b s
  | .knNeg lane d b => Sys2Proof.Machine.execKnNeg lane d b s
  | .knAbs lane d b => Sys2Proof.Machine.execKnAbs lane d b s
  | .knMin lane d a b => Sys2Proof.Machine.execKnMin lane d a b s
  | .knMax lane d a b => Sys2Proof.Machine.execKnMax lane d a b s
  | .knMinu lane d a b => Sys2Proof.Machine.execKnMinu lane d a b s
  | .knMaxu lane d a b => Sys2Proof.Machine.execKnMaxu lane d a b s
  | .knLim lane d a b => Sys2Proof.Machine.execKnLim lane d a b s
  | .knCmp lane a b => Sys2Proof.Machine.execKnCmp lane a b s
  | .knAnd lane d a b => Sys2Proof.Machine.execKnAnd lane d a b s
  | .knOr lane d a b => Sys2Proof.Machine.execKnOr lane d a b s
  | .knXor lane d a b => Sys2Proof.Machine.execKnXor lane d a b s
  | .knNot lane d b => Sys2Proof.Machine.execKnNot lane d b s
  | .knShl lane d a b => Sys2Proof.Machine.execKnShl lane d a b s
  | .knShr lane d a b => Sys2Proof.Machine.execKnShr lane d a b s
  | .knSar lane d a b => Sys2Proof.Machine.execKnSar lane d a b s
  | .knTst lane a b => Sys2Proof.Machine.execKnTst lane a b s
  | .knBool lane d b => Sys2Proof.Machine.execKnBool lane d b s
  | .knFadd lane d a b => Sys2Proof.Machine.execKnFadd lane d a b s
  | .knFsub lane d a b => Sys2Proof.Machine.execKnFsub lane d a b s
  | .knFmul lane d a b => Sys2Proof.Machine.execKnFmul lane d a b s
  | .knFdiv lane d a b => Sys2Proof.Machine.execKnFdiv lane d a b s
  | .knFsqrt lane d b => Sys2Proof.Machine.execKnFsqrt lane d b s
  | .knFma lane d a b => Sys2Proof.Machine.execKnFma lane d a b s
  | .knFneg lane d b => Sys2Proof.Machine.execKnFneg lane d b s
  | .knFabs lane d b => Sys2Proof.Machine.execKnFabs lane d b s
  | .knFmin lane d a b => Sys2Proof.Machine.execKnFmin lane d a b s
  | .knFmax lane d a b => Sys2Proof.Machine.execKnFmax lane d a b s
  | .knFlim lane d a b => Sys2Proof.Machine.execKnFlim lane d a b s
  | .knFcmp lane a b => Sys2Proof.Machine.execKnFcmp lane a b s
  | .knItof lane d b => Sys2Proof.Machine.execKnItof lane d b s
  | .knUtof lane d b => Sys2Proof.Machine.execKnUtof lane d b s
  | .knFtoi lane d b => Sys2Proof.Machine.execKnFtoi lane d b s
  | .knFtou lane d b => Sys2Proof.Machine.execKnFtou lane d b s
  | .knFrnd lane d b => Sys2Proof.Machine.execKnFrnd lane d b s
  | .knPrd lane d elem handle => Sys2Proof.Machine.execKnPrd lane d elem handle s
  | .knPwr lane d a withQual handle => Sys2Proof.Machine.execKnPwr lane d a withQual handle s
  | .knTmr lane d a kind cell => Sys2Proof.Machine.execKnTmr lane d a kind cell s
  | .knTet lane d cell => Sys2Proof.Machine.execKnTet lane d cell s
  | .knTps lane a cell => Sys2Proof.Machine.execKnTps lane a cell s
  | .knTrs lane cell => Sys2Proof.Machine.execKnTrs lane cell s
  | .knEdg lane d a kind cell => Sys2Proof.Machine.execKnEdg lane d a kind cell s
  | .loopSample loop xtal exec => Sys2Proof.Machine.execLoopSample loop xtal exec s
  | .loopAuto ten loop => Sys2Proof.Machine.execLoopAuto ten loop s
  | .loopManual ten loop val => Sys2Proof.Machine.execLoopManual ten loop val s
  | .loopManout ten loop => Sys2Proof.Machine.execLoopManout ten loop s
  | .loopReset ten loop => Sys2Proof.Machine.execLoopReset ten loop s
  | .loopCoef ten loop region => Sys2Proof.Machine.execLoopCoef ten loop region s
  | .loopRequestApply loop => Sys2Proof.Machine.execLoopRequestApply loop s
  | .meterCycleClose samples currents voltages => Sys2Proof.Machine.execMeterCycleClose samples currents voltages s
  | .meterIntervalLatch ch => Sys2Proof.Machine.execMeterIntervalLatch ch s
  | .reportStore orphanAfter => Sys2Proof.Machine.execReportStore orphanAfter s
  | .meterPreset ten ch k => Sys2Proof.Machine.execMeterPreset ten ch k s
  | .presetApply => Sys2Proof.Machine.execPresetApply s
  | .meterCheckpoint => Sys2Proof.Machine.execMeterCheckpoint s
  | .accumulatorEcc ch => Sys2Proof.Machine.execAccumulatorEcc ch s
  | .inputUpdate ch sensed selfTest => Sys2Proof.Machine.execInputUpdate ch sensed selfTest s
  | .pulseEdge ch => Sys2Proof.Machine.execPulseEdge ch s
  | .diChange ch level sample => Sys2Proof.Machine.execDiChange ch level sample s
  | .changeWindowEnd ch => Sys2Proof.Machine.execChangeWindowEnd ch s
  | .outputApplication ch => Sys2Proof.Machine.execOutputApplication ch s
  | .doShort ch => Sys2Proof.Machine.execDoShort ch s
  | .doRetry ch => Sys2Proof.Machine.execDoRetry ch s
  | .doOpenLoad ch => Sys2Proof.Machine.execDoOpenLoad ch s
  | .aoVShort ch => Sys2Proof.Machine.execAoVShort ch s
  | .aoIOpen ch => Sys2Proof.Machine.execAoIOpen ch s
  | .outputFaultClear ch fault => Sys2Proof.Machine.execOutputFaultClear ch fault s
  | .vfldLow bank mv10 => Sys2Proof.Machine.execVfldLow bank mv10 s
  | .vfldOk bank mv10 => Sys2Proof.Machine.execVfldOk bank mv10 s
  | .fioReset ten ch => Sys2Proof.Machine.execFioReset ten ch s
  | .busWindowOpening win => Sys2Proof.Machine.execBusWindowOpening win s
  | .busWindowClose win => Sys2Proof.Machine.execBusWindowClose win s
  | .frameStart port obj sof => Sys2Proof.Machine.execFrameStart port obj sof s
  | .frameSent port tec rec_ => Sys2Proof.Machine.execFrameSent port tec rec_ s
  | .arbitrationLost port => Sys2Proof.Machine.execArbitrationLost port s
  | .canError port lec tec rec_ => Sys2Proof.Machine.execCanError port lec tec rec_ s
  | .busOn port => Sys2Proof.Machine.execBusOn port s
  | .frameReceived port frame start full tec rec_ => Sys2Proof.Machine.execFrameReceived port frame start full tec rec_ s
  | .silenceTimeout obj => Sys2Proof.Machine.execSilenceTimeout obj s
  | .rs485Collision port => Sys2Proof.Machine.execRs485Collision port s
  | .queryReplyTimeout port => Sys2Proof.Machine.execQueryReplyTimeout port s
  | .daliAnswerWindowEnd port answer => Sys2Proof.Machine.execDaliAnswerWindowEnd port answer s
  | .daliCollision port => Sys2Proof.Machine.execDaliCollision port s
  | .daliBusDown port => Sys2Proof.Machine.execDaliBusDown port s
  | .daliBusUp port => Sys2Proof.Machine.execDaliBusUp port s
  | .canWake port seen => Sys2Proof.Machine.execCanWake port seen s
  | .frameCancel ten obj => Sys2Proof.Machine.execFrameCancel ten obj s
  | .busRecover ten target => Sys2Proof.Machine.execBusRecover ten target s
  | .ethernetFrameReceived port bytes fcsOk => Sys2Proof.Machine.execEthernetFrameReceived port bytes fcsOk s
  | .transmitDescriptor addr => Sys2Proof.Machine.execTransmitDescriptor addr s
  | .ethernetFrameSent port sec ns => Sys2Proof.Machine.execEthernetFrameSent port sec ns s
  | .linkUp port speed => Sys2Proof.Machine.execLinkUp port speed s
  | .linkDown port => Sys2Proof.Machine.execLinkDown port s
  | .downshift port rx tx => Sys2Proof.Machine.execDownshift port rx tx s
  | .upshift port rx tx => Sys2Proof.Machine.execUpshift port rx tx s
  | .lpiEntry port => Sys2Proof.Machine.execLpiEntry port s
  | .ringTestFrame => Sys2Proof.Machine.execRingTestFrame s
  | .ringOpen => Sys2Proof.Machine.execRingOpen s
  | .ringClose => Sys2Proof.Machine.execRingClose s
  | .ringControlFrame => Sys2Proof.Machine.execRingControlFrame s
  | .addressAging => Sys2Proof.Machine.execAddressAging s
  | .ptpSyncChange sync p0 p1 ofs => Sys2Proof.Machine.execPtpSyncChange sync p0 p1 ofs s
  | .uptFrameReceived => Sys2Proof.Machine.execUptFrameReceived s
  | .uptRead => Sys2Proof.Machine.execUptRead s
  | .uptWrite => Sys2Proof.Machine.execUptWrite s
  | .uptSubscribe => Sys2Proof.Machine.execUptSubscribe s
  | .uptNotice => Sys2Proof.Machine.execUptNotice s
  | .uptEvent localTime => Sys2Proof.Machine.execUptEvent localTime s
  | .uptCommand => Sys2Proof.Machine.execUptCommand s
  | .uptResponse => Sys2Proof.Machine.execUptResponse s
  | .reassemblyTimeout => Sys2Proof.Machine.execReassemblyTimeout s
  | .subscribeRefresh => Sys2Proof.Machine.execSubscribeRefresh s
  | .subscribeRetry tid => Sys2Proof.Machine.execSubscribeRetry tid s
  | .subscriptionStale sub => Sys2Proof.Machine.execSubscriptionStale sub s
  | .periodicNotice => Sys2Proof.Machine.execPeriodicNotice s
  | .changeNotice addr subno => Sys2Proof.Machine.execChangeNotice addr subno s
  | .publicationDrop => Sys2Proof.Machine.execPublicationDrop s
  | .pairWatchChange level watch4 ns => Sys2Proof.Machine.execPairWatchChange level watch4 ns s
  | .coldTakeoverTimeout watch4 => Sys2Proof.Machine.execColdTakeoverTimeout watch4 s
  | .outgoingStageDisable => Sys2Proof.Machine.execOutgoingStageDisable s
  | .holdoffExpiry => Sys2Proof.Machine.execHoldoffExpiry s
  | .goDeadline => Sys2Proof.Machine.execGoDeadline s
  | .pairRelease ten => Sys2Proof.Machine.execPairRelease ten s
  | .pairResync ten => Sys2Proof.Machine.execPairResync ten s
  | .heartbeatSend => Sys2Proof.Machine.execHeartbeatSend s
  | .heartbeatReceived head beat arrival => Sys2Proof.Machine.execHeartbeatReceived head beat arrival s
  | .linkFrameRetransmit => Sys2Proof.Machine.execLinkFrameRetransmit s
  | .pairLinkDown => Sys2Proof.Machine.execPairLinkDown s
  | .syncedLinkGrace => Sys2Proof.Machine.execSyncedLinkGrace s
  | .pairLinkUp twinEpoch delay => Sys2Proof.Machine.execPairLinkUp twinEpoch delay s
  | .ctrlFault head ns watch4 => Sys2Proof.Machine.execCtrlFault head ns watch4 s
  | .ctrlResync head => Sys2Proof.Machine.execCtrlResync head s
  | .ctrlReclaim head => Sys2Proof.Machine.execCtrlReclaim head s
  | .ctrlSwo head x => Sys2Proof.Machine.execCtrlSwo head x s
  | .ctrlGo head => Sys2Proof.Machine.execCtrlGo head s
  | .ctrlSwoCancel head => Sys2Proof.Machine.execCtrlSwoCancel head s
  | .ctrlImageReq head => Sys2Proof.Machine.execCtrlImageReq head s
  | .ctrlImageResult head record => Sys2Proof.Machine.execCtrlImageResult head record s
  | .mirrorOut head entries last => Sys2Proof.Machine.execMirrorOut head entries last s
  | .mirrorForce head handle op ten value fts => Sys2Proof.Machine.execMirrorForce head handle op ten value fts s
  | .mirrorLoop head recs => Sys2Proof.Machine.execMirrorLoop head recs s
  | .mirrorMeter head recs => Sys2Proof.Machine.execMirrorMeter head recs s
  | .mirrorGrn head body => Sys2Proof.Machine.execMirrorGrn head body s
  | .mirrorData head rows => Sys2Proof.Machine.execMirrorData head rows s
  | .mirrorDataEnd head rec_ => Sys2Proof.Machine.execMirrorDataEnd head rec_ s
  | .mirrorImg head seg last => Sys2Proof.Machine.execMirrorImg head seg last s
  | .plkOfsLoRead => Sys2Proof.Machine.execPlkOfsLoRead s
  | .plkSwoLoRead => Sys2Proof.Machine.execPlkSwoLoRead s
  | .fbeSofLoRead port => Sys2Proof.Machine.execFbeSofLoRead port s
  | .mtrLoRead ch acc => Sys2Proof.Machine.execMtrLoRead ch acc s
  | .ksuGenerate ten slot => Sys2Proof.Machine.execKsuGenerate ten slot s
  | .ksuImport ten slot aux => Sys2Proof.Machine.execKsuImport ten slot aux s
  | .ksuDerive ten slot aux => Sys2Proof.Machine.execKsuDerive ten slot aux s
  | .ksuExport ten slot aux => Sys2Proof.Machine.execKsuExport ten slot aux s
  | .ksuPubkey ten slot => Sys2Proof.Machine.execKsuPubkey ten slot s
  | .ksuInvalidate ten slot => Sys2Proof.Machine.execKsuInvalidate ten slot s
  | .ksuReclaim ten slot => Sys2Proof.Machine.execKsuReclaim ten slot s
  | .ksuAttest ten slot => Sys2Proof.Machine.execKsuAttest ten slot s
  | .ksuCert ten slot => Sys2Proof.Machine.execKsuCert ten slot s
  | .ksuSign ten slot => Sys2Proof.Machine.execKsuSign ten slot s
  | .ksuVerify ten slot => Sys2Proof.Machine.execKsuVerify ten slot s
  | .ksuEncrypt ten slot => Sys2Proof.Machine.execKsuEncrypt ten slot s
  | .ksuDecrypt ten slot => Sys2Proof.Machine.execKsuDecrypt ten slot s
  | .ksuMac ten slot => Sys2Proof.Machine.execKsuMac ten slot s
  | .ksuMacv ten slot => Sys2Proof.Machine.execKsuMacv ten slot s
  | .ksuLcset ten test challenge => Sys2Proof.Machine.execKsuLcset ten test challenge s
  | .ksuNonce ten => Sys2Proof.Machine.execKsuNonce ten s
  | .keyOperationComplete n => Sys2Proof.Machine.execKeyOperationComplete n s
  | .journalWaitExpiry => Sys2Proof.Machine.execJournalWaitExpiry s
  | .lifecycleReset found => Sys2Proof.Machine.execLifecycleReset found s
  | .tamperLock => Sys2Proof.Machine.execTamperLock s
  | .updateOpen src ten => Sys2Proof.Machine.execUpdateOpen src ten s
  | .updateWrite src ten pos => Sys2Proof.Machine.execUpdateWrite src ten pos s
  | .updateFinish src ten => Sys2Proof.Machine.execUpdateFinish src ten s
  | .verificationComplete bad => Sys2Proof.Machine.execVerificationComplete bad s
  | .updateInstall src ten => Sys2Proof.Machine.execUpdateInstall src ten s
  | .componentRestart found => Sys2Proof.Machine.execComponentRestart found s
  | .updateConfirm src ten => Sys2Proof.Machine.execUpdateConfirm src ten s
  | .updateFallback src ten => Sys2Proof.Machine.execUpdateFallback src ten s
  | .updateAbort src ten => Sys2Proof.Machine.execUpdateAbort src ten s
  | .updateStatus src ten => Sys2Proof.Machine.execUpdateStatus src ten s
  | .lockTimeout => Sys2Proof.Machine.execLockTimeout s
  | .trialWindowEnd => Sys2Proof.Machine.execTrialWindowEnd s
  | .restartEnableTimeout => Sys2Proof.Machine.execRestartEnableTimeout s
  | .eventRecord src code ten lt items => Sys2Proof.Machine.execEventRecord src code ten lt items s
  | .sramDrain => Sys2Proof.Machine.execSramDrain s
  | .stagingPageCopy nand => Sys2Proof.Machine.execStagingPageCopy nand s
  | .grnRead src ten count badPage => Sys2Proof.Machine.execGrnRead src ten count badPage s
  | .grnFreeze src ten => Sys2Proof.Machine.execGrnFreeze src ten s
  | .grnThaw src ten => Sys2Proof.Machine.execGrnThaw src ten s
  | .grnFlush ten => Sys2Proof.Machine.execGrnFlush ten s
  | .freezeTimeout => Sys2Proof.Machine.execFreezeTimeout s
  | .wellSet ten => Sys2Proof.Machine.execWellSet ten s
  | .wellArm ten alarm => Sys2Proof.Machine.execWellArm ten alarm s
  | .wellDisarm ten alarm => Sys2Proof.Machine.execWellDisarm ten alarm s
  | .backupMemoryWrite ten index value => Sys2Proof.Machine.execBackupMemoryWrite ten index value s
  | .wellCommandComplete => Sys2Proof.Machine.execWellCommandComplete s
  | .alarmFire alarm => Sys2Proof.Machine.execAlarmFire alarm s
  | .wellTimeWrap => Sys2Proof.Machine.execWellTimeWrap s
  | .backupSwitchover => Sys2Proof.Machine.execBackupSwitchover s
  | .backupReturn => Sys2Proof.Machine.execBackupReturn s
  | .wellSubsecRead => Sys2Proof.Machine.execWellSubsecRead s
  | .powerOnReset vin role lost found => Sys2Proof.Machine.execPowerOnReset vin role lost found s
  | .lockWaitEnd => Sys2Proof.Machine.execLockWaitEnd s
  | .pinReset found => Sys2Proof.Machine.execPinReset found s
  | .pfAssert vin flush => Sys2Proof.Machine.execPfAssert vin flush s
  | .recoveryReset vin found => Sys2Proof.Machine.execRecoveryReset vin found s
  | .supplyLoss vin => Sys2Proof.Machine.execSupplyLoss vin s
  | .setlvl ten level => Sys2Proof.Machine.execSetlvl ten level s
  | .levelChangeComplete => Sys2Proof.Machine.execLevelChangeComplete s
  | .sleepRequest ten state => Sys2Proof.Machine.execSleepRequest ten state s
  | .sleepEntryComplete flush => Sys2Proof.Machine.execSleepEntryComplete flush s
  | .wakeEvent source => Sys2Proof.Machine.execWakeEvent source s
  | .wakeComplete => Sys2Proof.Machine.execWakeComplete s
  | .moduleFault cause die flush found => Sys2Proof.Machine.execModuleFault cause die flush found s
  | .moduleFaultClear cause die => Sys2Proof.Machine.execModuleFaultClear cause die s
  | .indicatorUpdate lossPpm erases writes driftPpb die => Sys2Proof.Machine.execIndicatorUpdate lossPpm erases writes driftPpb die s
  | .spiWriteFrame opcode addr data crc => Sys2Proof.Machine.execSpiWriteFrame opcode addr data crc s
  | .spiReadFrame opcode addr len => Sys2Proof.Machine.execSpiReadFrame opcode addr len s
  | .doorbell len => Sys2Proof.Machine.execDoorbell len s
  | .commandResultPresent box => Sys2Proof.Machine.execCommandResultPresent box s
  | .mailboxTimeout box => Sys2Proof.Machine.execMailboxTimeout box s
  | .servicePortFrame frame => Sys2Proof.Machine.execServicePortFrame frame s
  | .usbDisconnect => Sys2Proof.Machine.execUsbDisconnect s
  | .hpResult box => Sys2Proof.Machine.execHpResult box s
  | .hpStatus box => Sys2Proof.Machine.execHpStatus box s
  | .hpSession host => Sys2Proof.Machine.execHpSession host s
  | .hpPread box => Sys2Proof.Machine.execHpPread box s
  | .hpPwrite box => Sys2Proof.Machine.execHpPwrite box s
  | .hpRegrd box => Sys2Proof.Machine.execHpRegrd box s
  | .hpImage box => Sys2Proof.Machine.execHpImage box s
  | .reportRead box => Sys2Proof.Machine.execReportRead box s
  | .reportAck box => Sys2Proof.Machine.execReportAck box s
  | .bulkOpen host => Sys2Proof.Machine.execBulkOpen host s
  | .bulkClose host => Sys2Proof.Machine.execBulkClose host s
  | .blockForce box => Sys2Proof.Machine.execBlockForce box s
  | .blockCxeCmd box => Sys2Proof.Machine.execBlockCxeCmd box s
  | .blockValueChange box => Sys2Proof.Machine.execBlockValueChange box s
  | .blockLoop box => Sys2Proof.Machine.execBlockLoop box s
  | .blockPreset box => Sys2Proof.Machine.execBlockPreset box s
  | .blockFio box => Sys2Proof.Machine.execBlockFio box s
  | .blockFbe box => Sys2Proof.Machine.execBlockFbe box s
  | .blockPlk box => Sys2Proof.Machine.execBlockPlk box s
  | .blockKsu box => Sys2Proof.Machine.execBlockKsu box s
  | .blockGrn box badPage => Sys2Proof.Machine.execBlockGrn box badPage s
  | .blockWell box => Sys2Proof.Machine.execBlockWell box s
  | .blockBackup box => Sys2Proof.Machine.execBlockBackup box s
  | .blockPwr box => Sys2Proof.Machine.execBlockPwr box s
  | .blockUpd box => Sys2Proof.Machine.execBlockUpd box s
  | .millStart ch desc => Sys2Proof.Machine.execMillStart ch desc s
  | .millChannelStart => Sys2Proof.Machine.execMillChannelStart s
  | .descriptorEnd => Sys2Proof.Machine.execDescriptorEnd s
  | .millBusError err ecc => Sys2Proof.Machine.execMillBusError err ecc s
  | .busIntegrationComplete port => Sys2Proof.Machine.execBusIntegrationComplete port s
  | .usbConnect => Sys2Proof.Machine.execUsbConnect s
  | .keyBindingChange n en slot => Sys2Proof.Machine.execKeyBindingChange n en slot s
  | .negFail port => Sys2Proof.Machine.execNegFail port s
  | .ptpMessageInterval port kind => Sys2Proof.Machine.execPtpMessageInterval port kind s
  | .debugToken signed challenge => Sys2Proof.Machine.execDebugToken signed challenge s

end Sys2Proof.Machine
end

