-- ==== Sys2Proof/Machine/TickOps.lean ====
section
/-! DEFINITION. What time alone does: one millisecond of the crystals (R6, R45, R117, R406). The events that a time brings
are commands of their own. -/

namespace Sys2Proof.Machine

/-- One millisecond of the oscillator (R6, R45, R48): the line angle advances within the present cycle; the passing of 0x0000
is a command. Log entry 3 (DESIGN CHOICE, DEDUCED). -/
def State.lineTick (s : State) : State :=
  let acc := s.ltu.frac + s.ltu.rate
  let t := s.ltu.now + acc / 1000000
  if t < s.cycleEnd then s.onLtu fun l => { l with now := t, frac := acc % 1000000 }
  else s.onLtu fun l => { l with now := (l.now / 65536 + 1) * 65536 - 1, frac := 0 }

/-- One millisecond passes. Without power only Well counts (Table 15-1); in S3 the 25 MHz crystal stands (R53, R424).
Log entry 3 (DESIGN CHOICE, DEDUCED). -/
def State.tick (s : State) : State :=
  let s := { s.wellTick with ms := s.ms + 1 }
  if s.powered && s.rd PWR_STAT_SLEEP != 3 then (s.tickField CXE_MSCNT_MS).lineTick
  else if s.rd PWR_STAT_SLEEP = 3 then s.onWell fun w => { w with s3 := w.s3 + 1 }
  else s

end Sys2Proof.Machine
end

