-- ==== Sys2Proof/Machine/Step.lean ====
section
/-! DEFINITION. One step of the module: the command in front of the queue, or one millisecond of time where none waits. -/

namespace Sys2Proof.Machine

/-- The command in front is carried out with the rest of the queue; on an empty queue time passes (`State.tick`).
Log entry 3 (DESIGN CHOICE, DEDUCED). Log entry 24 (DESIGN CHOICE, DEDUCED). -/
def step (s : State) : Host.Outcome State Fault Refusal :=
  match s.pending with
  | [] => .next s.tick
  | c :: rest => exec c { s with pending := rest }

/-- The state with the command that a word of the table spells put in front of the queue. Log entry 24 (DESIGN CHOICE, DEDUCED). -/
def State.withFetchWord (s : State) (nbits w : Nat) : State :=
  match decodeTableWord nbits w with
  | some c => { s with pending := c :: s.pending }
  | none => s

end Sys2Proof.Machine
end

