-- ==== Sys2Proof/Safety.lean ====
section
/-! DEFINITION. What the claims call a sound state, the canonical form of the sparse tables, which makes equal contents
equal data; and what they call unchanged. -/

namespace Sys2Proof.Machine

/-- The memory's keys strictly rise and no listed byte is 0. Log entry 1 (DESIGN CHOICE). -/
abbrev Memory.wf (m : List Host.Cell) : Bool := swf 0 m

/-- The tables of a state are in canonical form: register fields, memory bytes and point entries. -/
def State.tidy (s : State) : Prop :=
  swf 0 s.regs = true ∧ Memory.wf s.mem = true ∧ swf Point.undef s.pdir.points = true

/-- Every register field but those of `fs`, and every byte of memory, reads in `t` as in `s`. -/
def SameBut (fs : List Fld) (s t : State) : Prop :=
  (∀ g : Fld, (∀ f ∈ fs, g.key ≠ f.key) → t.rd g = s.rd g) ∧ ∀ a, t.byte a = s.byte a

/-- Everything of a state but its register fields and its last answer. -/
def State.rest (s : State) : State := { s with regs := [], answer := Answer.none }

/-- A field of Granary's register window. -/
def Fld.ofGrn (f : Fld) : Prop := 0x400A0000 * 32 ≤ f.key ∧ f.key < 0x400B0000 * 32

/-- `t` differs from `s` at most in Granary, in its register fields and on the pair link: what recording an event changes. -/
def OnlyRecord (s t : State) : Prop :=
  t = { s with regs := t.regs, grn := t.grn, plk := t.plk } ∧ ∀ f : Fld, ¬ f.ofGrn → t.rd f = s.rd f

end Sys2Proof.Machine
end

