-- ==== Sys2Proof/WellFormed.lean ====
section
/-! DEFINITION. When the operands of a command that their types do not bound are such that the hardware can hand them over. -/

namespace Sys2Proof

/-- An access of 1, 2, 4 or 8 bytes. -/
def sizeOk (n : Nat) : Bool := n == 1 || n == 2 || n == 4 || n == 8

/-- No value stands twice in a list. -/
def noRepeat : List Nat → Bool
  | [] => true
  | a :: t => !t.contains a && noRepeat t

/-- Each channel has at most one result of a line cycle. -/
def cycleOk (currents : List CurrentCycle) (voltages : List VoltageCycle) : Bool :=
  noRepeat (currents.map fun c => c.ch.val) && noRepeat (voltages.map fun v => v.vs.val)

/-- What a flush finds in progress. -/
def FlushIn.ok (f : FlushIn) : Bool := cycleOk f.currents f.voltages && f.faulty.all fun n => decide (n < 524288)

/-- A received frame: CAN data of at most 8 bytes, or 64 with FDF; a DALI-2 value within its bits. -/
def BusFrame.ok : BusFrame → Bool
  | .can ide fdf _ id data => decide (data.length ≤ (if fdf then 64 else 8)) && (ide || decide (id.toNat < 2048))
  | .rs485 _ _ => true
  | .dali bits value => decide (value < 2 ^ bits)
  | .violation => true

/-- A frame that a sleeping CAN port sees. -/
def WakeSeen.ok : WakeSeen → Bool
  | .dominant _ => true
  | .frame ide _ id dlc data => decide (dlc ≤ 15) && decide (data.length ≤ 64) && (ide || decide (id.toNat < 2048))
  | .errors _ => true

/-- A meter record holds ten accumulators. -/
def MeterMirror.ok (m : MeterMirror) : Bool := m.cum.length == 10 && m.frac.length == 10 && m.wrap.length == 10 && m.start.length == 10

/-- A row holds 256 bytes. -/
def RowMirror.ok (r : RowMirror) : Bool := r.bytes.length == 256

/-- At most the beats issued are outstanding, and an erring write beat is among them (R454, R455). -/
def MillErr.ok : MillErr → Bool
  | .fetch => true
  | .read _ issued out => decide (out.val ≤ issued)
  | .write beat issued out => decide (out.val ≤ issued) && decide (beat < issued) && decide (issued ≤ beat + out.val)
  | .writeBack => true

/-- The operands of a command are well formed. -/
def Instr.wf : Instr → Bool
  | .registerWrite _ size _ => sizeOk size
  | .w1cRegisterWrite _ _ _ => true
  | .rcRegisterRead _ _ => true
  | .fabricAccess _ _ _ _ size _ _ => sizeOk size
  | .supWatchdogExpiry => true
  | .supRestartComplete => true
  | .hltWdogKick => true
  | .referenceZeroCrossing _ _ _ => true
  | .mainsLossTimeout => true
  | .lineCycleBoundary _ _ => true
  | .cload _ => true
  | .siteResync => true
  | .announcementReceived _ _ => true
  | .siteLoss => true
  | .siteMasterElection => true
  | .schedulerEnable => true
  | .schedulerDisable => true
  | .schedulerEntryWrite _ _ _ _ => true
  | .swapArm _ => true
  | .bankSwap => true
  | .switchoverEntryArm _ => true
  | .switchoverEntryCancel => true
  | .switchoverPoint => true
  | .ltuNowLoRead => true
  | .ltuSofsLoRead => true
  | .pointRead _ _ _ _ _ => true
  | .transactionWrite _ _ _ _ _ _ => true
  | .tableWindowRead _ _ _ _ _ => true
  | .tableWindowWrite _ _ _ _ size _ => sizeOk size
  | .force _ _ => true
  | .release _ _ => true
  | .forceRecordComplete _ => true
  | .taskActivation _ => true
  | .activationDispatch => true
  | .outputCommit _ => true
  | .deadlineOverrun _ => true
  | .cxeRestart _ => true
  | .cxeRestore _ => true
  | .codeFetchFault _ => true
  | .snapshotComplete _ faulty => faulty.all (fun n => decide (n < 524288))
  | .timerCellRefresh => true
  | .loadPortWrite _ => true
  | .valueChangeData _ _ _ => true
  | .valueChangePreset _ _ => true
  | .valueChangeApply => true
  | .exchangeArm _ => true
  | .knNop _ => true
  | .knExt _ _ => true
  | .knEnd _ => true
  | .knBr _ _ _ => true
  | .knCall _ _ => true
  | .knRet _ => true
  | .knLoop _ _ _ => true
  | .knEndl _ => true
  | .knBrk _ _ => true
  | .knCase _ _ _ => true
  | .knSet _ _ _ => true
  | .knSleep _ _ => true
  | .knLog _ _ _ => true
  | .knLta _ _ _ => true
  | .knMov _ _ _ => true
  | .knLdd _ _ _ _ _ => true
  | .knStd _ _ _ _ => true
  | .knAdd _ _ _ _ => true
  | .knSub _ _ _ _ => true
  | .knMul _ _ _ _ => true
  | .knMulh _ _ _ _ => true
  | .knDiv _ _ _ _ => true
  | .knDivu _ _ _ _ => true
  | .knMod _ _ _ _ => true
  | .knModu _ _ _ _ => true
  | .knNeg _ _ _ => true
  | .knAbs _ _ _ => true
  | .knMin _ _ _ _ => true
  | .knMax _ _ _ _ => true
  | .knMinu _ _ _ _ => true
  | .knMaxu _ _ _ _ => true
  | .knLim _ _ _ _ => true
  | .knCmp _ _ _ => true
  | .knAnd _ _ _ _ => true
  | .knOr _ _ _ _ => true
  | .knXor _ _ _ _ => true
  | .knNot _ _ _ => true
  | .knShl _ _ _ _ => true
  | .knShr _ _ _ _ => true
  | .knSar _ _ _ _ => true
  | .knTst _ _ _ => true
  | .knBool _ _ _ => true
  | .knFadd _ _ _ _ => true
  | .knFsub _ _ _ _ => true
  | .knFmul _ _ _ _ => true
  | .knFdiv _ _ _ _ => true
  | .knFsqrt _ _ _ => true
  | .knFma _ _ _ _ => true
  | .knFneg _ _ _ => true
  | .knFabs _ _ _ => true
  | .knFmin _ _ _ _ => true
  | .knFmax _ _ _ _ => true
  | .knFlim _ _ _ _ => true
  | .knFcmp _ _ _ => true
  | .knItof _ _ _ => true
  | .knUtof _ _ _ => true
  | .knFtoi _ _ _ => true
  | .knFtou _ _ _ => true
  | .knFrnd _ _ _ => true
  | .knPrd _ _ _ _ => true
  | .knPwr _ _ _ _ _ => true
  | .knTmr _ _ _ _ _ => true
  | .knTet _ _ _ => true
  | .knTps _ _ _ => true
  | .knTrs _ _ => true
  | .knEdg _ _ _ _ _ => true
  | .loopSample _ _ _ => true
  | .loopAuto _ _ => true
  | .loopManual _ _ _ => true
  | .loopManout _ _ => true
  | .loopReset _ _ => true
  | .loopCoef _ _ _ => true
  | .loopRequestApply _ => true
  | .meterCycleClose _ currents voltages => cycleOk currents voltages
  | .meterIntervalLatch _ => true
  | .reportStore _ => true
  | .meterPreset _ _ _ => true
  | .presetApply => true
  | .meterCheckpoint => true
  | .accumulatorEcc _ => true
  | .inputUpdate _ _ _ => true
  | .pulseEdge _ => true
  | .diChange _ _ _ => true
  | .changeWindowEnd _ => true
  | .outputApplication _ => true
  | .doShort _ => true
  | .doRetry _ => true
  | .doOpenLoad _ => true
  | .aoVShort _ => true
  | .aoIOpen _ => true
  | .outputFaultClear _ _ => true
  | .vfldLow _ _ => true
  | .vfldOk _ _ => true
  | .fioReset _ _ => true
  | .busWindowOpening _ => true
  | .busWindowClose _ => true
  | .frameStart _ _ _ => true
  | .frameSent _ _ _ => true
  | .arbitrationLost _ => true
  | .canError _ _ _ _ => true
  | .busOn _ => true
  | .frameReceived _ frame _ _ _ _ => frame.ok
  | .silenceTimeout _ => true
  | .rs485Collision _ => true
  | .queryReplyTimeout _ => true
  | .daliAnswerWindowEnd _ _ => true
  | .daliCollision _ => true
  | .daliBusDown _ => true
  | .daliBusUp _ => true
  | .canWake _ seen => seen.ok
  | .frameCancel _ _ => true
  | .busRecover _ _ => true
  | .ethernetFrameReceived _ _ _ => true
  | .transmitDescriptor _ => true
  | .ethernetFrameSent _ _ _ => true
  | .linkUp _ _ => true
  | .linkDown _ => true
  | .downshift _ _ _ => true
  | .upshift _ _ _ => true
  | .lpiEntry _ => true
  | .ringTestFrame => true
  | .ringOpen => true
  | .ringClose => true
  | .ringControlFrame => true
  | .addressAging => true
  | .ptpSyncChange _ _ _ _ => true
  | .uptFrameReceived => true
  | .uptRead => true
  | .uptWrite => true
  | .uptSubscribe => true
  | .uptNotice => true
  | .uptEvent _ => true
  | .uptCommand => true
  | .uptResponse => true
  | .reassemblyTimeout => true
  | .subscribeRefresh => true
  | .subscribeRetry _ => true
  | .subscriptionStale _ => true
  | .periodicNotice => true
  | .changeNotice _ _ => true
  | .publicationDrop => true
  | .pairWatchChange _ _ _ => true
  | .coldTakeoverTimeout _ => true
  | .outgoingStageDisable => true
  | .holdoffExpiry => true
  | .goDeadline => true
  | .pairRelease _ => true
  | .pairResync _ => true
  | .heartbeatSend => true
  | .heartbeatReceived _ _ _ => true
  | .linkFrameRetransmit => true
  | .pairLinkDown => true
  | .syncedLinkGrace => true
  | .pairLinkUp _ _ => true
  | .ctrlFault _ _ _ => true
  | .ctrlResync _ => true
  | .ctrlReclaim _ => true
  | .ctrlSwo _ _ => true
  | .ctrlGo _ => true
  | .ctrlSwoCancel _ => true
  | .ctrlImageReq _ => true
  | .ctrlImageResult _ _ => true
  | .mirrorOut _ entries _ => decide (entries.length ≤ 170)
  | .mirrorForce _ _ _ _ _ _ => true
  | .mirrorLoop _ _ => true
  | .mirrorMeter _ recs => recs.all MeterMirror.ok
  | .mirrorGrn _ _ => true
  | .mirrorData _ rows => rows.all RowMirror.ok
  | .mirrorDataEnd _ _ => true
  | .mirrorImg _ _ _ => true
  | .plkOfsLoRead => true
  | .plkSwoLoRead => true
  | .fbeSofLoRead _ => true
  | .mtrLoRead _ _ => true
  | .ksuGenerate _ _ => true
  | .ksuImport _ _ _ => true
  | .ksuDerive _ _ _ => true
  | .ksuExport _ _ _ => true
  | .ksuPubkey _ _ => true
  | .ksuInvalidate _ _ => true
  | .ksuReclaim _ _ => true
  | .ksuAttest _ _ => true
  | .ksuCert _ _ => true
  | .ksuSign _ _ => true
  | .ksuVerify _ _ => true
  | .ksuEncrypt _ _ => true
  | .ksuDecrypt _ _ => true
  | .ksuMac _ _ => true
  | .ksuMacv _ _ => true
  | .ksuLcset _ _ _ => true
  | .ksuNonce _ => true
  | .keyOperationComplete _ => true
  | .journalWaitExpiry => true
  | .lifecycleReset _ => true
  | .tamperLock => true
  | .updateOpen _ _ => true
  | .updateWrite _ _ _ => true
  | .updateFinish _ _ => true
  | .verificationComplete _ => true
  | .updateInstall _ _ => true
  | .componentRestart _ => true
  | .updateConfirm _ _ => true
  | .updateFallback _ _ => true
  | .updateAbort _ _ => true
  | .updateStatus _ _ => true
  | .lockTimeout => true
  | .trialWindowEnd => true
  | .restartEnableTimeout => true
  | .eventRecord _ _ _ _ _ => true
  | .sramDrain => true
  | .stagingPageCopy _ => true
  | .grnRead _ _ _ _ => true
  | .grnFreeze _ _ => true
  | .grnThaw _ _ => true
  | .grnFlush _ => true
  | .freezeTimeout => true
  | .wellSet _ => true
  | .wellArm _ _ => true
  | .wellDisarm _ _ => true
  | .backupMemoryWrite _ _ _ => true
  | .wellCommandComplete => true
  | .alarmFire _ => true
  | .wellTimeWrap => true
  | .backupSwitchover => true
  | .backupReturn => true
  | .wellSubsecRead => true
  | .powerOnReset _ _ _ _ => true
  | .lockWaitEnd => true
  | .pinReset _ => true
  | .pfAssert _ flush => flush.ok
  | .recoveryReset _ _ => true
  | .supplyLoss _ => true
  | .setlvl _ _ => true
  | .levelChangeComplete => true
  | .sleepRequest _ _ => true
  | .sleepEntryComplete flush => flush.ok
  | .wakeEvent _ => true
  | .wakeComplete => true
  | .moduleFault _ _ flush _ => flush.ok
  | .moduleFaultClear _ _ => true
  | .indicatorUpdate _ _ _ _ _ => true
  | .spiWriteFrame _ _ _ _ => true
  | .spiReadFrame _ _ _ => true
  | .doorbell _ => true
  | .commandResultPresent _ => true
  | .mailboxTimeout _ => true
  | .servicePortFrame _ => true
  | .usbDisconnect => true
  | .hpResult _ => true
  | .hpStatus _ => true
  | .hpSession _ => true
  | .hpPread _ => true
  | .hpPwrite _ => true
  | .hpRegrd _ => true
  | .hpImage _ => true
  | .reportRead _ => true
  | .reportAck _ => true
  | .bulkOpen _ => true
  | .bulkClose _ => true
  | .blockForce _ => true
  | .blockCxeCmd _ => true
  | .blockValueChange _ => true
  | .blockLoop _ => true
  | .blockPreset _ => true
  | .blockFio _ => true
  | .blockFbe _ => true
  | .blockPlk _ => true
  | .blockKsu _ => true
  | .blockGrn _ _ => true
  | .blockWell _ => true
  | .blockBackup _ => true
  | .blockPwr _ => true
  | .blockUpd _ => true
  | .millStart _ _ => true
  | .millChannelStart => true
  | .descriptorEnd => true
  | .millBusError err _ => err.ok
  | .busIntegrationComplete _ => true
  | .usbConnect => true
  | .keyBindingChange _ _ _ => true
  | .negFail _ => true
  | .ptpMessageInterval _ _ => true
  | .debugToken _ _ => true

end Sys2Proof
end

