-- ==== Sys2Proof/Certificates/Slice0/Obligations.lean ====
section
/-! DEFINITION. The statements for the provers. Each docstring says in words what its statement says; a rule R<n> is of spec/. -/

open Sys2Proof Sys2Proof.Machine

/-! ## The queue, time and reset -/

/-- The command in front of the queue is carried out on the state with the rest of the queue. -/
def Obligations.StepRunsFront : Prop :=
  ∀ (c : Instr) (rest : List Instr) (s : State), step { s with pending := c :: rest } = exec c { s with pending := rest }

/-- On an empty queue a step is one millisecond: the model's choice (log entry 3). Powered and awake, CXE_MSCNT counts (R117) and
no byte changes; in S3 CXE_MSCNT stands. -/
def Obligations.StepOnEmptyQueue : Prop :=
  ∀ s : State, s.pending = [] → ∃ t, step s = .next t ∧ t.ms = s.ms + 1 ∧ (∀ a, t.byte a = s.byte a) ∧
    (s.powered = true → s.rd PWR_STAT_SLEEP ≠ 3 → t.rd CXE_MSCNT_MS = (s.rd CXE_MSCNT_MS + 1) % 2 ^ 32) ∧
    (s.rd PWR_STAT_SLEEP = 3 → t.rd CXE_MSCNT_MS = s.rd CXE_MSCNT_MS) ∧
    t.grn = s.grn ∧ t.pdir = s.pdir ∧ t.mtr = s.mtr ∧ t.ksu = s.ksu

/-- The word that a register shows from the register file. -/
def regWord (s : State) (a : Nat) : Nat := fieldsWord s a (regFields a)

/-- After reset no command waits, the tables are in canonical form, and every register shows the reset value of its heading: the
words listed here, and 0 elsewhere. That unlisted memory reads 0 and that KSU_STAT shows PROVISIONED under the device root are the
model's choices (log entry 1). -/
def Obligations.ResetState : Prop :=
  State.reset.pending = [] ∧ (∀ a, State.reset.byte a = 0) ∧ State.reset.tidy ∧ State.reset.pdir.points = [] ∧
    State.reset.ltu.now = 0 ∧ ∀ a, regWord State.reset a = sget 0 [(0x40000000, 0x00A00000), (0x40000004, 0x00080320),
      (0x40000008, 0x80000000), (0x40000040, 0x00020400), (0x40010100, 0x80002000), (0x40070008, 0x000805F2),
      (0x40070010, 0x5A7E88B5), (0x40070060, 0x00008080), (0x40070100, 0x003C2007), (0x40070140, 0x003C2007),
      (0x40070300, 0x40000000), (0x40070800, 0x90000500), (0x40070804, 0x88B50000), (0x40070808, 0x90000400),
      (0x4007080C, 0x08000000), (0x40070810, 0x90000000), (0x40070814, 0x08060000), (0x40080010, 0x01000100),
      (0x40090000, 0x48000000), (0x40090C00, 0x000000F8), (0x400A0008, 0x00000040), (0x400C0000, 0x40000000),
      (0x400C0010, 0x400001F4), (0x400D0140, 0x3B9ACA00)] a

/-- Every step keeps the canonical form of registers, memory and points. -/
def Obligations.StepKeepsTidy : Prop := ∀ s t : State, s.tidy → step s = .next t → t.tidy

/-! ## Registers (R9, R11, R12) -/

/-- A write of a register without a row of its own sets each field by its access code and changes nothing else. -/
def Obligations.RegisterWriteByCode : Prop :=
  ∀ (s : State) (addr value : Word), addr.toNat % 4 = 0 → inWindows addr.toNat = true →
    s.specialWrite addr.toNat value.toNat = none →
    ∃ t, exec (.registerWrite addr 4 value) s = .next t ∧
      (∀ f ∈ regFields addr.toNat,
        let fl : Fld := ⟨addr.toNat, f.lo, f.width⟩
        t.rd fl = match f.acc with
          | .rw | .wo => bitsOf value.toNat f.lo f.width
          | .ro | .rc => s.rd fl
          | .w1c => s.rd fl &&& (2 ^ f.width - 1 - bitsOf value.toNat f.lo f.width)) ∧
      SameBut ((regFields addr.toNat).map fun f => ⟨addr.toNat, f.lo, f.width⟩) s t ∧ t.rest = s.rest

/-- A W1C bit that hardware sets with the write reads 1 after it; a bit written 1 is else cleared. -/
def w1cSettingWins : Prop :=
  ∀ (s : State) (addr value hw : Word), addr.toNat % 4 = 0 → inWindows addr.toNat = true →
    s.specialWrite addr.toNat value.toNat = none →
    ∃ t, exec (.w1cRegisterWrite addr value hw) s = .next t ∧
      ∀ f ∈ regFields addr.toNat, f.acc = .w1c →
        let fl : Fld := ⟨addr.toNat, f.lo, f.width⟩
        t.rd fl = (s.rd fl &&& (2 ^ f.width - 1 - bitsOf value.toNat f.lo f.width)) ||| bitsOf hw.toNat f.lo f.width

/-- A read of a register in the register file returns its word and leaves in an RC field what arrived with the read. -/
def rcReadClears : Prop :=
  ∀ (s : State) (addr hw : Word), addr.toNat % 4 = 0 → inWindows addr.toNat = true →
    s.latchingRead addr.toNat = none → s.derivedWord addr.toNat = none →
    ∃ t, exec (.rcRegisterRead addr hw) s = .next t ∧
      t.answer.words = [BitVec.ofNat 32 (fieldsWord s addr.toNat (regFields addr.toNat))] ∧
      (∀ f ∈ regFields addr.toNat,
        let fl : Fld := ⟨addr.toNat, f.lo, f.width⟩
        t.rd fl = if f.acc = .rc then bitsOf hw.toNat f.lo f.width else s.rd fl) ∧
      SameBut ((regFields addr.toNat).map fun f => ⟨addr.toNat, f.lo, f.width⟩) s t ∧ t.rest = s.rest

/-- Write-one-to-clear and read-clear fields: a bit that hardware sets with the access is kept (R12). -/
def Obligations.ReadAndWriteOne : Prop := w1cSettingWins ∧ rcReadClears

/-- Registers are 32 bits wide: an aligned read answers one word; an access of another width or alignment, by a register command or
by SUP through the fabric, has no effect, and a read of that kind returns 0 (R9). -/
def Obligations.OtherWidthNoEffect : Prop :=
  ∀ (s : State) (addr value hw : Word) (size : Nat) (tag : Tenant),
    (addr.toNat % 4 = 0 → ∃ (t : State) (w : Word), exec (.rcRegisterRead addr hw) s = .next t ∧ t.answer.words = [w]) ∧
    (size ≠ 4 ∨ addr.toNat % 4 ≠ 0 → exec (.registerWrite addr size value) s = .next s) ∧
    (addr.toNat % 4 ≠ 0 → exec (.w1cRegisterWrite addr value hw) s = .next s ∧
      ∃ t, exec (.rcRegisterRead addr hw) s = .next t ∧ t.answer.words = [0] ∧ SameBut [] s t ∧ t.rest = s.rest) ∧
    (0x40000000 ≤ addr.toNat → addr.toNat + size ≤ 0x40110000 → 1 ≤ size → size ≠ 4 ∨ addr.toNat % 4 ≠ 0 →
      (∃ t, exec (.fabricAccess .sup tag .write addr size value .clean) s = .next t ∧ t.answer.busError = false ∧ SameBut [] s t ∧
        t.rest = s.rest) ∧
      ∃ t, exec (.fabricAccess .sup tag .read addr size value .clean) s = .next t ∧ t.answer.busError = false ∧
        (∀ w ∈ t.answer.words, w = 0) ∧ SameBut [] s t ∧ t.rest = s.rest)

/-! ## The internal address space (R22, R24) -/

/-- The regions of Table 1-3, first and last address. -/
def mapRegions : List (Nat × Nat) := [(0x00000000, 0x0003FFFF), (0x10000000, 0x1003FFFF), (0x20000000, 0x201FFFFF),
  (0x21000000, 0x211FFFFF), (0x40000000, 0x4010FFFF), (0x50000000, 0x5003FFFF), (0x70000000, 0x70FFFFFF),
  (0x80000000, 0x8FFFFFFF)]

/-- An access outside every region, and one that Table 1-3 does not permit (DRAM for CXE and every master it does not list, ROM for
all but SUP and for SUP's writes, the code bank that runs an image), ends with a bus error, counts one fabric error (the count
saturates) and has no other effect; SUP, NET, PLK and HPT read and write words of DRAM, a write changing those bytes alone. -/
def Obligations.FabricAccessDecided : Prop :=
  ∀ (s : State) (m : Master) (tag : Tenant) (addr value : Word),
    (∀ (acc : Access) (size : Nat) (ecc : Ecc), (∀ r ∈ mapRegions, addr.toNat < r.1 ∨ r.2 < addr.toNat) ∨
        (0x80000000 ≤ addr.toNat ∧ addr.toNat ≤ 0x8FFFFFFF ∧ m ∈ [Master.cxe, .ksu, .grn, .pdir, .mtr]) ∨
        (addr.toNat ≤ 0x0003FFFF ∧ (m ≠ .sup ∨ acc = .write)) ∨
        (0x20000000 ≤ addr.toNat ∧ addr.toNat ≤ 0x200FFFFC ∧ m = .sup ∧ acc = .write ∧ size = 4 ∧
          s.rd CXE_STAT_LOADED = 1 ∧ s.rd CXE_STAT_CODE_BANK = 0) →
      ∃ t, exec (.fabricAccess m tag acc addr size value ecc) s = .next t ∧ t.answer.busError = true ∧
        t.rd HLT_ERR_A_FABRIC = satInc (2 ^ HLT_ERR_A_FABRIC.width - 1) (s.rd HLT_ERR_A_FABRIC) ∧
        SameBut [HLT_ERR_A_FABRIC] s t ∧ t.rest = s.rest) ∧
    (m ∈ [Master.sup, .net, .plk, .hpt] → 0x80000000 ≤ addr.toNat → addr.toNat ≤ 0x8FFFFFFC →
      (∃ t, exec (.fabricAccess m tag .read addr 4 value .clean) s = .next t ∧ t.answer.busError = false ∧
        t.answer.words = [s.word addr.toNat] ∧ SameBut [] s t ∧ t.rest = s.rest) ∧
      (∃ t, exec (.fabricAccess m tag .write addr 4 value .clean) s = .next t ∧ t.answer.busError = false ∧
        t.word addr.toNat = value ∧ t.regs = s.regs ∧
        (∀ a, a < addr.toNat ∨ addr.toNat + 4 ≤ a → t.byte a = s.byte a) ∧
        { t.rest with mem := [] } = { s.rest with mem := [] }))
/-! ## Line time (spec/02) -/

/-- A crossing judged by LTU: the first one opens a cycle; in LOCK a valid cycle whose error exceeds PJ_LIM × 1,024 la is a
phase jump and enters SLEW with that error; in LOCK and SLEW a cycle below VMIN declares loss. -/
def zeroCrossingJudged : Prop :=
  ∀ (s : State) (freq rms : Nat) (angle : Half), s.ltu.refNew = false →
    let e : Int := sint16 (65536 - angle.toNat)
    (s.ltu.cycleOpen = false → ∃ t, exec (.referenceZeroCrossing freq rms angle) s = .next t ∧ t.ltu.cycleOpen = true ∧
      SameBut [] s t) ∧
    (s.ltu.cycleOpen = true → s.rd LTU_STAT_STATE = 1 → 45000 ≤ freq → freq ≤ 65000 → s.rd LTU_QUAL_VMIN ≤ rms →
      s.rd LTU_CFG_PJ_LIM ≠ 0 → s.rd LTU_CFG_PJ_LIM * 1024 < e.natAbs →
      ∃ t, exec (.referenceZeroCrossing freq rms angle) s = .next t ∧ t.rd LTU_STAT_STATE = 4 ∧ t.rd LTU_STAT_LT_VIRT = 1 ∧
        t.rd LTU_STAT_SLEW_REM = e.natAbs ∧ t.rd LTU_STAT_SLEW_DIR = (if 0 < e then 1 else 0) ∧
        t.rd LTU_EVT_PHASE_JUMP = 1 ∧ t.rd LTU_PHERR_E = (e % 65536).toNat ∧ (∀ a, t.byte a = s.byte a)) ∧
    (s.ltu.cycleOpen = true → s.rd LTU_STAT_STATE = 1 ∨ s.rd LTU_STAT_STATE = 4 → s.mtr.accepted = true →
      rms < s.rd LTU_QUAL_VMIN →
      ∃ t, exec (.referenceZeroCrossing freq rms angle) s = .next t ∧ t.rd LTU_STAT_STATE = 2 ∧ t.rd LTU_STAT_LT_VIRT = 1 ∧
        t.rd LTU_STAT_SLEW_REM = 0 ∧ t.rd LTU_EVT_LOSS = 1 ∧ t.rd LTU_FREQ_FREQ = s.rd LTU_FREQ_FREQ ∧
        ∀ a, t.byte a = s.byte a)

/-- No crossing for 1.25 periods in LOCK or SLEW declares loss of mains. -/
def mainsLossDeclared : Prop :=
  ∀ s : State, s.rd LTU_STAT_STATE = 1 ∨ s.rd LTU_STAT_STATE = 4 →
    ∃ t, exec .mainsLossTimeout s = .next t ∧ t.rd LTU_STAT_STATE = 2 ∧ t.rd LTU_STAT_LT_VIRT = 1 ∧ t.rd LTU_EVT_LOSS = 1 ∧
      t.rd LTU_FREQ_FREQ = s.rd LTU_FREQ_FREQ ∧ t.ltu.cycleOpen = false ∧ t.ltu.now = s.ltu.now ∧ ∀ a, t.byte a = s.byte a

/-- The mains: each zero crossing is judged and tracked, and the loss of the mains declared. -/
def Obligations.MainsWatched : Prop := zeroCrossingJudged ∧ mainsLossDeclared

/-- Line time: at a cycle boundary c advances by one and the angle is 0x0000 (stated with the scheduler and the site frame off and
nothing to send); CLOAD steps c in START with the scheduler disabled to a later value only, and then writes the checkpoint;
LTU_NOW_LO and LTU_SOFS_LO return the low words and latch the high ones. -/
def lineTimeSteps : Prop :=
  ∀ s : State,
    (∀ sec ns, s.lineRuns = true → s.rd LTU_SCHED_EN = 0 → s.rd LTU_SITE_CFG_EN = 0 → s.announced = [] → s.net.noticeAll = false →
      ∃ t, exec (.lineCycleBoundary sec ns) s = .next t ∧ t.ltu.now = (s.ltu.now / 65536 + 1) * 65536 % 2 ^ 56) ∧
    (∀ arg : BitVec 24, s.rd LTU_STAT_STATE = 0 → s.rd LTU_SCHED_EN = 0 → s.ltu.now < arg.toNat * 2 ^ 32 →
      ∃ t, exec (.cload arg) s = .next t ∧ t.ltu.now = arg.toNat * 2 ^ 32 ∧ t.rd LTU_CKPT_CKPT = (arg.toNat + 1) % 2 ^ 24 ∧
        t.rd LTU_EVT_CKPT = 1 ∧ t.cfg.ckptCopy = (arg.toNat + 1) % 2 ^ 24 + 1 ∧ SameBut [LTU_CKPT_CKPT, LTU_EVT_CKPT] s t) ∧
    (∀ arg : BitVec 24, s.rd LTU_STAT_STATE ≠ 0 ∨ s.rd LTU_SCHED_EN = 1 ∨ arg.toNat * 2 ^ 32 ≤ s.ltu.now →
      exec (.cload arg) s = .next s) ∧
    (∃ t, exec .ltuNowLoRead s = .next t ∧ t.answer.words = [BitVec.ofNat 32 s.ltu.now] ∧
      t.rd LTU_NOW_HI_C_HI = s.ltu.now / 2 ^ 32 % 2 ^ 24 ∧ SameBut [LTU_NOW_HI_C_HI] s t ∧ t.rest = s.rest) ∧
    (∃ t, exec .ltuSofsLoRead s = .next t ∧ t.answer.words = [BitVec.ofNat 32 s.ltu.ofs] ∧
      t.rd LTU_SOFS_HI_OFS_HI = s.ltu.ofs / 2 ^ 32 % 2 ^ 24 ∧ SameBut [LTU_SOFS_HI_OFS_HI] s t ∧ t.rest = s.rest)

/-- Site line time: a resynchronisation clears SITE_OK and waits for an offset; the first announcement then sets the offset in one
step; the loss of the followed module and the election of a master change SITE_OK and the role, and keep the offset. -/
def siteLineTime : Prop :=
  ∀ s : State,
    (∃ t, exec .siteResync s = .next t ∧ t.rd LTU_STAT_SITE_OK = 0 ∧ t.ltu.siteAcq = true ∧ t.ltu.siteReady = false ∧
      t.ltu.ofs = s.ltu.ofs ∧ SameBut [LTU_STAT_SITE_OK] s t) ∧
    (∀ (ann : Announcement) (lt : BitVec 56), s.rd LTU_SITE_CFG_EN = 0 ∨ s.rd NET_PTP_STAT_SYNC = 0 →
      exec (.announcementReceived ann lt) s = .next s) ∧
    (∀ (ann : Announcement) (lt : BitVec 56), s.rd LTU_SITE_CFG_EN = 1 → s.rd NET_PTP_STAT_SYNC = 1 → s.ltu.heard = [] →
      s.rd LTU_SITE_STAT_ROLE ≠ 3 → s.ltu.siteFrozen = false → s.ltu.siteAcq = true →
      ∃ t, exec (.announcementReceived ann lt) s = .next t ∧ t.rd LTU_SITE_STAT_ROLE = 2 ∧
        t.rd LTU_SITE_STAT_MADDR = ann.sender.toNat ∧ t.rd LTU_SITE_STAT_MRANK = ann.rank.toNat ∧
        t.ltu.ofs = (ann.siteTime.toNat + 2 ^ 56 - lt.toNat) % 2 ^ 56 ∧ t.rd LTU_SOFS_LO_OFS_LO = t.ltu.ofs % 2 ^ 32 ∧
        t.ltu.now = s.ltu.now) ∧
    (s.rd LTU_SITE_CFG_EN = 1 → s.rd LTU_SITE_STAT_ROLE = 2 →
      (∃ h ∈ s.ltu.heard, h.addr = s.rd LTU_SITE_STAT_MADDR ∧ max 2 (s.rd LTU_SITE_CFG_TMO) ≤ h.age) →
      ∃ t, exec .siteLoss s = .next t ∧ t.rd LTU_STAT_SITE_OK = 0 ∧ t.rd LTU_EVT_SITE_LOSS = 1 ∧ t.ltu.ofs = s.ltu.ofs ∧
        ∀ h ∈ t.ltu.heard, h.addr ≠ s.rd LTU_SITE_STAT_MADDR) ∧
    (s.rd LTU_SITE_CFG_EN = 1 → s.rd LTU_SITE_CFG_RANK ≠ 0 → s.rd LTU_SITE_STAT_ROLE ≠ 3 → s.ltu.heard = [] →
      max 2 (s.rd LTU_SITE_CFG_TMO) ≤ s.ltu.quiet →
      ∃ t, exec .siteMasterElection s = .next t ∧ t.rd LTU_SITE_STAT_ROLE = 3 ∧ t.rd LTU_STAT_SITE_OK = 1 ∧ t.ltu.ofs = s.ltu.ofs)

/-- Line time, local and of the site. -/
def Obligations.LineTime : Prop := lineTimeSteps ∧ siteLineTime

/-- The scheduler's control: enabling sets EN and re-bases the active bank (here once field I/O has started), disabling also
disarms the switch-over entry; a word written to an entry reads back but for its reserved bits, unless the bank is active
with the scheduler enabled; arming a swap or the switch-over entry takes effect under R63 and R64 and else changes nothing. -/
def Obligations.SchedulerControl : Prop :=
  ∀ s : State,
    (s.rd LTU_SCHED_EN = 0 → s.fio.started = true → ∃ t, exec .schedulerEnable s = .next t ∧ t.rd LTU_SCHED_EN = 1 ∧
      t.ltu.bank (s.rd LTU_SCHED_BANK) = (s.ltu.bank (s.rd LTU_SCHED_BANK)).map (fun x =>
        (x.1, x.2.rebase (if x.2.site then (s.ltu.now + s.ltu.ofs) % 2 ^ 56 else s.ltu.now))) ∧
      t.ltu.now = s.ltu.now ∧ SameBut [LTU_SCHED_EN, LTU_SCHED_COUNT] s t) ∧
    (∃ t, exec .schedulerDisable s = .next t ∧ t.rd LTU_SCHED_EN = 0 ∧ t.rd LTU_SCHED_SWO_ARM = 0 ∧
      SameBut [LTU_SCHED_EN, LTU_SCHED_SWO_ARM] s t ∧ t.rest = s.rest) ∧
    (∀ (bank : Fin 2) (index : Fin 512) (word : Fin 4) (value : Word),
      (s.rd LTU_SCHED_EN = 1 → bank.val = s.rd LTU_SCHED_BANK →
        exec (.schedulerEntryWrite bank index word value) s = .next s) ∧
      (s.rd LTU_SCHED_EN = 0 ∨ bank.val ≠ s.rd LTU_SCHED_BANK →
        ∃ t, exec (.schedulerEntryWrite bank index word value) s = .next t ∧
          (sget SchedEntry.zero (t.ltu.bank bank.val) index.val).word word.val = value.toNat &&&
            (match word.val with | 0 => 0xE7FFFFFF | 3 => 0x00FFFFFF | _ => 0xFFFFFFFF) ∧
          (∀ i, i ≠ index.val → sget SchedEntry.zero (t.ltu.bank bank.val) i = sget SchedEntry.zero (s.ltu.bank bank.val) i) ∧
          SameBut [LTU_SCHED_COUNT] s t)) ∧
    (∀ x : BitVec 24,
      (s.rd LTU_SCHED_SWAP_PEND = 0 ∧ s.ltu.now + 65536 ≤ x.toNat * 2 ^ 32 + s.rd LTU_SWAP_LO_X_LO →
        ∃ t, exec (.swapArm x) s = .next t ∧ t.rd LTU_SCHED_SWAP_PEND = 1 ∧ t.rd LTU_SWAP_HI_X_HI = x.toNat ∧
          SameBut [LTU_SCHED_SWAP_PEND, LTU_SWAP_HI_X_HI] s t ∧ t.rest = s.rest) ∧
      (s.rd LTU_SCHED_SWAP_PEND = 1 ∨ x.toNat * 2 ^ 32 + s.rd LTU_SWAP_LO_X_LO < s.ltu.now + 65536 →
        exec (.swapArm x) s = .next s) ∧
      (s.rd LTU_SCHED_SWO_ARM = 0 ∧ s.ltu.now + 256 ≤ x.toNat * 2 ^ 32 + s.rd LTU_SWO_LO_X_LO →
        ∃ t, exec (.switchoverEntryArm x) s = .next t ∧ t.rd LTU_SCHED_SWO_ARM = 1 ∧ t.rd LTU_SWO_HI_X_HI = x.toNat ∧
          SameBut [LTU_SCHED_SWO_ARM, LTU_SWO_HI_X_HI] s t ∧ t.rest = s.rest) ∧
      (s.rd LTU_SCHED_SWO_ARM = 1 ∨ x.toNat * 2 ^ 32 + s.rd LTU_SWO_LO_X_LO < s.ltu.now + 256 →
        exec (.switchoverEntryArm x) s = .next s)) ∧
    (∃ t, exec .switchoverEntryCancel s = .next t ∧ t.rd LTU_SCHED_SWO_ARM = 0 ∧ SameBut [LTU_SCHED_SWO_ARM] s t ∧
      t.rest = s.rest)

/-- Re-basing moves an enabled entry's NEXT to the first of its due times at or after the point, and leaves a disabled one. -/
def rebaseFirstDue : Prop :=
  ∀ (e : SchedEntry) (p : Nat), 0 < e.period → e.next < 2 ^ 56 → p + e.period ≤ 2 ^ 56 →
    (e.en = false → e.rebase p = e) ∧
    (e.en = true → p ≤ (e.rebase p).next ∧ (e.rebase p).next < p + e.period ∧
      (e.rebase p).next % e.period = e.next % e.period ∧ e.rebase p = { e with next := (e.rebase p).next })


/-- The entry `(i, e)` of the active bank is the one to issue next (R32, R61, R63): enabled, local, in the present cycle or late,
before an armed swap, no switch-over entry armed, and every other enabled entry is later in the order of time, kind and target. -/
def schedFirst (s : State) (i : Nat) (e : SchedEntry) : Prop :=
  s.rd LTU_SCHED_EN = 1 ∧ s.rd LTU_SCHED_SWO_ARM = 0 ∧ (i, e) ∈ s.ltu.bank (s.rd LTU_SCHED_BANK) ∧
  e.en = true ∧ e.site = false ∧ 1 ≤ e.kind ∧ e.kind ≤ 5 ∧ e.next < (s.ltu.now / 65536 + 1) * 65536 ∧
  (s.rd LTU_SCHED_SWAP_PEND = 1 → e.next < s.rd LTU_SWAP_HI_X_HI * 2 ^ 32 + s.rd LTU_SWAP_LO_X_LO) ∧
  ∀ j f, (j, f) ∈ s.ltu.bank (s.rd LTU_SCHED_BANK) → (j, f) ≠ (i, e) → f.en = true → f.site = false ∧
    (e.next < f.next ∨ e.next = f.next ∧ (e.kind < f.kind ∨ e.kind = f.kind ∧ e.tgt < f.tgt))

/-- LTU issues scheduled events in the order of due time, kind and target, and no other; issuing an event on time moves line time
to it and its entry to the next due time, or disables an entry marked ONE, and leaves every other entry. -/
def scheduledEventOrder : Prop :=
  ∀ (s : State) (i : Nat) (e : SchedEntry), schedFirst s i e →
    s.issuable e.kind e.tgt = some ⟨e.next, e.kind, e.tgt, i⟩ ∧
    (∀ k g, (k, g) ≠ (e.kind, e.tgt) → s.issuable k g = none) ∧
    (s.ltu.now ≤ e.next → s.ltu.issueCnt < 64 → let t := s.issue ⟨e.next, e.kind, e.tgt, i⟩
      t.ltu.now = e.next ∧ SameBut [LTU_SCHED_COUNT] s t ∧
      t.ltu.bank (s.rd LTU_SCHED_BANK) = (s.ltu.bank (s.rd LTU_SCHED_BANK)).map (fun x =>
        (x.1, if x.1 = i then { x.2 with next := (x.2.next + x.2.period) % 2 ^ 56, en := !x.2.one } else x.2)))

/-- Scheduled events come in their order, and a schedule taken into use finds its first due times. -/
def Obligations.EventsInOrder : Prop := scheduledEventOrder ∧ rebaseFirstDue
/-! ## The point directory (spec/03) -/

/-- A visibility admits the class of a tag (Table 3-4). -/
def visAdmits (v : Vis) (tag owner : Nat) : Prop := tag = owner ∨ (v = .opvis ∧ tag = 0) ∨ v = .pub

/-- The bit of ACC that holds the class's right: 0 read, 1 write, 2 force (Table 3-5). -/
def accBit (tag owner right : Nat) : Nat := (if tag = owner then 0 else if tag = 0 then 3 else 6) + right

/-- A tenant is enabled (R77). -/
def tenantEnabled (s : State) (tag : Nat) : Prop := tag = 0 ∨ s.rd (PDIR_TEN_CFG_EN tag) = 1

/-- A read is decided in the order of R76: a disabled tenant, a handle that is undefined, out of range or not visible, a missing
right; a served read returns the element and changes nothing, a refused one leaves every entry as it was. -/
def pointReadDecided : Prop :=
  ∀ (s : State) (port : Port) (tag : Tenant) (h : Half) (elem : Fin 8),
    (¬ tenantEnabled s tag.val → ∃ t, exec (.pointRead port tag h elem .clean) s = .next t ∧ t.answer.code = 0x0307 ∧
      t.answer.words = [] ∧ t.pdir = s.pdir ∧ ∀ a, t.byte a = s.byte a) ∧
    (tenantEnabled s tag.val → 8191 < h.toNat ∨ (s.point h.toNat).defn = none →
      ∃ t, exec (.pointRead port tag h elem .clean) s = .next t ∧ t.answer.code = 0x0301 ∧ t.answer.words = [] ∧
        t.pdir = s.pdir ∧ ∀ a, t.byte a = s.byte a) ∧
    (∀ d, tenantEnabled s tag.val → h.toNat ≤ 8191 → (s.point h.toNat).defn = some d →
      (¬ visAdmits d.vis tag.val d.owner → ∃ t, exec (.pointRead port tag h elem .clean) s = .next t ∧
        t.answer.code = 0x0301 ∧ t.answer.words = [] ∧ t.pdir = s.pdir ∧
        t.rd PDIR_CNT_HIDDEN_CNT = satInc (2 ^ PDIR_CNT_HIDDEN_CNT.width - 1) (s.rd PDIR_CNT_HIDDEN_CNT)) ∧
      (visAdmits d.vis tag.val d.owner → d.acc.testBit (accBit tag.val d.owner 0) = false →
        ∃ t, exec (.pointRead port tag h elem .clean) s = .next t ∧ t.answer.code = 0x0302 ∧ t.answer.words = [] ∧
          t.pdir = s.pdir) ∧
      (visAdmits d.vis tag.val d.owner → d.acc.testBit (accBit tag.val d.owner 0) = true →
        ∃ t, exec (.pointRead port tag h elem .clean) s = .next t ∧ t.answer = ⟨0, 0, [(s.point h.toNat).elem elem.val], false⟩ ∧
          { t with answer := s.answer } = s))

/-- The elements of an entry: 0 to 2 show the force state of a forced point and the raw state otherwise, 3 to 5 the raw state. -/
def elementsShown : Prop :=
  ∀ p : Point,
    (p.forced = true → p.elem 0 = p.fval ∧ p.elem 1 = 0x20 ∧ p.elem 2 = p.fts) ∧
    (p.forced = false → p.elem 0 = p.value ∧ p.elem 1 = p.qual.zeroExtend 32 ∧ p.elem 2 = p.ts) ∧
    p.elem 3 = p.value ∧ p.elem 4 = p.qual.zeroExtend 32 ∧ p.elem 5 = p.ts ∧ p.elem 6 = p.fval

/-- A read of a point element is decided by tenant, visibility and access rights, and answers what the entry shows. -/
def Obligations.PointsRead : Prop := pointReadDecided ∧ elementsShown

/-- A transaction write: only elements 0 and 1 can be written, only points of source XACT, with the entry's type; a served write
of element 0 stores the value as its type stores it with quality 0x00, stamps it and counts it, and touches neither the
definition, the force state nor another entry. -/
def Obligations.TransactionWriteDecided : Prop :=
  ∀ (s : State) (port : Port) (tag : Tenant) (h : Half) (elem : Fin 8) (ty : PType) (v : Word) (d : PointDef),
    tenantEnabled s tag.val → h.toNat ≤ 8191 → (s.point h.toNat).defn = some d → visAdmits d.vis tag.val d.owner →
    (d.acc.testBit (accBit tag.val d.owner 1) = false ∨ 2 ≤ elem.val →
      ∃ t, exec (.transactionWrite port tag h elem ty v) s = .next t ∧ t.answer.code = 0x0302 ∧ t.pdir = s.pdir) ∧
    (d.acc.testBit (accBit tag.val d.owner 1) = true → elem.val < 2 →
      (d.srcKind ≠ 6 → ∃ t, exec (.transactionWrite port tag h elem ty v) s = .next t ∧ t.answer.code = 0x0303 ∧
        t.pdir = s.pdir) ∧
      (d.srcKind = 6 → ty ≠ d.type → ∃ t, exec (.transactionWrite port tag h elem ty v) s = .next t ∧
        t.answer.code = 0x0304 ∧ t.pdir = s.pdir) ∧
      (d.srcKind = 6 → ty = d.type → elem = 0 → ∃ t, exec (.transactionWrite port tag h elem ty v) s = .next t ∧
        t.answer.code = 0 ∧
        t.point h.toNat = { s.point h.toNat with
          value := if d.type = .bool then (if v = 0 then 0 else 1) else v, qual := 0, ts := BitVec.ofNat 32 s.ltu.now
          upd := (s.point h.toNat).upd + 1 } ∧
        (∀ k, k ≠ h.toNat → t.point k = s.point k) ∧ SameBut [] s t ∧ t.grn = s.grn) ∧
      (d.srcKind = 6 → ty = d.type → elem = 1 → ∃ t, exec (.transactionWrite port tag h elem ty v) s = .next t ∧
        t.answer.code = 0 ∧ (t.point h.toNat).qual = v.truncate 8 ∧ (t.point h.toNat).value = (s.point h.toNat).value ∧
        (∀ k, k ≠ h.toNat → t.point k = s.point k) ∧ SameBut [] s t ∧ t.grn = s.grn))

/-- The table window: a read by a requester without the right returns 0 and no bus error; a served one the entry's word; an
uncorrectable error a bus error, the raw state then 0 with MEM_ERROR; a write of another word than 2, or of another size than
32 bits, is ignored. -/
def Obligations.TableWindow : Prop :=
  ∀ (s : State) (port : Port) (tag : Tenant) (h : Fin 8192) (k : Fin 8) (size : Nat) (v : Word),
    (k.val ≠ 2 ∨ size ≠ 4 → exec (.tableWindowWrite port tag h k size v) s = .next s) ∧
    (∀ d, (s.point h.val).defn = some d → tenantEnabled s tag.val → visAdmits d.vis tag.val d.owner →
      d.acc.testBit (accBit tag.val d.owner 1) = true → d.srcKind = 6 → k = 2 → size = 4 →
      ∃ t, exec (.tableWindowWrite port tag h k size v) s = .next t ∧ (t.point h.val).qual = 0 ∧
        (t.point h.val).value = (if d.type = .bool then (if v = 0 then 0 else 1) else v) ∧
        (∀ j, j ≠ h.val → t.point j = s.point j) ∧ SameBut [] s t) ∧
    ((s.point h.val).defn = none → ∃ t, exec (.tableWindowRead port tag h k .clean) s = .next t ∧ t.answer.words = [0] ∧
      t.answer.busError = false ∧ t.pdir = s.pdir) ∧
    (∀ d, (s.point h.val).defn = some d → tenantEnabled s tag.val → visAdmits d.vis tag.val d.owner →
      (d.acc.testBit (accBit tag.val d.owner 0) = false → ∃ t, exec (.tableWindowRead port tag h k .clean) s = .next t ∧
        t.answer.words = [0] ∧ t.answer.busError = false ∧ t.pdir = s.pdir) ∧
      (d.acc.testBit (accBit tag.val d.owner 0) = true → ∃ t, exec (.tableWindowRead port tag h k .clean) s = .next t ∧
        t.answer.words = [(s.point h.val).windowWord h.val k.val] ∧ t.answer.busError = false ∧ t.pdir = s.pdir ∧ SameBut [] s t)) ∧
    (∀ d, (s.point h.val).defn = some d → ∃ t, exec (.tableWindowRead port tag h k .uncorrectable) s = .next t ∧
      t.answer.busError = true ∧ (t.point h.val).defn = some d ∧ (t.point h.val).qual = 0x87 ∧ (t.point h.val).value = 0 ∧
      t.rd PDIR_EVT_ECC = 1 ∧ ∀ j, j ≠ h.val → t.point j = s.point j)

/-- No rule stands before the judgement of R76 for a force: SUP runs, no power failure, a single module or one in CONTROL. -/
def forceOpen (s : State) : Prop :=
  s.hlt.supRestart = false ∧ s.rd PWR_STAT_SLEEP < 2 ∧ s.rd PWR_STAT_PF = 0 ∧ (s.rd PLK_STAT_ROLE = 0 ∨ s.rd PLK_STAT_STATE = 4)

/-- Forces: a served force replaces what consumers see, with its tenant and time, and leaves the raw state; a release clears the
force state; a release of an unforced point is refused with NOT_FORCED; while SUP restarts both are refused with BUSY; the
completed record stands in the active configuration. -/
def Obligations.ForceAndRelease : Prop :=
  ∀ (s : State) (tag : Tenant) (h : BitVec 13),
    (s.hlt.supRestart = true →
      (∃ t, exec (.force tag h) s = .next t ∧ t.answer.code = 0x0308 ∧ t.answer.reason = 0x03 ∧ t.pdir = s.pdir) ∧
      (∃ t, exec (.release tag h) s = .next t ∧ t.answer.code = 0x0308 ∧ t.answer.reason = 0x03 ∧ t.pdir = s.pdir)) ∧
    (∀ d, forceOpen s → tenantEnabled s tag.val → (s.point h.toNat).defn = some d → visAdmits d.vis tag.val d.owner →
      d.acc.testBit (accBit tag.val d.owner 2) = true → (∀ j ∈ s.pdir.jobs, j.handle ≠ h.toNat) →
      (s.pdir.shadow = none → ∃ t, exec (.force tag h) s = .next t ∧ t.answer.code = 0 ∧
        t.point h.toNat = { s.point h.toNat with
          forced := true, fts := BitVec.ofNat 32 s.ltu.now, ften := tag.val
          fval := if d.type = .bool then (if s.rd PDIR_FVAL_VAL % 2 ^ 32 = 0 then 0 else 1) else BitVec.ofNat 32 (s.rd PDIR_FVAL_VAL) } ∧
        (∀ k, k ≠ h.toNat → t.point k = s.point k) ∧ t.rd PDIR_FRES_DONE = 1 ∧ t.rd PDIR_FRES_CODE = 0 ∧
        ∀ a, t.byte a = s.byte a) ∧
      ((s.point h.toNat).forced = true → ∃ t, exec (.release tag h) s = .next t ∧ t.answer.code = 0 ∧
        t.point h.toNat = { s.point h.toNat with forced := false, fval := 0, fts := 0, ften := 0 } ∧
        (∀ k, k ≠ h.toNat → t.point k = s.point k) ∧ ∀ a, t.byte a = s.byte a) ∧
      ((s.point h.toNat).forced = false → ∃ t, exec (.release tag h) s = .next t ∧ t.answer.code = 0x0306 ∧ t.pdir = s.pdir)) ∧
    (∀ j, s.pdir.jobs = [j] → j.handle = h.toNat → s.rd PLK_STAT_ROLE = 0 →
      ∃ t, exec (.forceRecordComplete h) s = .next t ∧ t.pdir.jobs = [] ∧ t.pdir.points = s.pdir.points ∧ t.answer.code = 0 ∧
        (∀ f, (h.toNat, f) ∈ t.cfg.forces ↔ (s.point h.toNat).forced = true ∧
          f = ⟨(s.point h.toNat).fval, (s.point h.toNat).fts, (s.point h.toNat).ften⟩) ∧
        t.rd (if j.isForce then PDIR_EVT_FORCE_SET else PDIR_EVT_FORCE_REL) = 1)


/-! ## Knaec (spec/04) -/

/-- A Knaec word of its fields (Table 4-1): opcode, form, D, A and the operand of the form. -/
def knWord (op : BitVec 7) (d a : Fin 16) : KArg → Word
  | .reg r => op ++ 0#1 ++ BitVec.ofNat 4 d.val ++ BitVec.ofNat 4 a.val ++ 0#12 ++ BitVec.ofNat 4 r.val
  | .imm v => op ++ 1#1 ++ BitVec.ofNat 4 d.val ++ BitVec.ofNat 4 a.val ++ v

/-- A lane that runs stands at a code word: the engine's clocks run, it has not stopped, the module acts on the field. -/
def knAt (s : State) (l : Fin 8) (w : Word) : Prop :=
  s.cxeRuns = true ∧ (s.cxe.lanes[l]).busy = true ∧
    s.word (0x20000000 + s.rd CXE_STAT_CODE_BANK * 0x100000 + 4 * (s.cxe.lanes[l]).pc) = w

/-- The state with one lane changed and nothing else. -/
def withLane (s : State) (l : Fin 8) (ln : Lane) : State := { s with cxe := { s.cxe with lanes := s.cxe.lanes.set l ln } }

/-- A lane one word on, with a result in D (W15 is not written) and flags. -/
def knStep (ln : Lane) (d : Fin 16) (v : Word) (fl : KFlags) : Lane :=
  { ln with w := if d = 15 then ln.w else ln.w.set d v, fl := fl, pc := ln.pc + 1, ext := none }

/-- A register as an operand: W15 shows the top of the call stack, or 0 (R98). -/
def knReg (ln : Lane) (r : Fin 16) : Word :=
  if r = 15 then (match ln.calls with | [] => 0 | top :: _ => BitVec.ofNat 32 top) else ln.w[r]

/-- The immediate classes (R95): sign-extended, zero-extended, in the high half; an EXT supplies the high half (R96). -/
def knImm (ln : Lane) (v : Half) (plain : Word) : Word := match ln.ext with | some hi => hi ++ v | none => plain
def knS (ln : Lane) : KArg → Word | .reg r => knReg ln r | .imm v => knImm ln v (v.signExtend 32)
def knZ (ln : Lane) : KArg → Word | .reg r => knReg ln r | .imm v => knImm ln v (v.zeroExtend 32)
def knF (ln : Lane) : KArg → Word | .reg r => knReg ln r | .imm v => knImm ln v (v ++ 0#16)

/-- Z and N of a result. -/
def knZn (f : KFlags) (r : Word) : KFlags := { f with z := decide (r = 0), n := decide (r.toInt < 0) }

/-- Arithmetic: results and flags of ADD to CMP (R101, Table 4-3), modulo 2^32; only the lane changes. -/
def Obligations.KnArithmetic : Prop :=
  ∀ (s : State) (l : Fin 8) (d a : Fin 16) (b : KArg),
    let ln := s.cxe.lanes[l]
    let x := knReg ln a
    let y := knS ln b
    let u := knZ ln b
    let puts (c : Instr) (w : Word) (r : Word) (fl : KFlags) : Prop :=
      knAt s l w → exec c s = .next (withLane s l (knStep ln d r fl))
    puts (.knAdd l d a b) (knWord 0x20 d a b) (x + y)
      { knZn ln.fl (x + y) with c := decide (2 ^ 32 ≤ x.toNat + y.toNat), v := decide ((x + y).toInt ≠ x.toInt + y.toInt) } ∧
    puts (.knSub l d a b) (knWord 0x21 d a b) (x - y)
      { knZn ln.fl (x - y) with c := decide (y.toNat ≤ x.toNat), v := decide ((x - y).toInt ≠ x.toInt - y.toInt) } ∧
    puts (.knMul l d a b) (knWord 0x22 d a b) (x * y)
      { knZn ln.fl (x * y) with v := decide ((x * y).toInt ≠ x.toInt * y.toInt) } ∧
    (let r := (x.signExtend 64 * y.signExtend 64).extractLsb' 32 32
     puts (.knMulh l d a b) (knWord 0x23 d a b) r (knZn ln.fl r)) ∧
    puts (.knDiv l d a b) (knWord 0x24 d a b) (x.sdiv y)
      { knZn ln.fl (x.sdiv y) with v := decide (y = 0 ∨ x = 0x80000000 ∧ y = 0xFFFFFFFF) } ∧
    puts (.knDivu l d a b) (knWord 0x25 d a b) (x / u) { knZn ln.fl (x / u) with v := decide (u = 0) } ∧
    (let r := if y = 0 then 0 else x.srem y
     puts (.knMod l d a b) (knWord 0x26 d a b) r
      { knZn ln.fl r with v := decide (y = 0 ∨ x = 0x80000000 ∧ y = 0xFFFFFFFF) }) ∧
    (let r := if u = 0 then 0 else x % u
     puts (.knModu l d a b) (knWord 0x27 d a b) r { knZn ln.fl r with v := decide (u = 0) }) ∧
    puts (.knNeg l d b) (knWord 0x28 d 0 b) (-y)
      { knZn ln.fl (-y) with c := decide (y = 0), v := decide (y = 0x80000000) } ∧
    (let r := if y.toInt < 0 then -y else y
     puts (.knAbs l d b) (knWord 0x29 d 0 b) r { knZn ln.fl r with v := decide (y = 0x80000000) }) ∧
    (let r := if x.toInt ≤ y.toInt then x else y
     puts (.knMin l d a b) (knWord 0x2A d a b) r (knZn ln.fl r)) ∧
    (let r := if x.toInt ≤ y.toInt then y else x
     puts (.knMax l d a b) (knWord 0x2B d a b) r (knZn ln.fl r)) ∧
    (let r := if x.toNat ≤ u.toNat then x else u
     puts (.knMinu l d a b) (knWord 0x2C d a b) r (knZn ln.fl r)) ∧
    (let r := if x.toNat ≤ u.toNat then u else x
     puts (.knMaxu l d a b) (knWord 0x2D d a b) r (knZn ln.fl r)) ∧
    (let m := if (knReg ln d).toInt ≤ x.toInt then x else knReg ln d
     let r := if m.toInt ≤ y.toInt then m else y
     puts (.knLim l d a b) (knWord 0x2E d a b) r (knZn ln.fl r)) ∧
    (knAt s l (knWord 0x2F 0 a b) → exec (.knCmp l a b) s = .next (withLane s l { ln with
      fl := { knZn ln.fl (x - y) with c := decide (y.toNat ≤ x.toNat), v := decide ((x - y).toInt ≠ x.toInt - y.toInt) }
      pc := ln.pc + 1, ext := none }))

/-- Logic and shifts: results and flags of AND to BOOL; a shift's C is the last bit shifted out, by B[5:0]; the logical
instructions keep C, and all of them V; only the lane changes. -/
def Obligations.KnLogicAndShifts : Prop :=
  ∀ (s : State) (l : Fin 8) (d a : Fin 16) (b : KArg),
    let ln := s.cxe.lanes[l]
    let x := knReg ln a
    let y := knZ ln b
    let k := (y.extractLsb' 0 6).toNat
    let puts (c : Instr) (w : Word) (r : Word) (fl : KFlags) : Prop :=
      knAt s l w → exec c s = .next (withLane s l (knStep ln d r fl))
    puts (.knAnd l d a b) (knWord 0x30 d a b) (x &&& y) (knZn ln.fl (x &&& y)) ∧
    puts (.knOr l d a b) (knWord 0x31 d a b) (x ||| y) (knZn ln.fl (x ||| y)) ∧
    puts (.knXor l d a b) (knWord 0x32 d a b) (x ^^^ y) (knZn ln.fl (x ^^^ y)) ∧
    puts (.knNot l d b) (knWord 0x33 d 0 b) (~~~y) (knZn ln.fl (~~~y)) ∧
    puts (.knShl l d a b) (knWord 0x34 d a b) (x <<< k)
      { knZn ln.fl (x <<< k) with c := ((x.zeroExtend 96) <<< k).getLsbD 32 } ∧
    puts (.knShr l d a b) (knWord 0x35 d a b) (x >>> k) { knZn ln.fl (x >>> k) with c := ((x ++ 0#64) >>> k).getLsbD 63 } ∧
    puts (.knSar l d a b) (knWord 0x36 d a b) (x.sshiftRight k)
      { knZn ln.fl (x.sshiftRight k) with c := ((x ++ 0#64).sshiftRight k).getLsbD 63 } ∧
    (knAt s l (knWord 0x37 0 a b) → exec (.knTst l a b) s = .next (withLane s l { ln with
      fl := knZn ln.fl (x &&& y), pc := ln.pc + 1, ext := none })) ∧
    puts (.knBool l d b) (knWord 0x38 d 0 b) (if y = 0 then 0 else 1) { ln.fl with z := decide (y = 0) } ∧
    (knAt s l (knWord 0x10 d 0 b) → exec (.knMov l d b) s = .next (withLane s l (knStep ln d (knS ln b) ln.fl)))

/-! ### REAL32 -/

/-- The number that a finite pattern stands for. -/
def realVal (w : Word) : Rat :=
  let e := (w.extractLsb' 23 8).toNat
  let m := (w.extractLsb' 0 23).toNat
  (if w.msb then -1 else 1) * (if e = 0 then (m : Rat) else (m : Rat) + 2 ^ 23) * (2 : Rat) ^ (((max e 1 : Nat) : Int) - 150)

/-- Patterns by their exponent field: finite, subnormal or zero, NaN, infinity of a sign. -/
def realFinite (w : Word) : Prop := w.extractLsb' 23 8 ≠ 0xFF#8
def realTiny (w : Word) : Prop := w.extractLsb' 23 8 = 0#8
def realNaN (w : Word) : Prop := w.extractLsb' 23 8 = 0xFF#8 ∧ w.extractLsb' 0 23 ≠ 0#23
def realInf (w : Word) : Prop := w = 0x7F800000 ∨ w = 0xFF800000

/-- A zero and an infinity of the sign of a bit. -/
def realZeroOf (neg : Bool) : Word := if neg then 0x80000000 else 0
def realInfOf (neg : Bool) : Word := if neg then 0xFF800000 else 0x7F800000

/-- The number of an operand: a subnormal is read as zero (R102). -/
def realIn (w : Word) : Rat := if w.extractLsb' 23 8 = 0#8 then 0 else realVal w

/-- A pattern is the exact non-zero number `q` rounded to nearest, ties to even, with a subnormal result written as the zero of
its sign and overflow as an infinity, which alone sets V (R102). -/
def realRounds (q : Rat) (w : Word) (v : Bool) : Prop :=
  let top : Rat := 2 ^ 128 - 2 ^ 103
  if top ≤ q then w = 0x7F800000 ∧ v = true
  else if q ≤ -top then w = 0xFF800000 ∧ v = true
  else v = false ∧ ∃ u : Word, realFinite u ∧ u.msb = decide (q < 0) ∧
    (∀ x, realFinite x → (q - realVal u) ^ 2 ≤ (q - realVal x) ^ 2) ∧
    (∀ x, realFinite x → realVal x ≠ realVal u → (q - realVal u) ^ 2 = (q - realVal x) ^ 2 → u.getLsbD 0 = false) ∧
    w = if u.extractLsb' 23 8 = 0#8 then realZeroOf u.msb else u

/-- Flags of a REAL32 result: Z for a zero of either sign, N for a set bit 31 but in a NaN (R99). -/
def realFlags (f : KFlags) (w : Word) : KFlags :=
  { f with z := decide (w.extractLsb' 0 31 = 0#31), n := w.msb && !decide (w.extractLsb' 23 8 = 0xFF#8 ∧ w.extractLsb' 0 23 ≠ 0#23) }

/-- REAL32 arithmetic on finite operands with a result other than zero: one rounding of the exact result (R102), V for overflow;
the square root lies within half a unit of the exact one. -/
def Obligations.KnRealRounds : Prop :=
  ∀ (s : State) (l : Fin 8) (d a : Fin 16) (b : KArg),
    let ln := s.cxe.lanes[l]
    let x := knReg ln a
    let y := knF ln b
    let z := knReg ln d
    let gives (c : Instr) (w : Word) (q : Rat) : Prop :=
      knAt s l w → q ≠ 0 → ∃ r v, realRounds q r v ∧
        exec c s = .next (withLane s l (knStep ln d r { realFlags ln.fl r with v := v }))
    (realFinite x → realFinite y →
      gives (.knFadd l d a b) (knWord 0x40 d a b) (realIn x + realIn y) ∧
      gives (.knFsub l d a b) (knWord 0x41 d a b) (realIn x - realIn y) ∧
      gives (.knFmul l d a b) (knWord 0x42 d a b) (realIn x * realIn y) ∧
      (realIn y ≠ 0 → gives (.knFdiv l d a b) (knWord 0x43 d a b) (realIn x / realIn y)) ∧
      (realFinite z → gives (.knFma l d a b) (knWord 0x45 d a b) (realIn z + realIn x * realIn y))) ∧
    (realFinite y → 0 < realIn y → knAt s l (knWord 0x44 d 0 b) → ∃ r, realFinite r ∧ ¬ realTiny r ∧ r.msb = false ∧
      ((realVal (r - 1) + realVal r) / 2) ^ 2 ≤ realIn y ∧ realIn y ≤ ((realVal r + realVal (r + 1)) / 2) ^ 2 ∧
      exec (.knFsqrt l d b) s = .next (withLane s l (knStep ln d r { realFlags ln.fl r with v := false }))) ∧
    (knAt s l (knWord 0x4C d 0 b) → knS ln b ≠ 0 → ∃ r, realRounds ((knS ln b).toInt : Rat) r false ∧
      exec (.knItof l d b) s = .next (withLane s l (knStep ln d r (realFlags ln.fl r)))) ∧
    (knAt s l (knWord 0x4D d 0 b) → knZ ln b ≠ 0 → ∃ r, realRounds ((knZ ln b).toNat : Rat) r false ∧
      exec (.knUtof l d b) s = .next (withLane s l (knStep ln d r (realFlags ln.fl r))))

/-- REAL32 arithmetic elsewhere (R102): a NaN operand and every invalid operation write 0x7FC0_0000 and set V, infinities pass on,
a division of a number other than zero by zero writes an infinity and sets V, exact zeros have the sign of IEEE 754.
That ∞ / 0 sets V is the model's reading (log entry 7). -/
def Obligations.KnRealSpecial : Prop :=
  ∀ (s : State) (l : Fin 8) (d a : Fin 16) (b : KArg),
    let ln := s.cxe.lanes[l]
    let x := knReg ln a
    let y := knF ln b
    let z := knReg ln d
    let sg := x.msb != y.msb
    let puts (c : Instr) (w : Word) (r : Word) (v : Bool) : Prop :=
      knAt s l w → exec c s = .next (withLane s l (knStep ln d r { realFlags ln.fl r with v := v }))
    let nan (c : Instr) (w : Word) : Prop := puts c w 0x7FC00000 true
    (realNaN x ∨ realNaN y → nan (.knFadd l d a b) (knWord 0x40 d a b) ∧ nan (.knFsub l d a b) (knWord 0x41 d a b) ∧
      nan (.knFmul l d a b) (knWord 0x42 d a b) ∧ nan (.knFdiv l d a b) (knWord 0x43 d a b)) ∧
    (realNaN x ∨ realNaN y ∨ realNaN z → nan (.knFma l d a b) (knWord 0x45 d a b)) ∧
    (realInf x → realInf y → (x = y → nan (.knFsub l d a b) (knWord 0x41 d a b) ∧ puts (.knFadd l d a b) (knWord 0x40 d a b) x false) ∧
      (x ≠ y → nan (.knFadd l d a b) (knWord 0x40 d a b) ∧ puts (.knFsub l d a b) (knWord 0x41 d a b) x false) ∧
      nan (.knFdiv l d a b) (knWord 0x43 d a b)) ∧
    (realInf x → realFinite y → puts (.knFadd l d a b) (knWord 0x40 d a b) x false ∧ puts (.knFsub l d a b) (knWord 0x41 d a b) x false) ∧
    (realFinite x → realInf y → puts (.knFadd l d a b) (knWord 0x40 d a b) y false ∧
      puts (.knFsub l d a b) (knWord 0x41 d a b) (y ^^^ 0x80000000) false ∧
      puts (.knFdiv l d a b) (knWord 0x43 d a b) (realZeroOf sg) false) ∧
    (realInf x → realFinite y → ¬ realTiny y → puts (.knFdiv l d a b) (knWord 0x43 d a b) (realInfOf sg) false) ∧
    (¬ realNaN z → realInf x ∧ realTiny y ∨ realTiny x ∧ realInf y → nan (.knFma l d a b) (knWord 0x45 d a b)) ∧
    (¬ realNaN z → realInf x ∧ ¬ realTiny y ∧ ¬ realNaN y ∨ realInf y ∧ ¬ realTiny x ∧ ¬ realNaN x →
      (z = realInfOf (!sg) → nan (.knFma l d a b) (knWord 0x45 d a b)) ∧
      (z ≠ realInfOf (!sg) → puts (.knFma l d a b) (knWord 0x45 d a b) (realInfOf sg) false)) ∧
    (realFinite x → realFinite y → (realInf z → puts (.knFma l d a b) (knWord 0x45 d a b) z false) ∧
      (realFinite z → realIn z + realIn x * realIn y = 0 → puts (.knFma l d a b) (knWord 0x45 d a b)
        (realZeroOf (sg && z.msb && decide (realIn z = 0))) false)) ∧
    (realInf x ∧ realTiny y ∨ realTiny x ∧ realInf y → nan (.knFmul l d a b) (knWord 0x42 d a b)) ∧
    (realInf x ∧ ¬ realTiny y ∧ ¬ realNaN y ∨ realInf y ∧ ¬ realTiny x ∧ ¬ realNaN x →
      puts (.knFmul l d a b) (knWord 0x42 d a b) (realInfOf sg) false) ∧
    (realFinite x → realFinite y →
      (realIn x + realIn y = 0 → puts (.knFadd l d a b) (knWord 0x40 d a b)
        (realZeroOf (x.msb && y.msb && decide (realIn x = 0))) false) ∧
      (realIn x - realIn y = 0 → puts (.knFsub l d a b) (knWord 0x41 d a b)
        (realZeroOf (x.msb && !y.msb && decide (realIn x = 0))) false) ∧
      (realIn x * realIn y = 0 → puts (.knFmul l d a b) (knWord 0x42 d a b) (realZeroOf sg) false) ∧
      (realTiny x → realTiny y → nan (.knFdiv l d a b) (knWord 0x43 d a b)) ∧
      (realTiny x → ¬ realTiny y → puts (.knFdiv l d a b) (knWord 0x43 d a b) (realZeroOf sg) false)) ∧
    (¬ realTiny x → ¬ realNaN x → realTiny y → puts (.knFdiv l d a b) (knWord 0x43 d a b) (realInfOf sg) true) ∧
    (realNaN y ∨ y.msb = true ∧ ¬ realTiny y → nan (.knFsqrt l d b) (knWord 0x44 d 0 b)) ∧
    (realTiny y → puts (.knFsqrt l d b) (knWord 0x44 d 0 b) (realZeroOf y.msb) false) ∧
    (y = 0x7F800000 → puts (.knFsqrt l d b) (knWord 0x44 d 0 b) y false) ∧
    (knAt s l (knWord 0x4C d 0 b) → knS ln b = 0 →
      exec (.knItof l d b) s = .next (withLane s l (knStep ln d 0 (realFlags ln.fl 0)))) ∧
    (knAt s l (knWord 0x4D d 0 b) → knZ ln b = 0 →
      exec (.knUtof l d b) s = .next (withLane s l (knStep ln d 0 (realFlags ln.fl 0))))

/-- The lesser or greater of two REAL32 operands by R102: a NaN loses to a number, two NaNs give the quiet NaN, −0.0 counts below
+0.0, and a subnormal counts and is written as the zero of its sign. -/
def realPick (less : Bool) (x y r : Word) : Prop :=
  let flat (w : Word) : Word := if w.extractLsb' 23 8 = 0#8 then realZeroOf w.msb else w
  (realNaN x ∧ realNaN y → r = 0x7FC00000) ∧ (realNaN x ∧ ¬ realNaN y → r = flat y) ∧ (¬ realNaN x ∧ realNaN y → r = flat x) ∧
  (¬ realNaN x ∧ ¬ realNaN y → (r = flat x ∨ r = flat y) ∧
    (flat x ≠ flat y → realFinite x → realFinite y →
      (realIn x < realIn y ∨ realIn x = realIn y ∧ x.msb = true → r = if less then flat x else flat y) ∧
      (realIn y < realIn x ∨ realIn x = realIn y ∧ y.msb = true → r = if less then flat y else flat x)) ∧
    (x = 0x7F800000 ∨ y = 0xFF800000 → r = if less then flat y else flat x) ∧
    (x = 0xFF800000 ∨ y = 0x7F800000 → r = if less then flat x else flat y))

/-- FNEG and FABS act on bit 31 alone; FMIN, FMAX and FLIM pick an operand; FCMP sets the flags of Table 4-2; FTOI and FTOU
truncate and saturate, FRND rounds to a whole number, ties to even (R102, R103). -/
def Obligations.KnRealSelectConvert : Prop :=
  ∀ (s : State) (l : Fin 8) (d a : Fin 16) (b : KArg),
    let ln := s.cxe.lanes[l]
    let x := knReg ln a
    let y := knF ln b
    let gives (c : Instr) (w : Word) (p : Word → Prop) : Prop :=
      knAt s l w → ∃ r, p r ∧ exec c s = .next (withLane s l (knStep ln d r (realFlags ln.fl r)))
    gives (.knFneg l d b) (knWord 0x46 d 0 b) (fun r => r = ~~~ (y.extractLsb' 31 1) ++ y.extractLsb' 0 31) ∧
    gives (.knFabs l d b) (knWord 0x47 d 0 b) (fun r => r = 0#1 ++ y.extractLsb' 0 31) ∧
    gives (.knFmin l d a b) (knWord 0x48 d a b) (realPick true x y) ∧
    gives (.knFmax l d a b) (knWord 0x49 d a b) (realPick false x y) ∧
    gives (.knFlim l d a b) (knWord 0x4A d a b) (fun r => ∃ m, realPick false (knReg ln d) x m ∧ realPick true m y r) ∧
    (knAt s l (knWord 0x4B 0 a b) →
      let cmp (zf nf cf vf : Bool) : Prop := exec (.knFcmp l a b) s = .next (withLane s l { ln with
        fl := { ln.fl with z := zf, n := nf, c := cf, v := vf }, pc := ln.pc + 1, ext := none })
      (realNaN x ∨ realNaN y → cmp false false false true) ∧
      (realFinite x → realFinite y →
        (realIn x = realIn y → cmp true false true false) ∧ (realIn x < realIn y → cmp false true false false) ∧
        (realIn y < realIn x → cmp false false true false)) ∧
      (realInf x → y = x → cmp true false true false) ∧
      (¬ realNaN x → ¬ realNaN y → x ≠ y → (x = 0xFF800000 ∨ y = 0x7F800000 → cmp false true false false) ∧
        (x = 0x7F800000 ∨ y = 0xFF800000 → cmp false false true false))) ∧
    (∀ (lo hi : Int) (c : Instr) (w : Word),
      (lo = -2147483648 ∧ hi = 2147483647 ∧ c = .knFtoi l d b ∧ w = knWord 0x4E d 0 b) ∨
      (lo = 0 ∧ hi = 4294967295 ∧ c = .knFtou l d b ∧ w = knWord 0x4F d 0 b) → knAt s l w →
      let puts (n : Int) (v : Bool) : Prop := exec c s = .next (withLane s l (knStep ln d (BitVec.ofInt 32 n)
        { knZn ln.fl (BitVec.ofInt 32 n) with v := v }))
      (realNaN y → puts 0 true) ∧ (y = 0x7F800000 → puts hi true) ∧ (y = 0xFF800000 → puts lo true) ∧
      (realFinite y → ∀ t : Int, (t = if realIn y < 0 then -(-realIn y).floor else (realIn y).floor) →
        (t < lo → puts lo true) ∧ (hi < t → puts hi true) ∧ (lo ≤ t → t ≤ hi → puts t false))) ∧
    (knAt s l (knWord 0x50 d 0 b) →
      (¬ realFinite y → exec (.knFrnd l d b) s = .next (withLane s l (knStep ln d (if y.extractLsb' 0 23 = 0#23 then y else 0x7FC00000)
        { realFlags ln.fl (if y.extractLsb' 0 23 = 0#23 then y else 0x7FC00000) with
          v := decide (y.extractLsb' 0 23 ≠ 0#23) }))) ∧
      (realFinite y → ∃ (r : Word) (n : Int), realFinite r ∧ realVal r = n ∧ r.msb = y.msb ∧
        2 * (realIn y - n) ≤ 1 ∧ -1 ≤ 2 * (realIn y - n) ∧ ((2 * (realIn y - n)) ^ 2 = 1 → n % 2 = 0) ∧
        exec (.knFrnd l d b) s = .next (withLane s l (knStep ln d r { realFlags ln.fl r with v := false }))))

/-! ### Control, data, points and cells -/

/-- A form without operands but a 16-bit field: opcode, form 1, D, A and the field. -/
def knImmWord (op : BitVec 7) (d a : Fin 16) (v : Half) : Word := knWord op d a (.imm v)
def knBareWord (op : BitVec 7) (a : Fin 16) : Word := knWord op 0 a (.reg 0)

/-- A condition of Table 4-4. -/
def knHolds (f : KFlags) (cond : Fin 16) : Prop :=
  match cond.val with
  | 0 => True
  | 1 => f.z = true
  | 2 => f.z = false
  | 3 => f.n ≠ f.v
  | 4 => f.n = f.v
  | 5 => f.z = true ∨ f.n ≠ f.v
  | 6 => f.z = false ∧ f.n = f.v
  | 7 => f.c = false
  | 8 => f.c = true
  | 9 => f.c = false ∨ f.z = true
  | 10 => f.c = true ∧ f.z = false
  | 11 => f.n = true
  | 12 => f.v = true
  | 13 => f.v = false
  | 14 => f.q = true
  | _ => f.q = false

/-- FCMP and the conditions after it (R103, Table 4-2): Z, N, C and V by the relation of its operands, Q and every register as before;
the conditions EQ to GT then give the ordered relation, and for operands of which one is NaN LT, LE and VS hold, GE and GT not. -/
def Obligations.KnCompareConditions : Prop :=
  ∀ (s : State) (l : Fin 8) (a : Fin 16) (b : KArg), knAt s l (knWord 0x4B 0 a b) →
    let ln := s.cxe.lanes[l]
    let x := knReg ln a
    let y := knF ln b
    let eq := (realFinite x ∧ realFinite y ∧ realIn x = realIn y) ∨ (realInf x ∧ x = y)
    let lt (p q : Word) : Prop := (realFinite p ∧ realFinite q ∧ realIn p < realIn q) ∨ (p ≠ q ∧ (p = 0xFF800000 ∨ q = 0x7F800000))
    let ordered := ¬ realNaN x ∧ ¬ realNaN y
    ∃ fl : KFlags, exec (.knFcmp l a b) s = .next (withLane s l { ln with fl := fl, pc := ln.pc + 1, ext := none }) ∧ fl.q = ln.fl.q ∧
      (ordered → (eq ∨ lt x y ∨ lt y x) ∧ fl.v = false ∧ (eq → (fl.z, fl.n, fl.c) = (true, false, true)) ∧
        (lt x y → (fl.z, fl.n, fl.c) = (false, true, false)) ∧ (lt y x → (fl.z, fl.n, fl.c) = (false, false, true)) ∧
        (knHolds fl 1 ↔ eq) ∧ (knHolds fl 2 ↔ ¬ eq) ∧ (knHolds fl 3 ↔ lt x y) ∧ (knHolds fl 4 ↔ ¬ lt x y) ∧
        (knHolds fl 5 ↔ lt x y ∨ eq) ∧ (knHolds fl 6 ↔ lt y x)) ∧
      (¬ ordered → (fl.z, fl.n, fl.c, fl.v) = (false, false, false, true) ∧ knHolds fl 3 ∧ knHolds fl 5 ∧ ¬ knHolds fl 4 ∧
        ¬ knHolds fl 6 ∧ knHolds fl 12)

/-- Control flow: NOP, EXT, BR, CALL, RET with a return address, CASE, SET, LOOP, ENDL and BRK change their lane alone. LOOP runs
its body from index 0, ENDL repeats it with the next index while iterations are left, BRK leaves it with the index kept; a LOOP of
0 and a BRK go behind the ENDL, here one that no inner LOOP, ENDL or CASE precedes; END, and RET without an address, free the lane
and keep every other lane's registers. -/
def Obligations.KnControlFlow : Prop :=
  ∀ (s : State) (l : Fin 8) (d a cond : Fin 16) (v : Half),
    let ln := s.cxe.lanes[l]
    let does (c : Instr) (w : Word) (ln' : Lane) : Prop := knAt s l w → exec c s = .next (withLane s l ln')
    let next : Lane := { ln with pc := ln.pc + 1, ext := none }
    let far : Nat := (knImm ln v (v.zeroExtend 32)).toNat
    let codeAt (k : Nat) : Word := s.word (0x20000000 + s.rd CXE_STAT_CODE_BANK * 0x100000 + 4 * k)
    let endlAt (e : Nat) : Prop := ln.pc < e ∧ e < 262144 ∧ (codeAt e).extractLsb' 25 7 = 0x07 ∧
      ∀ k, ln.pc < k → k < e → (codeAt k).extractLsb' 25 7 ≠ 0x06 ∧ (codeAt k).extractLsb' 25 7 ≠ 0x07 ∧
        (codeAt k).extractLsb' 25 7 ≠ 0x09
    does (.knNop l) (knBareWord 0x00 0) next ∧
    does (.knExt l v) (knImmWord 0x01 0 0 v) { next with ext := some v } ∧
    (knHolds ln.fl cond → does (.knBr l cond v) (knImmWord 0x03 cond 0 v) { next with pc := ln.pc + 1 + far }) ∧
    (¬ knHolds ln.fl cond → does (.knBr l cond v) (knImmWord 0x03 cond 0 v) next) ∧
    (∀ (r : BitVec 12) (p : Prog), ln.calls.length < 8 → s.cxe.prog = some p → does (.knCall l r) (knImmWord 0x04 0 0 (0#4 ++ r))
      { next with pc := (p.routines.getD r.toNat (0, 0)).1, calls := (ln.pc + 1) :: ln.calls }) ∧
    (∀ back rest, ln.calls = back :: rest → does (.knRet l) (knBareWord 0x05 0)
      { next with pc := back, calls := rest, loops := ln.loops.filter fun x => decide (x.level ≤ rest.length) }) ∧
    (v ≠ 0 → (ln.loops.filter fun x => x.level == ln.calls.length).length < 4 →
      does (.knLoop l d v) (knImmWord 0x06 d 0 v) { knStep ln d 0 ln.fl with
        loops := ⟨v.toNat - 1, 0, d, ln.pc + 1, ln.calls.length⟩ :: ln.loops }) ∧
    (∀ e, v = 0 → endlAt e → does (.knLoop l d v) (knImmWord 0x06 d 0 v) { next with pc := e + 1 }) ∧
    (∀ r rest, ln.loops = r :: rest →
      (r.left = 0 → does (.knEndl l) (knBareWord 0x07 0) { next with loops := rest }) ∧
      (r.left ≠ 0 → does (.knEndl l) (knBareWord 0x07 0) { knStep ln r.reg (BitVec.ofNat 32 (r.idx + 1)) ln.fl with
        pc := r.body, loops := { r with left := r.left - 1, idx := r.idx + 1 } :: rest }) ∧
      (¬ knHolds ln.fl cond → does (.knBrk l cond) (knImmWord 0x08 cond 0 0) next) ∧
      (∀ e, knHolds ln.fl cond → endlAt e → does (.knBrk l cond) (knImmWord 0x08 cond 0 0) { next with pc := e + 1, loops := rest })) ∧
    (let i := (knReg ln a).toNat
     does (.knCase l a v) (knImmWord 0x09 0 a v) { next with pc := ln.pc + 1 + v.toNat +
      (if i < v.toNat then ((codeAt (ln.pc + 1 + i)).extractLsb' 0 16).toNat else 0) }) ∧
    (∀ r : Word, (knHolds ln.fl cond → r = 1) → (¬ knHolds ln.fl cond → r = 0) →
      does (.knSet l d cond) (knImmWord 0x0A d 0 (BitVec.ofNat 16 cond.val)) (knStep ln d r ln.fl)) ∧
    (∀ c w, (c = .knEnd l ∧ w = knBareWord 0x02 0) ∨ (c = .knRet l ∧ w = knBareWord 0x05 0 ∧ ln.calls = []) → knAt s l w →
      ∃ t, exec c s = .next t ∧ t.cxe.lanes = s.cxe.lanes.set l Lane.idle)

/-- Data and system instructions. LDD reads the aligned data image word of the task's tenant and STD writes it, its word of memory
alone; out of range LDD gives 0, no byte changes and the task's fault counter counts; LTA gives an item of the activation's time,
LOG hands Granary the application event, SLEEP notes a state 1 to 3 and ignores another value. -/
def Obligations.KnDataAndSystem : Prop :=
  ∀ (s : State) (l : Fin 8) (d a : Fin 16) (v : Half),
    let ln := s.cxe.lanes[l]
    let ten := s.taskTen ln.task
    let sum := knReg ln a + knImm ln v (v.signExtend 32)
    let off := (sum.extractLsb' 2 30 ++ 0#2).toNat
    let at_ := 0x21000000 + off
    let step (r : Word) : Lane := knStep ln d r ln.fl
    let next : Lane := { ln with pc := ln.pc + 1, ext := none }
    (knAt s l (knImmWord 0x11 d a v) → s.inRange ten off = true →
      exec (.knLdd l d a v .clean) s = .next (withLane s l (step (s.word at_))) ∧
      (∃ t, exec (.knLdd l d a v .corrected) s = .next t ∧ t.cxe = (withLane s l (step (s.word at_))).cxe ∧
        t.rd HLT_ERR_A_ECC = satInc (2 ^ HLT_ERR_A_ECC.width - 1) (s.rd HLT_ERR_A_ECC) ∧ SameBut [HLT_ERR_A_ECC] s t) ∧
      (∃ t, exec (.knLdd l d a v .uncorrectable) s = .next t ∧ t.cxe.lanes = s.cxe.lanes.set l (step 0) ∧
        t.rd CXE_EVT_MEM_FAULT = 1 ∧ ∀ b, t.byte b = s.byte b)) ∧
    (ln.task < 32 → s.inRange ten off = false → ∀ (c : Instr) (w : Word) (ln' : Lane),
      (∃ e, c = .knLdd l d a v e ∧ w = knImmWord 0x11 d a v ∧ ln' = step 0) ∨
      (c = .knStd l d a v ∧ w = knImmWord 0x12 d a v ∧ ln' = next) → knAt s l w →
      ∃ t, exec c s = .next t ∧ t.cxe.lanes = s.cxe.lanes.set l ln' ∧ (∀ b, t.byte b = s.byte b) ∧
        t.rd (CXE_TASK_FLT_FAULT ln.task) = satInc (2 ^ (CXE_TASK_FLT_FAULT ln.task).width - 1) (s.rd (CXE_TASK_FLT_FAULT ln.task)) ∧
        t.pdir = s.pdir) ∧
    (knAt s l (knImmWord 0x12 d a v) → s.inRange ten off = true →
      ∃ t, exec (.knStd l d a v) s = .next t ∧ t.cxe.lanes = s.cxe.lanes.set l next ∧ t.word at_ = knReg ln d ∧
        (∀ b, b < at_ ∨ at_ + 4 ≤ b → t.byte b = s.byte b) ∧ t.pdir = s.pdir ∧
        (s.rd CXE_STAT_SNAP_BUSY = 0 → ∀ g, t.rd g = s.rd g)) ∧
    (∀ (x : Act), s.cxe.acts = [x] → x.lane = some l → x.ended = false → x.task = ln.task →
      (∀ item : Fin 4, knAt s l (knImmWord 0x0D d 0 (BitVec.ofNat 16 item.val)) →
        exec (.knLta l d item) s = .next (withLane s l (step (BitVec.ofNat 32
          (match item.val with | 0 => x.due | 1 => x.due / 2 ^ 32 | 2 => min x.late 0xFFFFFFFF | _ => x.ms))))) ∧
      (∀ e : BitVec 12, knAt s l (knImmWord 0x0C 0 a (0#4 ++ e)) → exec (.knLog l a e) s =
        .next ((withLane s l next).logAt 2 (0xA000 + e.toNat) ten x.due [.n1 ln.task, .n4 (knReg ln a).toNat])) ∧
      (knAt s l (knBareWord 0x0B a) →
        (1 ≤ (knReg ln a).toNat → (knReg ln a).toNat ≤ 3 → ∃ t, exec (.knSleep l a) s = .next t ∧
          t.cxe.acts = [{ x with sleep := some (knReg ln a).toNat }] ∧
          t = { withLane s l next with cxe := { (withLane s l next).cxe with acts := t.cxe.acts } }) ∧
        ((knReg ln a).toNat = 0 ∨ 3 < (knReg ln a).toNat → exec (.knSleep l a) s = .next (withLane s l next))))

/-- Point instructions: PRD loads an element of the activation's copy, with Z and N of the loaded word and Q of the copied
quality; PWR stages a value, and the quality of W(D) for ELEM 1, 0x86 in place of one that a task may not stage, and a later write
of the handle replaces it; neither reaches the point directory. -/
def Obligations.KnPoints : Prop :=
  ∀ (s : State) (l : Fin 8) (d a : Fin 16) (h : BitVec 13) (x : Act),
    let ln := s.cxe.lanes[l]
    let next : Lane := { ln with pc := ln.pc + 1, ext := none }
    s.cxe.acts = [x] → x.lane = some l → x.ended = false → x.task = ln.task →
    (∀ (e : Fin 8) (es : List Word), knAt s l (knImmWord 0x60 d 0 (BitVec.ofNat 3 e.val ++ h)) →
      (x.image.find? fun p => p.1 == h.toNat) = some (h.toNat, es) → es.length = 8 →
      exec (.knPrd l d e h) s = .next (withLane s l (knStep ln d (es.getD e.val 0)
        { knZn ln.fl (es.getD e.val 0) with q := decide (es.getD 1 0 = 0 ∨ es.getD 1 0 = 0x20) }))) ∧
    (∀ wq : Bool, (wq = true ∨ d = 0) → knAt s l (knImmWord 0x61 d a ((if wq then 1#3 else 0#3) ++ h)) →
      ∃ t w, exec (.knPwr l d a wq h) s = .next t ∧ t.cxe.lanes = s.cxe.lanes.set l next ∧ w.handle = h.toNat ∧
        w.value = knReg ln a ∧
        w.qual = (if wq then (if (knReg ln d).extractLsb' 0 8 ∈ ([0x00, 0x41, 0x42, 0x43, 0x44, 0x81, 0x82, 0x83, 0x84, 0x85, 0x86] : List Byte)
          then (knReg ln d).extractLsb' 0 8 else 0x86) else 0) ∧
        (t.cxe.acts.map Act.staged) = [(x.staged.filter fun y => decide (y.handle ≠ h.toNat)) ++ [w]] ∧
        t.pdir = s.pdir ∧ ∀ b, t.byte b = s.byte b)

/-- Elapsed time of a timer cell at `now` (R117): kept at the preset once reached, and never over it. -/
def knElapsed (c : TimerCell) (now : Nat) : Nat :=
  if c.preset ≤ c.elapsed then c.preset else min c.preset (max c.elapsed ((now + 2 ^ 32 - c.start) % 2 ^ 32))

/-- Timer and edge cells: TMR evaluates TON, TOF and TP by R117, TET gives the elapsed time, TPS sets the preset, TRS clears the
cell, EDG compares with the stored input; each changes its lane and its cell's bytes alone. -/
def Obligations.KnCells : Prop :=
  ∀ (s : State) (l : Fin 8) (d a : Fin 16) (cell : BitVec 12) (x : Act),
    let ln := s.cxe.lanes[l]
    let next : Lane := { ln with pc := ln.pc + 1, ext := none }
    let inp : Bool := decide (knReg ln a ≠ 0)
    let p := s.physCell false cell.toNat
    let q := s.physCell true cell.toNat
    let c := s.timer p
    let out (o : Bool) : Lane := knStep ln d (if o then 1 else 0) { ln.fl with z := !o }
    let keeps (t : State) : Prop :=
      (∀ b, b < 0x211D0000 + 16 * p ∨ 0x211D0000 + 16 * p + 16 ≤ b → t.byte b = s.byte b) ∧ t.pdir = s.pdir
    s.cxe.acts = [x] → x.lane = some l → x.ended = false → x.task = ln.task → x.ms < 2 ^ 32 →
    (∀ k : Fin 3, knAt s l (knImmWord 0x70 d a (0#2 ++ BitVec.ofNat 2 k.val ++ cell)) →
      ∃ t, exec (.knTmr l d a k cell) s = .next t ∧ t.cxe.lanes = s.cxe.lanes.set l (out (t.timer p).output) ∧ keeps t ∧
        let c' := t.timer p
        c'.preset = c.preset ∧ c'.input = inp ∧
        (k = 0 → (inp = false → c'.running = false ∧ c'.elapsed = 0 ∧ c'.output = false) ∧
          (inp = true → c'.running = true ∧ (c.running = false → c'.start = x.ms ∧ c'.output = decide (c.preset = 0)) ∧
            (c.running = true → c'.start = c.start ∧ c'.elapsed = knElapsed c x.ms ∧
              c'.output = decide (c.preset ≤ knElapsed c x.ms)))) ∧
        (k = 1 → (inp = true → c'.running = false ∧ c'.elapsed = 0 ∧ c'.output = true) ∧
          (inp = false → c.input = true → c'.running = true ∧ c'.start = x.ms ∧ c'.output = decide (c.preset ≠ 0)) ∧
          (inp = false → c.input = false → c.running = true → c'.running = true ∧ c'.start = c.start ∧
            c'.output = decide (knElapsed c x.ms < c.preset)) ∧
          (inp = false → c.input = false → c.running = false → c'.running = false)) ∧
        (k = 2 → (inp = true → c.input = false → c.running = false → c'.start = x.ms ∧ c'.running = true ∧
            c'.output = decide (c.preset ≠ 0)) ∧
          (c.running = true → knElapsed c x.ms < c.preset → c'.running = true ∧ c'.output = true ∧ c'.start = c.start) ∧
          (c.running = true → c.preset ≤ knElapsed c x.ms → c'.running = inp ∧ c'.output = false))) ∧
    (knAt s l (knImmWord 0x71 d 0 (0#4 ++ cell)) → exec (.knTet l d cell) s = .next (withLane s l
      (knStep ln d (BitVec.ofNat 32 (if c.running then knElapsed c x.ms else min c.preset c.elapsed)) ln.fl))) ∧
    (knAt s l (knImmWord 0x72 0 a (0#4 ++ cell)) → ∃ t, exec (.knTps l a cell) s = .next t ∧ keeps t ∧
      t.timer p = { c with preset := (knReg ln a).toInt.toNat } ∧
      t.cxe.lanes = s.cxe.lanes.set l { next with fl := { ln.fl with v := decide ((knReg ln a).toInt < 0) } }) ∧
    (knAt s l (knImmWord 0x73 0 0 (0#4 ++ cell)) → ∃ t, exec (.knTrs l cell) s = .next t ∧ keeps t ∧
      t.timer p = { c with running := false, elapsed := 0, output := false, input := false } ∧
      t.cxe.lanes = s.cxe.lanes.set l next) ∧
    (∀ k : Fin 3, knAt s l (knImmWord 0x74 d a (0#2 ++ BitVec.ofNat 2 k.val ++ cell)) →
      ∃ t, exec (.knEdg l d a k cell) s = .next t ∧ (∀ r, t.edgeBit r = if r = q then inp else s.edgeBit r) ∧ t.pdir = s.pdir ∧
        (∀ b, b < 0x211E0000 + q / 32 * 4 ∨ 0x211E0000 + q / 32 * 4 + 4 ≤ b → t.byte b = s.byte b) ∧
        t.cxe.lanes = s.cxe.lanes.set l (out (match k.val with
          | 0 => inp && !s.edgeBit q | 1 => !inp && s.edgeBit q | _ => inp != s.edgeBit q)))

/-- The lane and the word of a Knaec command, from Table 4-1 and Table 4-5. -/
def knCode : Instr → Option (Fin 8 × Word)
  | .knNop l => some (l, knBareWord 0x00 0)
  | .knExt l v => some (l, knImmWord 0x01 0 0 v)
  | .knEnd l => some (l, knBareWord 0x02 0)
  | .knBr l c v => some (l, knImmWord 0x03 c 0 v)
  | .knCall l r => some (l, knImmWord 0x04 0 0 (0#4 ++ r))
  | .knRet l => some (l, knBareWord 0x05 0)
  | .knLoop l d v => some (l, knImmWord 0x06 d 0 v)
  | .knEndl l => some (l, knBareWord 0x07 0)
  | .knBrk l c => some (l, knImmWord 0x08 c 0 0)
  | .knCase l a v => some (l, knImmWord 0x09 0 a v)
  | .knSet l d c => some (l, knImmWord 0x0A d 0 (BitVec.ofNat 16 c.val))
  | .knSleep l a => some (l, knBareWord 0x0B a)
  | .knLog l a e => some (l, knImmWord 0x0C 0 a (0#4 ++ e))
  | .knLta l d i => some (l, knImmWord 0x0D d 0 (BitVec.ofNat 16 i.val))
  | .knMov l d b => some (l, knWord 0x10 d 0 b)
  | .knLdd l d a v .clean => some (l, knImmWord 0x11 d a v)
  | .knStd l d a v => some (l, knImmWord 0x12 d a v)
  | .knAdd l d a b => some (l, knWord 0x20 d a b)
  | .knSub l d a b => some (l, knWord 0x21 d a b)
  | .knMul l d a b => some (l, knWord 0x22 d a b)
  | .knMulh l d a b => some (l, knWord 0x23 d a b)
  | .knDiv l d a b => some (l, knWord 0x24 d a b)
  | .knDivu l d a b => some (l, knWord 0x25 d a b)
  | .knMod l d a b => some (l, knWord 0x26 d a b)
  | .knModu l d a b => some (l, knWord 0x27 d a b)
  | .knNeg l d b => some (l, knWord 0x28 d 0 b)
  | .knAbs l d b => some (l, knWord 0x29 d 0 b)
  | .knMin l d a b => some (l, knWord 0x2A d a b)
  | .knMax l d a b => some (l, knWord 0x2B d a b)
  | .knMinu l d a b => some (l, knWord 0x2C d a b)
  | .knMaxu l d a b => some (l, knWord 0x2D d a b)
  | .knLim l d a b => some (l, knWord 0x2E d a b)
  | .knCmp l a b => some (l, knWord 0x2F 0 a b)
  | .knAnd l d a b => some (l, knWord 0x30 d a b)
  | .knOr l d a b => some (l, knWord 0x31 d a b)
  | .knXor l d a b => some (l, knWord 0x32 d a b)
  | .knNot l d b => some (l, knWord 0x33 d 0 b)
  | .knShl l d a b => some (l, knWord 0x34 d a b)
  | .knShr l d a b => some (l, knWord 0x35 d a b)
  | .knSar l d a b => some (l, knWord 0x36 d a b)
  | .knTst l a b => some (l, knWord 0x37 0 a b)
  | .knBool l d b => some (l, knWord 0x38 d 0 b)
  | .knFadd l d a b => some (l, knWord 0x40 d a b)
  | .knFsub l d a b => some (l, knWord 0x41 d a b)
  | .knFmul l d a b => some (l, knWord 0x42 d a b)
  | .knFdiv l d a b => some (l, knWord 0x43 d a b)
  | .knFsqrt l d b => some (l, knWord 0x44 d 0 b)
  | .knFma l d a b => some (l, knWord 0x45 d a b)
  | .knFneg l d b => some (l, knWord 0x46 d 0 b)
  | .knFabs l d b => some (l, knWord 0x47 d 0 b)
  | .knFmin l d a b => some (l, knWord 0x48 d a b)
  | .knFmax l d a b => some (l, knWord 0x49 d a b)
  | .knFlim l d a b => some (l, knWord 0x4A d a b)
  | .knFcmp l a b => some (l, knWord 0x4B 0 a b)
  | .knItof l d b => some (l, knWord 0x4C d 0 b)
  | .knUtof l d b => some (l, knWord 0x4D d 0 b)
  | .knFtoi l d b => some (l, knWord 0x4E d 0 b)
  | .knFtou l d b => some (l, knWord 0x4F d 0 b)
  | .knFrnd l d b => some (l, knWord 0x50 d 0 b)
  | .knPrd l d e h => some (l, knImmWord 0x60 d 0 (BitVec.ofNat 3 e.val ++ h))
  | .knPwr l d a true h => some (l, knImmWord 0x61 d a (1#3 ++ h))
  | .knPwr l 0 a false h => some (l, knImmWord 0x61 0 a (0#3 ++ h))
  | .knTmr l d a k c => some (l, knImmWord 0x70 d a (0#2 ++ BitVec.ofNat 2 k.val ++ c))
  | .knTet l d c => some (l, knImmWord 0x71 d 0 (0#4 ++ c))
  | .knTps l a c => some (l, knImmWord 0x72 0 a (0#4 ++ c))
  | .knTrs l c => some (l, knImmWord 0x73 0 0 (0#4 ++ c))
  | .knEdg l d a k c => some (l, knImmWord 0x74 d a (0#2 ++ BitVec.ofNat 2 k.val ++ c))
  | _ => none

/-- The words of the Knaec instructions are told apart: two commands with one lane and one word are one command. And the loader's
check of a code word (R94) passes exactly the words of the instructions, but for a PWR of an element 2 to 7, which it refuses
later (R115). -/
def Obligations.KnWordsAndLoader : Prop :=
  (∀ (i j : Instr) (c : Fin 8 × Word), knCode i = some c → knCode j = some c → i = j) ∧
  ∀ w : Word, ¬ (w.extractLsb' 25 7 = 0x61 ∧ 2 ≤ (w.extractLsb' 13 3).toNat) →
    (wordOk w.toNat = true ↔ ∃ (l : Fin 8) (i : Instr), knCode i = some (l, w))

/-! ## Cyclic execution (spec/05) -/

/-- The lowest free lane of a lane set. -/
def laneFor (s : State) (set : Nat) (l : Fin 8) : Prop :=
  set.testBit l.val = true ∧ (s.cxe.lanes[l]).busy = false ∧
    ∀ k : Fin 8, k < l → set.testBit k.val = true → (s.cxe.lanes[k]).busy = true

/-- The order in which pending activations get lanes: priority, due time, task number (R139). -/
def actBefore (a b : Act) (i j : TaskInfo) : Prop :=
  i.prio < j.prio ∨ i.prio = j.prio ∧ (a.due < b.due ∨ a.due = b.due ∧ a.task < b.task)

/-- A scheduled activation exists from its due time unless one of its task exists or the task is disabled, and is then SKIPPED;
while the engine is stopped it never exists and nothing counts. -/
def Obligations.TaskActivated : Prop :=
  ∀ (s : State) (n : Fin 32) (d : Due), s.issuable 4 n.val = some d → (n = 0 → s.cxe.change = none) →
    (∀ i, s.takesActs = true → s.taskInfo n.val = some i →
      (s.rd (CXE_TASK_CFG_DIS n) = 0 → (∀ a ∈ s.cxe.acts, a.task ≠ n.val) →
        ∃ t, exec (.taskActivation n) s = .next t ∧ t.pdir = s.pdir ∧ (∀ b, t.byte b = s.byte b) ∧
          t.cxe = { s.cxe with acts := s.cxe.acts ++ [⟨n, d.due.toNat, none, false, false, 0, 0, [], [], none, false, false, false⟩] }) ∧
      ((s.rd (CXE_TASK_CFG_DIS n) = 1 ∨ ∃ a ∈ s.cxe.acts, a.task = n.val) →
        ∃ t, exec (.taskActivation n) s = .next t ∧ t.cxe = s.cxe ∧ t.pdir = s.pdir ∧ t.rd (CXE_TASK_LAST_OUTCOME n) = 4 ∧
          t.rd (CXE_TASK_CNT_SKIPPED n) = satInc (2 ^ (CXE_TASK_CNT_SKIPPED n).width - 1) (s.rd (CXE_TASK_CNT_SKIPPED n)))) ∧
    (s.rd CXE_STAT_STOPPED = 1 → s.plk.leaving = false → ∃ t, exec (.taskActivation n) s = .next t ∧ t.cxe = s.cxe ∧
      t.rd (CXE_TASK_CNT_SKIPPED n) = s.rd (CXE_TASK_CNT_SKIPPED n) ∧
      t.rd (CXE_TASK_LAST_OUTCOME n) = s.rd (CXE_TASK_LAST_OUTCOME n))

/-- Dispatch: the first pending activation in the order of R139 that has a free lane takes the lowest one, at its entry routine,
with its input image as PDIR gives it, its lateness and its outcome; the others stay as they are. -/
def Obligations.ActivationDispatched : Prop :=
  ∀ (s : State) (a : Act) (i : TaskInfo) (l : Fin 8), s.takesActs = true → a ∈ s.cxe.acts → a.lane = none → a.task < 32 →
    s.taskInfo a.task = some i → laneFor s i.lanes l → (s.cxe.acts.map Act.task).Nodup →
    (∀ b ∈ s.cxe.acts, b ≠ a → b.lane = none → ∀ j m, s.taskInfo b.task = some j → laneFor s j.lanes m → actBefore a b i j) →
    ∃ t, exec .activationDispatch s = .next t ∧
      t.cxe.lanes = s.cxe.lanes.set l { Lane.idle with busy := true, task := a.task, pc := s.routineAt i.entry } ∧
      (∀ b ∈ s.cxe.acts, b ≠ a → b ∈ t.cxe.acts) ∧
      (∃ x ∈ t.cxe.acts, x = { a with lane := some l, late := s.ltu.now - a.due, ms := s.rd CXE_MSCNT_MS, image := x.image } ∧
        x.image.map Prod.fst = i.reads ∧
        (∀ h ∈ i.reads, (s.point h).defn = none → (h, [0, 0xC0, 0, 0, 0, 0, 0, 0]) ∈ x.image) ∧
        ∀ h ∈ i.reads, ∀ d, h ≤ 8191 → (s.point h).defn = some d → tenantEnabled s i.tenant → visAdmits d.vis i.tenant d.owner →
          d.acc.testBit (accBit i.tenant d.owner 0) = true → (h, (List.range 8).map fun e => (s.point h).elem e) ∈ x.image) ∧
      t.rd (CXE_TASK_LAST_LANE a.task) = l.val ∧ t.rd (CXE_TASK_LAST_LATE a.task) = min (s.ltu.now - a.due) 65535 ∧
      t.rd (CXE_TASK_LAST_OUTCOME a.task) = (if s.ltu.now - a.due = 0 then 1 else 2) ∧ t.pdir = s.pdir ∧ ∀ b, t.byte b = s.byte b

/-- A commit of staged writes: each handle takes its value, quality and the commit time, and no other point changes. -/
def commits (s t : State) (ws : List Staged) : Prop :=
  (∀ w ∈ ws, ∀ d, (s.point w.handle).defn = some d → t.point w.handle = { s.point w.handle with
    value := if d.type = .bool then (if w.value = 0 then 0 else 1) else w.value
    qual := w.qual, ts := BitVec.ofNat 32 t.ltu.now, upd := (s.point w.handle).upd + 1 }) ∧
  ∀ k, (∀ w ∈ ws, w.handle ≠ k) → t.point k = s.point k

/-- The writes of an activation that its task may make: distinct handles whose source is the task. -/
def commitable (s : State) (a : Act) : Prop :=
  (a.staged.map Staged.handle).Nodup ∧ ∀ w ∈ a.staged, ∃ d, (s.point w.handle).defn = some d ∧ d.srcKind = 4 ∧ d.srcIndex = a.task

/-- Points with a quality written over their present value, every other point unchanged. -/
def marksPoints (s t : State) (p : Nat → Prop) (q : Byte) : Prop :=
  (∀ h, p h → (t.point h).qual = q ∧ (t.point h).value = (s.point h).value ∧ (t.point h).defn = (s.point h).defn) ∧
    ∀ h, ¬ p h → t.point h = s.point h

/-- Ends of an activation (shown where it is the only one): END commits at once without a commit angle and waits for it with one;
the commit event commits an ended activation; a missed deadline marks the staging set 0x41 and lets the activation run, or in
legacy stop mode stops the engine with 0x86; a faulty code fetch abandons it and disables its task; RESTART ends a legacy stop. -/
def Obligations.ActivationEnds : Prop :=
  ∀ (s : State) (a : Act) (i : TaskInfo) (n : Fin 32), a.task = n.val → s.cxe.acts = [a] → s.taskInfo n.val = some i →
    (∀ l, knAt s l (knBareWord 0x02 0) → a.lane = some l → a.ended = false →
      (i.cmt = true → ∃ t, exec (.knEnd l) s = .next t ∧ t.cxe.acts = [{ a with ended := true }] ∧ t.pdir = s.pdir ∧
        t.cxe.lanes = s.cxe.lanes.set l Lane.idle ∧ SameBut [CXE_STAT_LANE_BUSY] s t) ∧
      (i.cmt = false → a.task ≠ 0 → a.sleep = none → commitable s a → ∃ t, exec (.knEnd l) s = .next t ∧ t.cxe.acts = [] ∧
        t.cxe.lanes = s.cxe.lanes.set l Lane.idle ∧ commits s t a.staged ∧ ∀ b, t.byte b = s.byte b)) ∧
    (∀ d, s.issuable 2 n.val = some d → s.cxeRuns = true →
      (a.ended = true → a.task ≠ 0 → a.sleep = none → commitable s a → ∃ t, exec (.outputCommit n) s = .next t ∧
        t.cxe.acts = [] ∧ t.cxe.lanes = s.cxe.lanes ∧ commits s t a.staged ∧ ∀ b, t.byte b = s.byte b) ∧
      (a.ended = false → ∃ t, exec (.outputCommit n) s = .next t ∧ t.cxe = s.cxe ∧ t.pdir = s.pdir)) ∧
    (a.ended = false → a.overrun = false → (let due := a.due + (if i.cmt then i.cofs else i.period)
        due ≤ s.ltu.now ∨ due / 65536 = s.ltu.now / 65536) →
      (s.rd CXE_STAT_MODE = 0 → ∃ t, exec (.deadlineOverrun n) s = .next t ∧ t.cxe.acts = [{ a with overrun := true }] ∧
        t.cxe.lanes = s.cxe.lanes ∧ t.rd CXE_EVT_OVERRUN = 1 ∧ t.rd (CXE_TASK_LAST_OUTCOME n) = 3 ∧
        t.rd (CXE_TASK_FLT_OVERRUN n) = satInc (2 ^ (CXE_TASK_FLT_OVERRUN n).width - 1) (s.rd (CXE_TASK_FLT_OVERRUN n)) ∧
        marksPoints s t (fun h => h ∈ i.writes ∧ (s.point h).fedBy 4 n.val = true) 0x41) ∧
      (s.rd CXE_STAT_MODE = 1 → s.rd PLK_STAT_ROLE = 0 → ∃ t, exec (.deadlineOverrun n) s = .next t ∧ t.cxe.acts = [] ∧
        t.rd CXE_STAT_STOPPED = 1 ∧ t.rd CXE_EVT_STOP = 1 ∧
        marksPoints s t (fun h => ∃ d, (s.point h).defn = some d ∧ d.srcKind = 4) 0x86)) ∧
    (∀ l, a.lane = some l → a.ended = false → s.cxeRuns = true → s.rd CXE_STAT_MODE = 0 → s.rd PLK_STAT_ROLE = 0 →
      ∃ t, exec (.codeFetchFault l) s = .next t ∧ t.cxe.acts = [] ∧ t.cxe.lanes = s.cxe.lanes.set l Lane.idle ∧
        t.rd (CXE_TASK_CFG_DIS n) = 1 ∧ t.rd (CXE_TASK_LAST_OUTCOME n) = 5 ∧ t.rd CXE_EVT_MEM_FAULT = 1 ∧
        marksPoints s t (fun h => h ∈ i.writes ∧ (s.point h).fedBy 4 n.val = true) 0x86) ∧
    (∀ ten : Tenant, s.hlt.supRestart = false → s.rd PWR_STAT_SLEEP < 2 → s.rd PWR_STAT_PF = 0 →
      (s.rd PLK_STAT_ROLE = 0 ∨ s.rd PLK_STAT_STATE = 4) →
      (ten = 0 → s.rd CXE_STAT_STOPPED = 1 → ∃ t, exec (.cxeRestart ten) s = .next t ∧ t.answer.code = 0x0500 ∧
        t.rd CXE_STAT_STOPPED = 0 ∧ SameBut [CXE_STAT_STOPPED] s t ∧ t.rest = s.rest) ∧
      (ten ≠ 0 ∨ s.rd CXE_STAT_STOPPED ≠ 1 → ∃ t, exec (.cxeRestart ten) s = .next t ∧ t.answer.code = 0x0504 ∧
        SameBut [] s t ∧ t.rest = s.rest))

/-- The retained image: a snapshot begins at task 0's commit with the other bank's COMMIT word cleared and its dirty rows pending,
or is skipped while one runs; completed, every pending row stands in the bank as it was at the snapshot point, with the record of
Table 5-3; RESTORE copies a bank back; the load port stores a word outside the running image and counts one that is not. -/
def Obligations.RetainedImage : Prop :=
  ∀ s : State,
    (∀ a i d, s.cxe.acts = [a] → a.task = 0 → a.ended = true → a.staged = [] → a.sleep = none → s.taskInfo 0 = some i →
      s.issuable 2 0 = some d → s.cxeRuns = true →
      (s.rd CXE_STAT_SNAP_BUSY = 0 → ∃ t, exec (.outputCommit 0) s = .next t ∧ t.cxe.acts = [] ∧ t.rd CXE_STAT_SNAP_BUSY = 1 ∧
        (let k := 1 - s.rd CXE_STAT_SNAP_BANK
         let at_ := 0x70000000 + k * 0x200000 + 0x1FFFF8
         t.cxe.pend = s.cxe.dirty k ∧ t.cxe.dirty k = ⟨false, []⟩ ∧ t.cxe.dirty (1 - k) = s.cxe.dirty (1 - k) ∧ t.cxe.kept = [] ∧
         ∀ b, t.byte b = if at_ ≤ b ∧ b < at_ + 8 then 0 else s.byte b)) ∧
      (s.rd CXE_STAT_SNAP_BUSY = 1 → ∃ t, exec (.outputCommit 0) s = .next t ∧ t.cxe = { s.cxe with acts := [] } ∧
        t.rd CXE_SNAP_CNT_SKIP = satInc (2 ^ CXE_SNAP_CNT_SKIP.width - 1) (s.rd CXE_SNAP_CNT_SKIP) ∧ ∀ b, t.byte b = s.byte b)) ∧
    (∀ us : Nat, us < 65536 → Memory.wf s.mem = true → s.rd CXE_STAT_SNAP_BUSY = 1 →
      (∀ k ∈ s.cxe.kept, s.cxe.pend.has k.1 = true ∧ cellsFit (0x21000000 + k.1 * 256) 256 k.2 = true) →
      (s.cxe.kept.map Prod.fst).Nodup →
      ∃ t, exec (.snapshotComplete us []) s = .next t ∧ (let k := 1 - s.rd CXE_STAT_SNAP_BANK
        let bank := 0x70000000 + k * 0x200000
        let seq := (s.rd CXE_SNAP_SEQ_SEQ + 1) % 2 ^ 32
        (∀ r < 8191, ∀ o < 256, t.byte (bank + 256 * r + o) =
          if s.cxe.pend.has r then (match s.cxe.kept.find? fun x => x.1 == r with
            | some x => sget 0 x.2 (0x21000000 + 256 * r + o)
            | none => s.byte (0x21000000 + 256 * r + o))
          else s.byte (bank + 256 * r + o)) ∧
        t.word (bank + 0x1FFF00) = 0x50414E53 ∧ t.word (bank + 0x1FFF04) = BitVec.ofNat 32 seq ∧
        t.word (bank + 0x1FFF08) = BitVec.ofNat 32 s.cxe.snapId ∧ t.word (bank + 0x1FFFF8) = BitVec.ofNat 32 seq ∧
        (∀ o < 0x200000, t.byte (0x21000000 + o) = s.byte (0x21000000 + o)) ∧
        t.rd CXE_STAT_SNAP_BUSY = 0 ∧ t.rd CXE_STAT_SNAP_BANK = k ∧ t.rd CXE_SNAP_SEQ_SEQ = seq ∧ t.rd CXE_SNAP_TIME_LAST = us ∧
        t.cxe.pend = ⟨false, []⟩)) ∧
    (∀ b : Fin 2, let bank := 0x70000000 + b.val * 0x200000
      (s.rd LTU_SCHED_EN = 1 → exec (.cxeRestore b) s = .next s) ∧
      (s.rd LTU_SCHED_EN = 0 → Memory.wf s.mem = true → ∃ t, exec (.cxeRestore b) s = .next t ∧ (∀ o < 0x1FFF00, t.byte (0x21000000 + o) = s.byte (bank + o)) ∧
        t.rd CXE_MSCNT_MS = (s.word (bank + 0x1FFF10)).toNat ∧ t.rd CXE_SNAP_SEQ_SEQ = (s.word (bank + 0x1FFF04)).toNat ∧
        t.rd CXE_STAT_SNAP_BANK = b.val ∧ t.rd CXE_EVT_RESTORED = 1 ∧ t.cxe.dirty (1 - b.val) = ⟨true, []⟩ ∧
        ∀ a, a < 0x21000000 ∨ 0x211FFF00 ≤ a → t.byte a = s.byte a)) ∧
    (∀ v : Word, let off := 4 * s.rd CXE_LDP_ADDR_WADDR
      (s.loadPortProtected off = false → ∃ t, exec (.loadPortWrite v) s = .next t ∧ t.word (0x21000000 + off) = v ∧
        (∀ a, a < 0x21000000 + off ∨ 0x21000000 + off + 4 ≤ a → t.byte a = s.byte a) ∧
        t.rd CXE_LDP_ADDR_WADDR = (s.rd CXE_LDP_ADDR_WADDR + 1) % 2 ^ 19) ∧
      (s.loadPortProtected off = true → ∃ t, exec (.loadPortWrite v) s = .next t ∧
        t.rd HLT_ERR_B_LDP = satInc (2 ^ HLT_ERR_B_LDP.width - 1) (s.rd HLT_ERR_B_LDP) ∧
        t.rd CXE_LDP_ADDR_WADDR = (s.rd CXE_LDP_ADDR_WADDR + 1) % 2 ^ 19 ∧
        SameBut [HLT_ERR_B_LDP, CXE_LDP_ADDR_WADDR] s t ∧ t.rest = s.rest) ∧
      ((∀ d ∈ s.blocks, d.holds off = true → s.loadPortProtected off = true) ∧ (0x1F5000 ≤ off → s.loadPortProtected off = true))) ∧
    (∀ p ∈ s.curMap.timers.map Prod.fst, (s.curMap.timers.map Prod.fst).Nodup → ∃ t, exec .timerCellRefresh s = .next t ∧
      (let c := s.timer p
       t.timer p = if c.running then { c with elapsed := knElapsed c (s.rd CXE_MSCNT_MS) } else c) ∧
      t.cxe.lanes = s.cxe.lanes ∧ t.pdir = s.pdir ∧ ∀ a, a < 0x211D0000 → t.byte a = s.byte a)

/-- Value changes and exchanges: a request is judged BUSY, exchange armed, another pending, then its range; the pending words are
written together before task 0's next activation; arming takes X at least one cycle on, a due time of task 0; at X the other
scheduler bank acts, re-based, and with an exchange the code bank, the map, the mode and the image change and every activation is
gone. -/
def Obligations.ChangeAndExchange : Prop :=
  ∀ s : State,
    (∀ (ten : Tenant) (n : Fin 16) (wofs : BitVec 19) (cell : BitVec 12) (c : Instr) (ok : Prop) (v : ValueChange),
      (c = .valueChangeData ten n wofs ∧ (ok ↔ ∃ d ∈ s.blocks, d.ten = ten.val ∧ d.holds (4 * wofs.toNat) = true ∧
          d.holds (4 * (wofs.toNat + (n.val + 1)) - 1) = true) ∧
        v = .words wofs.toNat ((List.range (n.val + 1)).map fun k => BitVec.ofNat 32 (s.rd (CXE_VCHG_DATA_DATA k)))) ∨
      (c = .valueChangePreset ten cell ∧ (ok ↔ s.cellOfTenant ten.val cell.toNat = true) ∧
        v = .preset cell.toNat (BitVec.ofNat 32 (s.rd (CXE_VCHG_DATA_DATA 0)))) →
      let refused (code : Nat) : Prop := ∃ t, exec c s = .next t ∧ t.answer.code = code ∧ t.cxe = s.cxe ∧ ∀ a, t.byte a = s.byte a
      (s.hlt.supRestart = true → refused 0x0308) ∧
      (s.hlt.supRestart = false → s.rd PWR_STAT_SLEEP < 2 → s.rd PWR_STAT_PF = 0 → s.rd PLK_STAT_ROLE = 0 →
        (s.rd CXE_STAT_EXCH_PEND = 1 → refused 0x0503) ∧
        (s.rd CXE_STAT_EXCH_PEND = 0 → s.cxe.change.isSome = true → refused 0x0502) ∧
        (s.rd CXE_STAT_EXCH_PEND = 0 → s.cxe.change = none → ¬ ok → refused 0x0501) ∧
        (s.rd CXE_STAT_EXCH_PEND = 0 → s.cxe.change = none → ok → ∃ t, exec c s = .next t ∧
          t.cxe = { s.cxe with change := some v } ∧ t.rd CXE_VCHG_RES_PEND = 1 ∧
          SameBut [CXE_VCHG_RES_PEND, CXE_VCHG_RES_DONE] s t))) ∧
    (∀ d, s.issuable 4 0 = some d →
      (∀ w vs, s.cxe.change = some (.words w vs) → w + vs.length ≤ 524288 → ∃ t, exec .valueChangeApply s = .next t ∧
        t.cxe.change = none ∧ t.rd CXE_EVT_VCHG_DONE = 1 ∧ t.rd CXE_VCHG_RES_PEND = 0 ∧ t.answer.code = 0x0500 ∧
        (∀ k, (h : k < vs.length) → t.word (0x21000000 + 4 * (w + k)) = vs[k]) ∧
        ∀ a, a < 0x21000000 + 4 * w ∨ 0x21000000 + 4 * (w + vs.length) ≤ a → t.byte a = s.byte a) ∧
      (∀ cell ms, s.cxe.change = some (.preset cell ms) → ∃ t, exec .valueChangeApply s = .next t ∧ t.cxe.change = none ∧
        t.timer cell = { s.timer cell with preset := ms.toInt.toNat } ∧
        ∀ a, a < 0x211D0000 + 16 * cell ∨ 0x211D0000 + 16 * cell + 16 ≤ a → t.byte a = s.byte a)) ∧
    (∀ p, s.cxe.next = some p → s.rd PWR_STAT_LVL ≤ p.pdecl → s.rd LTU_SCHED_EN = 1 → s.rd LTU_SCHED_SWAP_PEND = 0 →
      s.rd CXE_STAT_EXCH_PEND = 0 → s.rd PWR_STAT_PF = 0 → s.hlt.supRestart = false → s.plk.imgAwait = false →
      s.rd PLK_STAT_ROLE = 0 → s.ltu.now + 65536 < 2 ^ 55 →
      let arms (x : Nat) : Prop := ∃ t, exec (.exchangeArm none) s = .next t ∧ t.rd CXE_STAT_EXCH_PEND = 1 ∧
        t.rd LTU_SCHED_SWAP_PEND = 1 ∧ t.rd LTU_SWAP_LO_X_LO + t.rd LTU_SWAP_HI_X_HI * 2 ^ 32 = x ∧ t.rest = s.rest
      (s.cxe.prog = none → ∃ x, arms x ∧ x % 65536 = 0 ∧ s.ltu.now + 65536 ≤ x ∧ x < s.ltu.now + 131072) ∧
      (∀ i e, s.cxe.prog.isSome = true → e.en = true → e.site = false → 0 < e.period → e.period ≤ 2 ^ 32 → e.next < 2 ^ 55 →
        (s.ltu.bank (s.rd LTU_SCHED_BANK)).find? (fun y => y.2.en && y.2.kind == 4 && y.2.tgt == 0) = some (i, e) →
        ∃ x, arms x ∧ s.ltu.now + 65536 ≤ x ∧ x % e.period = e.next % e.period ∧
          (x < s.ltu.now + 65536 + e.period ∨ x = e.next))) ∧
    (∀ x, s.rd LTU_SCHED_SWAP_PEND = 1 → x = s.rd LTU_SWAP_HI_X_HI * 2 ^ 32 + s.rd LTU_SWAP_LO_X_LO → s.ltu.now ≤ x →
      x < (s.ltu.now / 65536 + 1) * 65536 → (∀ d, s.nextDue = some d → (x : Int) ≤ d.due) →
      ∃ t, exec .bankSwap s = .next t ∧ t.ltu.now = x ∧ t.rd LTU_SCHED_BANK = 1 - s.rd LTU_SCHED_BANK ∧
        t.rd LTU_SCHED_SWAP_PEND = 0 ∧
        (s.rd CXE_STAT_EXCH_PEND = 0 → t.cxe = s.cxe ∧ t.pdir = s.pdir ∧ (∀ a, t.byte a = s.byte a) ∧
          t.ltu.bank (1 - s.rd LTU_SCHED_BANK) = (s.ltu.bank (1 - s.rd LTU_SCHED_BANK)).map (fun y =>
            (y.1, y.2.rebase (if y.2.site then (x + s.ltu.ofs) % 2 ^ 56 else x)))) ∧
        (∀ p, s.rd CXE_STAT_EXCH_PEND = 1 → s.rd UPD_STAT_STATE = 0 → s.cxe.next = some p → t.cxe.prog = some p ∧ t.cxe.acts = [] ∧
          t.rd CXE_STAT_CODE_BANK = 1 - s.rd CXE_STAT_CODE_BANK ∧ t.rd CXE_STAT_MAPSEL = 1 - s.rd CXE_STAT_MAPSEL ∧
          t.rd CXE_STAT_MODE = p.mode % 2 ∧ t.rd CXE_STAT_STOPPED = 0 ∧ t.rd CXE_STAT_EXCH_PEND = 0))

/-! ## Closed-loop engine (spec/06) -/

/-- Loop `k` of a state, declared. -/
def loopIs (s : State) (k : Nat) (L : Loop) : Prop := (s.cle.loops.find? fun x => x.1 == k) = some (k, L)

/-- A sample of a channel loop outside a group is issued and runs: its previous output is written, PV can be judged. -/
def loopIssued (s : State) (n : Fin 128) (L : Loop) (due : Nat) : Prop :=
  s.cleRuns = true ∧ loopIs s n L ∧ L.decl.gen = false ∧ L.decl.loop = n.val ∧ n.val < 64 ∧
    (∃ x, s.issuable 3 n.val = some x ∧ x.due.toNat = due) ∧ (s.rd (CLE_LOOP_STAT_MODE n) = 1 ∨ s.rd (CLE_LOOP_STAT_MODE n) = 2)

/-- One sample of a channel loop: with a usable PV the law of R172 in its order (here with the constant set-point without a ramp,
and a measured dt), u_app and the integral of R174, OUT written with quality 0x00; with a BAD or UNSET PV the sample is held and
no state changes, and PVTRIP held samples trip; a sample due before the last one has written is skipped. Every other point stays. -/
def Obligations.LoopSampled : Prop :=
  ∀ (s : State) (n : Fin 128) (L : Loop) (due xtal took : Nat) (o : PointDef), loopIssued s n L due →
    (s.point L.decl.out).defn = some o → o.srcKind = 3 → o.srcIndex = n.val → o.type = .real32 →
    let c := Instr.loopSample n xtal took
    let out := L.decl.out
    let others (t : State) : Prop := (∀ k, k ≠ out → t.point k = s.point k) ∧ ∀ a, t.byte a = s.byte a
    let bad := (s.point L.decl.pv).defn = none ∨ 128 ≤ (s.point L.decl.pv).equal.toNat
    let quiet (t : State) : Prop := ∀ f ∈ [CLE_LOOP_U_VAL n, CLE_LOOP_I_VAL n, CLE_LOOP_D_VAL n, CLE_LOOP_SP_VAL n,
      CLE_LOOP_STAT_REGION n, CLE_LOOP_MAN_VAL n], t.rd f = s.rd f
    (¬ bad → L.wrote ≤ due → L.decl.spsrc = 0 → L.decl.sprate = 0 → L.first = false → L.rechg = false →
      s.rd (CLE_LOOP_STAT_REGION n) = 0 → overdue (xtal - L.xtal) L.decl.period s.nomHz = false →
      let x := fFlush (s.point L.decl.pv).eval
      let dt := fOfRatio (xtal - L.xtal) 25000000
      let q := if L.decl.direct then x else fNeg x
      let sp := fMin (fMax L.decl.spc L.decl.spmin) L.decl.spmax
      let e := if L.decl.direct then xSub q sp else xAdd sp q
      let g (k : Nat) : Word := (L.coef.getD 0 []).getD k 0
      let p := xMul (g 0) e
      let d := if fFlush (g 3) = 0 ∧ dt = 0 then 0
        else xDiv (xAdd (xMul (g 3) (s.real (CLE_LOOP_D_VAL n))) (xMul (g 2) (xSub q L.qprev))) (xAdd (g 3) dt)
      let i := xAdd (s.real (CLE_LOOP_I_VAL n)) (xMul (g 1) (xMul e dt))
      let v := xAdd (xAdd p i) d
      let u := fMin (fMax v L.decl.omin) L.decl.omax
      let app := if s.rd (CLE_LOOP_STAT_MODE n) = 1 then u else s.real (CLE_LOOP_MAN_VAL n)
      isNaN v = false → ∃ t L', exec c s = .next t ∧ others t ∧ t.real (CLE_LOOP_U_VAL n) = u ∧ t.real (CLE_LOOP_D_VAL n) = d ∧
        t.real (CLE_LOOP_I_VAL n) = (if fEq app v then i else xSub (xSub app p) d) ∧ t.real (CLE_LOOP_SP_VAL n) = sp ∧
        t.rd (CLE_LOOP_STAT_HOLDCONS n) = 0 ∧ loopIs t n L' ∧ L'.qprev = q ∧ L'.uApp = app ∧ L'.xtal = xtal ∧
        t.point out = { s.point out with
          value := app, qual := 0, ts := BitVec.ofNat 32 t.ltu.now, upd := (s.point out).upd + 1 }) ∧
    (bad → L.wrote ≤ due → let held := min 15 (s.rd (CLE_LOOP_STAT_HOLDCONS n) + 1)
      (L.decl.pvtrip = 0 ∨ held < L.decl.pvtrip → ∃ t, exec c s = .next t ∧ others t ∧ quiet t ∧
        t.rd (CLE_LOOP_STAT_MODE n) = s.rd (CLE_LOOP_STAT_MODE n) ∧ t.rd (CLE_LOOP_STAT_HOLDCONS n) = held ∧
        t.rd (CLE_LOOP_CNT_HELD n) = satInc (2 ^ (CLE_LOOP_CNT_HELD n).width - 1) (s.rd (CLE_LOOP_CNT_HELD n)) ∧
        (t.point out).qual = 0x41 ∧ (t.point out).value = (s.point out).value) ∧
      (L.decl.pvtrip ≠ 0 → L.decl.pvtrip ≤ held → ∃ t, exec c s = .next t ∧ others t ∧ quiet t ∧
        t.rd (CLE_LOOP_STAT_MODE n) = 3 ∧ t.rd (CLE_LOOP_STAT_TRIPSRC n) = 1 ∧ t.rd CLE_EVT_TRIP = 1 ∧
        (t.point out).qual = 0x86 ∧ (t.point out).value = L.decl.osafe)) ∧
    (due < L.wrote → s.rd (CLE_LOOP_STAT_OVRCONS n) < 3 → ∃ t, exec c s = .next t ∧ others t ∧ quiet t ∧ t.rd CLE_EVT_OVERRUN = 1 ∧
      t.rd (CLE_LOOP_CNT_OVERRUN n) = satInc (2 ^ (CLE_LOOP_CNT_OVERRUN n).width - 1) (s.rd (CLE_LOOP_CNT_OVERRUN n)) ∧
      (if s.rd (CLE_LOOP_STAT_OVRCONS n) = 2 then t.rd (CLE_LOOP_STAT_MODE n) = 3 ∧ t.rd (CLE_LOOP_STAT_TRIPSRC n) = 2 ∧
        (t.point out).qual = 0x86 ∧ (t.point out).value = L.decl.osafe
       else t.rd (CLE_LOOP_STAT_MODE n) = s.rd (CLE_LOOP_STAT_MODE n) ∧
        t.rd (CLE_LOOP_STAT_OVRCONS n) = s.rd (CLE_LOOP_STAT_OVRCONS n) + 1 ∧
        (t.point out).qual = 0x41 ∧ (t.point out).value = (s.point out).value))

/-- A min-select group of two computed members: the head's OUT takes the smaller offer, the lower number winning a tie, the other
member writes its own offer, and both track the group output. -/
def Obligations.LoopGroupMinimum : Prop :=
  ∀ (s : State) (h m : Fin 128) (H M : Loop) (a b : LoopStep) (d : Due) (xtal took : Nat) (oh om : PointDef),
    s.cleRuns = true → h < m → s.issuable 3 h.val = some d → s.cle.loops = [(h.val, H), (m.val, M)] →
    H.decl.gen = true → M.decl.gen = true → H.decl.group = M.decl.group → H.wrote ≤ d.due.toNat → M.wrote ≤ d.due.toNat →
    s.rd (CLE_LOOP_STAT_MODE h) = 1 → s.rd (CLE_LOOP_STAT_MODE m) = 1 →
    (s.issue d).sample h H xtal = some a → (s.issue d).sample m M xtal = some b → H.decl.out ≠ M.decl.out →
    (s.point H.decl.out).defn = some oh → oh.srcKind = 3 → oh.srcIndex = h.val → oh.type = .real32 →
    (s.point M.decl.out).defn = some om → om.srcKind = 3 → om.srcIndex = m.val → om.type = .real32 →
    let g := if fLt b.u a.u then b.u else a.u
    let track (st : LoopStep) : Word := if fEq g st.v then st.i else xSub (xSub g st.p) st.d
    ∃ t, exec (.loopSample h xtal took) s = .next t ∧
      (t.point H.decl.out).value = g ∧ (t.point H.decl.out).qual = 0 ∧
      (t.point M.decl.out).value = b.u ∧ (t.point M.decl.out).qual = 0 ∧
      (∀ k, k ≠ H.decl.out → k ≠ M.decl.out → t.point k = s.point k) ∧
      t.real (CLE_LOOP_I_VAL h) = track a ∧ t.real (CLE_LOOP_I_VAL m) = track b ∧
      t.rd (CLE_LOOP_STAT_WINNER m) = (if fLt b.u a.u then 1 else 0) ∧ t.rd (CLE_LOOP_STAT_WINNER h) = (if fLt b.u a.u then 0 else 1)

/-- Loop requests: the order of R180 (BUSY, undeclared, tripped, a value that is not finite, the request's own condition), else the
request waits to be applied; applied it has its effect, its record is kept and CL_DONE returned. No request writes a point. -/
def Obligations.LoopRequests : Prop :=
  ∀ (s : State) (ten : Tenant) (n : Fin 128) (r : Fin 4) (val : Bool) (c : Instr) (op : Nat) (region : Nat) (has : Bool),
    (c = .loopAuto ten n ∧ op = 1 ∧ region = 0 ∧ has = false) ∨ (c = .loopManual ten n val ∧ op = 2 ∧ region = 0 ∧ has = val) ∨
      (c = .loopManout ten n ∧ op = 3 ∧ region = 0 ∧ has = true) ∨ (c = .loopReset ten n ∧ op = 4 ∧ region = 0 ∧ has = false) ∨
      (c = .loopCoef ten n r ∧ op = 5 ∧ region = r.val ∧ has = true) →
    let v (k : Nat) : Word := BitVec.ofNat 32 (s.rd (CLE_CVAL_VAL k))
    let m := s.rd (CLE_LOOP_STAT_MODE n)
    let still (t : State) : Prop := t.pdir = s.pdir ∧ ∀ a, t.byte a = s.byte a
    let refused (code : Nat) : Prop := ∃ t, exec c s = .next t ∧ t.answer.code = code ∧ t.rd CLE_CRES_CODE = code ∧
      t.rd CLE_CRES_DONE = 1 ∧ t.cle = s.cle ∧ still t
    (∀ j ∈ s.cle.jobs, j.loop ≠ n.val) →
    (s.hlt.supRestart = true → refused 0x0308) ∧
    (forceOpen s → (∀ x ∈ s.cle.loops, x.1 ≠ n.val) → refused 0x0605) ∧
    (∀ L o, forceOpen s → loopIs s n L → tenantEnabled s ten.val → (s.point L.decl.out).defn = some o →
      visAdmits o.vis ten.val o.owner →
      (o.acc.testBit (accBit ten.val o.owner 2) = false → refused 0x0302) ∧
      (o.acc.testBit (accBit ten.val o.owner 2) = true →
        (m = 3 → op ≠ 4 → refused 0x0602) ∧
        (m ≠ 3 → op = 3 ∨ (op = 2 ∧ has = true) → isFinite (v 0) = false → refused 0x0603) ∧
        (m ≠ 3 → op = 5 → ((∃ k < 4, isFinite (v k) = false) ∨ fLt (v 3) 0 = true) → refused 0x0603) ∧
        (let good := (op = 3 ∨ (op = 2 ∧ has = true) → isFinite (v 0) = true) ∧
            (op = 5 → (∀ k < 4, isFinite (v k) = true) ∧ fLt (v 3) 0 = false)
         (m ≠ 3 → good → ((op = 3 ∧ m ≠ 2) ∨ (op = 5 ∧ L.decl.loop < 64 ∧ (region ≠ 0 ∨ m ≠ 2))) → refused 0x0601) ∧
         (m ≠ 3 ∨ op = 4 → good → (op = 3 → m = 2) → (op = 5 → L.decl.loop < 64 → region = 0 ∧ m = 2) →
          s.rd CXE_STAT_EXCH_PEND = 0 → ∃ t, exec c s = .next t ∧ still t ∧
            t.cle = { s.cle with jobs := s.cle.jobs ++ [⟨n, op, ten.val, region, has, [v 0, v 1, v 2, v 3], true⟩] } ∧
            t.rd CLE_CRES_DONE = 0 ∧ SameBut [CLE_CRES_DONE] s t)))) ∧
    (∀ L vals, loopIs s n L → s.cle.jobs = [⟨n, op, ten.val, region, has, vals, true⟩] →
      ∃ t, exec (.loopRequestApply n) s = .next t ∧ t.answer.code = 0x0600 ∧ t.rd CLE_CRES_CODE = 0x0600 ∧ t.cle.jobs = [] ∧ still t ∧
        (op = 1 → m = 2 → t.rd (CLE_LOOP_STAT_MODE n) = 1) ∧ (op = 1 → m ≠ 2 → t.rd (CLE_LOOP_STAT_MODE n) = m) ∧
        (op = 2 → m = 1 → t.rd (CLE_LOOP_STAT_MODE n) = 2 ∧ t.real (CLE_LOOP_MAN_VAL n) =
          fMin (fMax (if has then vals.getD 0 0 else s.real (CLE_LOOP_U_VAL n)) L.decl.omin) L.decl.omax) ∧
        (op = 2 → m = 2 → t.rd (CLE_LOOP_STAT_MODE n) = 2 ∧ t.rd (CLE_LOOP_MAN_VAL n) = s.rd (CLE_LOOP_MAN_VAL n)) ∧
        (op = 3 → m = 2 → t.real (CLE_LOOP_MAN_VAL n) = fMin (fMax (vals.getD 0 0) L.decl.omin) L.decl.omax) ∧
        (op = 4 → m = 3 → t.rd (CLE_LOOP_STAT_MODE n) = 2 ∧ t.real (CLE_LOOP_MAN_VAL n) = L.decl.osafe ∧
          t.rd (CLE_LOOP_STAT_TRIPSRC n) = 0) ∧
        (op = 4 → m ≠ 3 → t.rd (CLE_LOOP_STAT_MODE n) = m ∧ t.rd (CLE_LOOP_MAN_VAL n) = s.rd (CLE_LOOP_MAN_VAL n)) ∧
        (op = 5 → m ≠ 3 → region < L.coef.length → ∃ L', loopIs t n L' ∧ L'.coef = L.coef.set region (vals.take 4) ∧ t.rd (CLE_LOOP_STAT_MODE n) = m))

/-! ## Metering (spec/07) -/

/-- Current channel `k` of a state. -/
def meterIs (s : State) (k : Nat) (c : MeterCh) : Prop := (s.mtr.chans.find? fun x => x.1 == k) = some (k, c)

/-- A cumulative register with its fraction, in 2^-32 units (R210). -/
def accTotal (a : MeterAcc) : Nat := a.cum * 2 ^ 32 + a.frac

/-- The energy that accumulator `k` of Table 7-2 receives of a cycle. -/
def energyOf (inv : Bool) (m : CurrentCycle) (k : Nat) : Nat :=
  let p := if inv then -m.p else m.p
  let p1 := if inv then -m.p1 else m.p1
  let q1 := if inv then -m.q1 else m.q1
  match k with
  | 0 => if 0 ≤ p then p.natAbs else 0
  | 1 => if p < 0 then p.natAbs else 0
  | 2 => if 0 ≤ p1 then p1.natAbs else 0
  | 3 => if p1 < 0 then p1.natAbs else 0
  | 4 => if 0 ≤ p1 ∧ 0 ≤ q1 then q1.natAbs else 0
  | 5 => if p1 < 0 ∧ 0 ≤ q1 then q1.natAbs else 0
  | 6 => if p1 < 0 ∧ q1 < 0 then q1.natAbs else 0
  | 7 => if 0 ≤ p1 ∧ q1 < 0 then q1.natAbs else 0
  | 8 => if 0 ≤ p then m.sa else 0
  | _ => if p < 0 then m.sa else 0

/-- A line cycle closed on one declared channel: each energy goes whole to the accumulator of Table 7-2, modulo 2^80 in 2^-32 units
with the wraps counted up to 255; a cycle below the no-load threshold adds nothing and counts as no-load, a fault cycle adds and
counts nothing; a latch at X shows the gain of every register since the last latch, at most 0xFFFF_FFFF, and keeps the cumulative
registers. Only the channel's measurement points can change. -/
def Obligations.MeterAccumulates : Prop :=
  ∀ (s : State) (n : Fin 48) (c : MeterCh) (d : MeterDecl), meterIs s n c → c.decl = some d → c.acc.length = 10 →
    (∀ a ∈ c.acc, a.cum < 2 ^ 48 ∧ a.frac < 2 ^ 32 ∧ a.wrap ≤ 255 ∧ a.start < 2 ^ 48) →
    (∀ (m : CurrentCycle) (samples : Nat), m.ch = n → 0 < samples → (∀ x ∈ s.mtr.chans, x.2.pend = none) → s.rd MTR_STAT_RUN = 1 → s.mtr.stopping = false →
      s.mtr.open_ < s.ltu.now / 65536 →
      let low := belowNoload d.noload m.sa samples
      ∃ t c', exec (.meterCycleClose samples [m] []) s = .next t ∧ meterIs t n c' ∧ c'.acc.length = 10 ∧
        t.mtr.open_ = s.mtr.open_ + 1 ∧ (∀ b, t.byte b = s.byte b) ∧
        (∀ h, (∀ q, 64 * n.val + 16 ≤ q → q ≤ 64 * n.val + 25 → (s.point h).fedBy 2 q = false) → t.point h = s.point h) ∧
        (∀ k < 10, let a := c.acc.getD k ⟨0, 0, 0, 0⟩
          let b := c'.acc.getD k ⟨0, 0, 0, 0⟩
          let sum := accTotal a + (if m.fault || low then 0 else energyOf d.inv m k)
          accTotal b = sum % 2 ^ 80 ∧ b.wrap = min 255 (a.wrap + sum / 2 ^ 80) ∧ b.start = a.start ∧
          t.rd (MTR_CH_ACC_LO_CUM_LO n k) = b.cum % 2 ^ 32) ∧
        c'.noload = c.noload + (if low && !m.fault then 1 else 0) ∧ c'.metered = c.metered + (if m.fault then 0 else 1) ∧
        (m.fault = true → (t.rd (MTR_CH_STAT_FLAGS n)).testBit 4 = true ∧ t.rd MTR_EVT_FAULT = 1) ∧
        (m.clip = true → (t.rd (MTR_CH_STAT_FLAGS n)).testBit 0 = true) ∧
        (s.rd LTU_STAT_STATE ≠ 1 → (t.rd (MTR_CH_STAT_FLAGS n)).testBit 3 = true)) ∧
    (∀ x, s.issuable 1 n.val = some x → (s.rd MTR_STAT_RUN = 0 ∨ x.due.toNat / 65536 ≤ s.mtr.open_) → s.rd PWR_STAT_SLEEP ≠ 2 →
      let gain (k : Nat) : Nat := let a := c.acc.getD k ⟨0, 0, 0, 0⟩
        min 0xFFFFFFFF (if a.start ≤ a.cum then a.cum - a.start else a.cum + 2 ^ 48 - a.start)
      let mark : Byte := if (s.rd (MTR_CH_STAT_FLAGS n)).testBit 4 then 0x86 else 0
      ∃ t c', exec (.meterIntervalLatch n) s = .next t ∧ meterIs t n c' ∧ (∀ b, t.byte b = s.byte b) ∧
        (∀ k < 10, t.rd (MTR_CH_INT_INT n k) = gain k ∧
          c'.acc.getD k ⟨0, 0, 0, 0⟩ = { c.acc.getD k ⟨0, 0, 0, 0⟩ with start := (c.acc.getD k ⟨0, 0, 0, 0⟩).cum }) ∧
        t.rd (MTR_CH_NOLOAD_CNT n) = c.noload % 2 ^ 32 ∧ t.rd (MTR_CH_METERED_CNT n) = c.metered % 2 ^ 32 ∧
        t.rd (MTR_CH_LATCH_LO_X_LO n) = x.due.toNat % 2 ^ 32 ∧ c'.latch = x.due.toNat ∧ t.rd (MTR_CH_STAT_FLAGS n) = 0 ∧
        c'.noload = 0 ∧ c'.metered = 0 ∧ c'.start = x.due.toNat ∧
        (∀ h k o, k < 10 → (s.point h).defn = some o → o.srcKind = 2 → o.srcIndex = 64 * n.val + k → o.type ≠ .bool →
          (t.point h).value = BitVec.ofNat 32 (gain k) ∧ (t.point h).qual = mark) ∧
        ∀ h, (∀ q, 64 * n.val ≤ q → q ≤ 64 * n.val + 11 → (s.point h).fedBy 2 q = false) → t.point h = s.point h)

/-- Presets, checkpoints and reads: a preset is judged BUSY, operator, channel, value, and applied once its cycle has been closed,
clearing fraction and wrap counter and no other accumulator; a checkpoint goes to the older copy; an accumulator error reloads
the channel from the latest one; the low words are read with the high words latched. -/
def Obligations.MeterRequests : Prop :=
  ∀ (s : State) (n : Fin 48),
    (∀ (ten : Tenant) (ch : Fin 64) (k : Fin 16), let value := s.rd MTR_CVAL_HI_VAL_HI * 2 ^ 32 + s.rd MTR_CVAL_LO_VAL_LO
      let refused (code : Nat) : Prop := ∃ t, exec (.meterPreset ten ch k) s = .next t ∧ t.answer.code = code ∧
        t.rd MTR_CRES_CODE = code ∧ t.rd MTR_CRES_DONE = 1 ∧ SameBut [MTR_CRES_CODE, MTR_CRES_DONE] s t ∧ t.rest = s.rest
      (s.hlt.supRestart = true → refused 0x0308) ∧
      (forceOpen s → (ten ≠ 0 → refused 0x0701) ∧
        (ten = 0 → (∀ x ∈ s.mtr.chans, x.1 = ch.val → x.2.decl = none) → refused 0x0702) ∧
        (∀ c, ten = 0 → meterIs s ch c → c.decl.isSome = true →
          (10 ≤ k.val ∨ s.rd MTR_CVAL_HI_VAL_X ≠ 0 ∨ 2 ^ 48 ≤ value → refused 0x0703) ∧
          (k.val < 10 → s.rd MTR_CVAL_HI_VAL_X = 0 → value < 2 ^ 48 → ∃ t, exec (.meterPreset ten ch k) s = .next t ∧
            t.mtr = { s.mtr with presets := s.mtr.presets ++ [⟨ch, k, value, s.ltu.now / 65536⟩] } ∧
            SameBut [MTR_CRES_DONE] s t ∧ t.rd MTR_CRES_DONE = 0)))) ∧
    (∀ (k : Fin 10) (value cyc : Nat) (c : MeterCh), s.mtr.presets = [⟨n, k, value, cyc⟩] → meterIs s n c → c.acc.length = 10 →
      (s.rd MTR_STAT_RUN = 1 → s.mtr.open_ ≤ cyc → exec .presetApply s = .next s) ∧
      (s.rd MTR_STAT_RUN = 0 ∨ cyc < s.mtr.open_ → s.hlt.supRestart = false → ∃ t c' q, exec .presetApply s = .next t ∧
        meterIs t n c' ∧ c'.acc.length = 10 ∧ (∀ j < 10, let b := c'.acc.getD j ⟨0, 0, 0, 0⟩
          if j = k.val then b.cum = value ∧ b.frac = 0 ∧ b.wrap = 0 else b = c.acc.getD j ⟨0, 0, 0, 0⟩) ∧
        t.mtr.presets = [] ∧ t.answer.code = 0x0700 ∧ t.rd MTR_EVT_PRESET = 1 ∧ (t.rd (MTR_CH_STAT_FLAGS n)).testBit 5 = true ∧
        t.mtr.latest = some q ∧ (q.chans.find? fun x => x.1 == n.val).map (fun x => x.2.acc) = some c'.acc ∧
        t.pdir = s.pdir ∧ ∀ b, t.byte b = s.byte b)) ∧
    ((s.hlt.supRestart = true → exec .meterCheckpoint s = .next s) ∧
      (s.hlt.supRestart = false → ∃ t q, exec .meterCheckpoint s = .next t ∧ t = { s with mtr := t.mtr } ∧ t.mtr.latest = some q ∧
        (t.mtr.ckpt0 = s.mtr.ckpt0 ∨ t.mtr.ckpt1 = s.mtr.ckpt1) ∧ (∀ p, s.mtr.latest = some p → q.seq = p.seq + 1) ∧
        q.chans = s.mtr.chans.map (fun x => (x.1, ⟨x.2.tenant, x.2.acc, x.2.noload, x.2.metered, s.rd (MTR_CH_STAT_FLAGS x.1),
          x.2.start, x.2.done⟩)))) ∧
    (∀ (c : MeterCh) (q : MeterCkpt) (v : MeterSaved), meterIs s n c → s.mtr.latest = some q →
      (q.chans.find? fun x => x.1 == n.val) = some (n.val, v) → v.flags < 256 →
      ∃ t c', exec (.accumulatorEcc n) s = .next t ∧ meterIs t n c' ∧ c'.acc = v.acc ∧ c'.noload = v.noload ∧
        c'.metered = v.metered ∧ (∀ b < 7, (t.rd (MTR_CH_STAT_FLAGS n)).testBit b = v.flags.testBit b) ∧
        (t.rd (MTR_CH_STAT_FLAGS n)).testBit 7 = true ∧ t.rd MTR_EVT_ECC = 1 ∧ t.pdir = s.pdir ∧ ∀ b, t.byte b = s.byte b) ∧
    (∀ c, meterIs s n c →
      (∃ t, exec (.mtrLoRead n none) s = .next t ∧ t.answer.words = [BitVec.ofNat 32 c.latch] ∧
        t.rd (MTR_CH_LATCH_HI_X_HI n) = c.latch / 2 ^ 32 % 2 ^ 24 ∧ SameBut [MTR_CH_LATCH_HI_X_HI n] s t ∧ t.rest = s.rest) ∧
      ∀ k : Fin 10, let a := c.acc.getD k.val ⟨0, 0, 0, 0⟩
        ∃ t, exec (.mtrLoRead n (some k)) s = .next t ∧ t.answer.words = [BitVec.ofNat 32 a.cum] ∧
        t.rd (MTR_CH_ACC_HI_CUM_HI n k) = a.cum / 2 ^ 32 % 2 ^ 16 ∧ t.rd (MTR_CH_ACC_HI_WRAP n k) = a.wrap % 2 ^ 8 ∧
        SameBut [MTR_CH_ACC_HI_CUM_HI n k, MTR_CH_ACC_HI_WRAP n k] s t ∧ t.rest = s.rest)

/-! ## Universal field I/O (spec/08) -/

/-- Channel `k` of the field I/O, declared. -/
def fioIs (s : State) (k : Nat) (c : FioCh) : Prop := (s.fio.chans.find? fun x => x.1 == k) = some (k, c)

/-- The quality of Table 8-5 and the value written for what an input channel sensed. -/
def inputGives (s : State) (n : Nat) (c : FioCh) : Sensed → Byte → Word → Prop
  | .contact o, q, v => c.mode = 1 ∧ q = (if c.opt.testBit 0 && o then 0x83 else 0) ∧ v = (if c.level != c.inv then 1 else 0)
  | .counter, q, v => c.mode = 8 ∧ q = 0 ∧ v = BitVec.ofNat 32 (s.rd (FIO_CH_VAL_VAL n))
  | .analogue w lim, q, v => realFinite w ∧
      (c.mode = 3 ∧ v = w ∧ (realIn w < -1 / 5 → q = 0x82) ∧ (21 / 2 < realIn w → q = 0x81) ∧
          (-1 / 5 ≤ realIn w → realIn w ≤ 21 / 2 → q = 0) ∨
        c.mode = 4 ∧ v = (if q = 0x83 ∨ q = 0x84 then 0x7FC00000 else w) ∧ (lim = true → q = 0x84) ∧
          (lim = false → 41 / 2 < realIn w → q = 0x81) ∧
          (lim = false → realIn w ≤ 41 / 2 →
            q = (if c.opt.testBit 0 then 0 else if realIn w < 18 / 5 then 0x83 else if realIn w < 19 / 5 then 0x82 else 0)))
  | .thermo w milli, q, v => realFinite w ∧ c.mode = 7 ∧ v = (if q = 0x83 ∨ q = 0x84 then 0x7FC00000 else w) ∧
      let r0 := if c.opt % 16 = 0 then 100 else 1000
      let lo : Rat := if c.opt % 16 = 2 then -60 else -200
      let hi : Rat := if c.opt % 16 = 2 then 250 else 850
      q = (if (4 * r0 + 1000) * 1000 < milli then 0x83 else if milli < 10000 then 0x84 else if realIn w < lo then 0x82
        else if hi < realIn w then 0x81 else 0)
  | .terminal _, _, _ => False

/-- Every point fed by a channel is written with a value, a quality and a sample instant; no other point and no byte changes. -/
def fioWrote (s t : State) (n : Nat) (v : Word) (q : Byte) (x : Nat) : Prop :=
  (∀ h d, (s.point h).defn = some d → d.srcKind = 1 → d.srcIndex = n → t.point h = { s.point h with
    value := if d.type = .bool then (if v = 0 then 0 else 1) else v
    qual := q, ts := BitVec.ofNat 32 x, upd := (s.point h).upd + 1 }) ∧
  (∀ h, (s.point h).fedBy 1 n = false → t.point h = s.point h) ∧ t.rd (FIO_CH_VAL_VAL n) = v.toNat ∧
  t.rd (FIO_CH_DIAG_QUAL n) = q.toNat ∧ ∀ a, t.byte a = s.byte a

/-- Inputs: an update writes the point of a channel with Table 8-5's quality at its update instant, 0x86 when the self-test failed;
a qualified edge counts modulo 2^32; a filtered change is written at its raw sample instant, or once the 50 µs window ends. -/
def Obligations.FieldInputs : Prop :=
  ∀ (s : State) (n : Fin 256) (c : FioCh), fioIs s n c →
    (∀ (m : Sensed) (q : Byte) (v : Word), s.fio.started = true → s.awake = true → c.src = true → 0 < c.period →
      c.nextAt < (s.ltu.now / 65536 + 1) * 65536 → s.ltu.now < c.nextAt + c.period → inputGives s n c m q v →
      (∃ t c', exec (.inputUpdate n m false) s = .next t ∧ fioWrote s t n v q c.nextAt ∧ fioIs t n c' ∧
        c' = { c with nextAt := c.nextAt + c.period }) ∧
      ∃ t, exec (.inputUpdate n m true) s = .next t ∧ t.rd (FIO_CH_DIAG_QUAL n) = 0x86 ∧
        ∀ h, (s.point h).fedBy 1 n = true → (t.point h).qual = 0x86 ∧ (t.point h).ts = BitVec.ofNat 32 c.nextAt) ∧
    (c.mode = 8 → s.powered = true → (s.rd PWR_STAT_SLEEP ≠ 3 → ∃ t, exec (.pulseEdge n) s = .next t ∧
        t.rd (FIO_CH_VAL_VAL n) = (s.rd (FIO_CH_VAL_VAL n) + 1) % 2 ^ 32 ∧ SameBut [FIO_CH_VAL_VAL n] s t ∧ t.rest = s.rest) ∧
      (s.rd PWR_STAT_SLEEP = 3 → exec (.pulseEdge n) s = .next s)) ∧
    (∀ (level : Bool) (x : BitVec 56), c.mode = 1 → c.wake = false →
      (c.level = level → exec (.diChange n level x) s = .next s) ∧
      (c.level ≠ level → s.fio.started = true → s.awake = true → ∃ t c', exec (.diChange n level x) s = .next t ∧ fioIs t n c' ∧
        c'.level = level ∧
        (c.chg = false → t.pdir = s.pdir ∧ t.regs = s.regs) ∧
        (c.chg = true → c.window = true → t.pdir = s.pdir ∧ c'.change = some x.toNat) ∧
        (c.chg = true → c.window = false → c'.window = true ∧ c'.change = none ∧
          fioWrote s t n (if level != c.inv then 1 else 0) 0 x.toNat))) ∧
    (c.window = true → s.fio.started = true → s.awake = true → ∃ t c', exec (.changeWindowEnd n) s = .next t ∧ fioIs t n c' ∧
      c'.change = none ∧ (c.change = none → c'.window = false ∧ t.pdir = s.pdir ∧ t.regs = s.regs) ∧
      ∀ x, c.change = some x → c'.window = true ∧ fioWrote s t n (if c.level != c.inv then 1 else 0) 0 x)

/-- Outputs (R242, R243, Table 8-6): an application drives the effective value of a channel's point, clamped, or SAFE for a BAD or
UNSET quality, a value that is no number, or after the power-fail step; a short switches a DO off and three failed retries latch
it; a low feed switches a bank off and its return applies it; only RESET clears a latch. No point and no byte changes. -/
def Obligations.FieldOutputs : Prop :=
  ∀ (s : State) (n : Fin 256) (c : FioCh), fioIs s n c → s.fio.started = true → s.powered = true → s.rd PWR_STAT_SLEEP = 0 →
    let still (t : State) : Prop := t.pdir = s.pdir ∧ ∀ a, t.byte a = s.byte a
    let val := if (s.point c.oph).defn = none then 0 else (s.point c.oph).eval
    let bad := (s.point c.oph).defn = none ∨ 128 ≤ (s.point c.oph).equal.toNat
    let stage := s.rd FIO_STAT_OUT_EN = 1 ∧ (s.rd FIO_STAT_VLOW).testBit (n.val / 32) = false ∧ s.rd (FIO_CH_DIAG_LATCH n) = 0 ∧
      c.waits = false
    let dead := s.rd FIO_STAT_OUT_EN ≠ 1 ∨ (s.rd FIO_STAT_VLOW).testBit (n.val / 32) = true ∨ s.rd (FIO_CH_DIAG_LATCH n) = 1
    let drives (t : State) (w : Option Word) : Prop := ∃ c', fioIs t n c' ∧ c' = { c with drive := w }
    (c.mode = 2 ∨ c.mode = 5 ∨ c.mode = 6 → dead → ∃ t, exec (.outputApplication n) s = .next t ∧ still t ∧ drives t none ∧
      t.rd (FIO_CH_DIAG_DRIVEN n) = 0) ∧
    (c.mode = 2 → stage → let on := if s.rd FIO_STAT_PFSAFE = 1 ∨ bad then decide (BitVec.ofNat 32 c.safe = 1) else decide (val = 1)
      ∃ t, exec (.outputApplication n) s = .next t ∧ still t ∧ drives t (some (if on then 1 else 0)) ∧
        t.rd (FIO_CH_DIAG_DRIVEN n) = (if on then 1 else 0) ∧
        t.rd (FIO_CH_DIAG_SAFE_ACT n) = (if s.rd FIO_STAT_PFSAFE = 1 ∨ bad then 1 else 0) ∧
        t.rd (FIO_CH_CNT_SW n) = (if on ∧ s.rd (FIO_CH_DIAG_DRIVEN n) ≠ 1
          then satInc (2 ^ (FIO_CH_CNT_SW n).width - 1) (s.rd (FIO_CH_CNT_SW n)) else s.rd (FIO_CH_CNT_SW n)) ∧
        SameBut [FIO_CH_DIAG_DRIVEN n, FIO_CH_DIAG_SAFE_ACT n, FIO_CH_CNT_SW n] s t) ∧
    (c.mode = 5 ∨ c.mode = 6 → stage → let nan := val.extractLsb' 23 8 = 0xFF#8
      ∃ t, exec (.outputApplication n) s = .next t ∧ still t ∧
        drives t (some (if s.rd FIO_STAT_PFSAFE = 1 ∨ bad ∨ nan then fOfRatio c.safe 1000
          else fMin (fMax val 0) (if c.mode = 5 then 0x41280000 else 0x41A80000))) ∧
        t.rd (FIO_CH_DIAG_SAFE_ACT n) = (if s.rd FIO_STAT_PFSAFE = 1 ∨ bad ∨ nan then 1 else 0) ∧
        (nan → t.rd (FIO_CH_DIAG_VAL_ERR n) = 1) ∧ SameBut [FIO_CH_DIAG_SAFE_ACT n, FIO_CH_DIAG_VAL_ERR n] s t) ∧
    (c.mode = 2 → s.rd (FIO_CH_DIAG_DRIVEN n) = 1 → let fails := s.rd (FIO_CH_DIAG_RETRY n) + (if c.retrying then 1 else 0)
      ∃ t c', exec (.doShort n) s = .next t ∧ still t ∧ fioIs t n c' ∧ c'.drive = none ∧ t.rd (FIO_CH_DIAG_DRIVEN n) = 0 ∧
        t.rd (FIO_CH_DIAG_SHORT n) = 1 ∧ t.rd FIO_EVT_SHORT = 1 ∧ t.rd (FIO_CH_DIAG_RETRY n) = min 3 fails ∧
        (3 ≤ fails → t.rd (FIO_CH_DIAG_LATCH n) = 1 ∧ c'.waits = false) ∧
        (fails < 3 → t.rd (FIO_CH_DIAG_LATCH n) = s.rd (FIO_CH_DIAG_LATCH n) ∧ c'.waits = true)) ∧
    (c.mode = 2 → c.waits = true → s.rd FIO_STAT_OUT_EN = 1 → (s.rd FIO_STAT_VLOW).testBit (n.val / 32) = false →
      s.rd (FIO_CH_DIAG_LATCH n) = 0 → s.rd FIO_STAT_PFSAFE = 0 → ¬ bad → val = 1 → ∃ t c', exec (.doRetry n) s = .next t ∧
        still t ∧ fioIs t n c' ∧ c' = { c with waits := false, retrying := true, drive := some 1 } ∧ t.rd (FIO_CH_DIAG_DRIVEN n) = 1) ∧
    (∀ i, (i = .doOpenLoad n ∧ c.mode = 2 ∧ c.opt.testBit 0 = true) ∨ (i = .aoIOpen n ∧ c.mode = 6) →
      ∃ t, exec i s = .next t ∧ still t ∧ t.fio = s.fio ∧ t.rd (FIO_CH_DIAG_OPEN n) = 1 ∧
        (s.rd (FIO_CH_DIAG_OPEN n) = 0 → t.rd FIO_EVT_OPEN = 1)) ∧
    (c.mode = 5 → ∃ t, exec (.aoVShort n) s = .next t ∧ t.rd (FIO_CH_DIAG_SHORT n) = 1 ∧ t.rd FIO_EVT_SHORT = 1 ∧
      SameBut [FIO_CH_DIAG_SHORT n, FIO_EVT_SHORT] s t ∧ t.rest = s.rest) ∧
    (∃ t, exec (.outputFaultClear n .open_) s = .next t ∧ t.rd (FIO_CH_DIAG_OPEN n) = 0 ∧ SameBut [FIO_CH_DIAG_OPEN n] s t ∧
      t.rest = s.rest) ∧
    (s.rd (FIO_CH_DIAG_LATCH n) = 1 → exec (.outputFaultClear n .short) s = .next s) ∧
    (s.rd (FIO_CH_DIAG_LATCH n) = 0 → s.rd (FIO_CH_DIAG_DRIVEN n) = 1 → ∃ t, exec (.outputFaultClear n .short) s = .next t ∧
      t.rd (FIO_CH_DIAG_SHORT n) = 0 ∧ t.rd (FIO_CH_DIAG_RETRY n) = 0 ∧
      SameBut [FIO_CH_DIAG_SHORT n, FIO_CH_DIAG_RETRY n] s t) ∧
    (∀ (b : Fin 8) (mv10 : Nat), n.val / 32 = b.val → mv10 < 65536 →
      (mv10 < 1800 → s.rd (FIO_BANK_STAT_VLOW b) = 0 → ∃ t, exec (.vfldLow b mv10) s = .next t ∧ still t ∧
        t.rd (FIO_BANK_STAT_VLOW b) = 1 ∧ (t.rd FIO_STAT_VLOW).testBit b.val = true ∧ t.rd (FIO_BANK_STAT_VFLD b) = mv10 ∧
        drives t none ∧ t.rd (FIO_CH_DIAG_DRIVEN n) = 0 ∧ t.rd FIO_EVT_VFLD = 1) ∧
      (1920 ≤ mv10 → s.rd (FIO_BANK_STAT_VLOW b) = 1 → (s.rd FIO_STAT_VLOW).testBit b.val = true → s.rd FIO_STAT_VLOW < 256 →
        ∃ t, exec (.vfldOk b mv10) s = .next t ∧ still t ∧ t.rd (FIO_BANK_STAT_VLOW b) = 0 ∧
          (t.rd FIO_STAT_VLOW).testBit b.val = false ∧ t.rd FIO_EVT_VFLD = 1 ∧
          (c.mode = 2 → s.rd FIO_STAT_OUT_EN = 1 → s.rd (FIO_CH_DIAG_LATCH n) = 0 → c.waits = false →
            s.rd FIO_STAT_PFSAFE = 0 → ¬ bad → t.rd (FIO_CH_DIAG_DRIVEN n) = if val = 1 then 1 else 0))) ∧
    (∀ (ten : Tenant) (o : PointDef), forceOpen s → c.fol = true → tenantEnabled s ten.val → (s.point c.oph).defn = some o →
      visAdmits o.vis ten.val o.owner →
      (o.acc.testBit (accBit ten.val o.owner 2) = false → ∃ t, exec (.fioReset ten n) s = .next t ∧ t.answer.code = 0x0302 ∧
        t.rd FIO_CRES_CODE = 0x0302 ∧ t.rest = s.rest) ∧
      (o.acc.testBit (accBit ten.val o.owner 2) = true →
        (s.rd (FIO_CH_DIAG_LATCH n) = 0 → ∃ t, exec (.fioReset ten n) s = .next t ∧ t.answer.code = 0x0802 ∧ t.rest = s.rest) ∧
        (s.rd (FIO_CH_DIAG_LATCH n) = 1 → ∃ t, exec (.fioReset ten n) s = .next t ∧ t.answer.code = 0x0800 ∧ still t ∧
          t.rd (FIO_CH_DIAG_LATCH n) = 0 ∧ t.rd (FIO_CH_DIAG_SHORT n) = 0 ∧ t.rd (FIO_CH_DIAG_RETRY n) = 0)))

/-! ## Field buses (spec/09) -/

/-- Port `n` and node object `o` of a state, declared. -/
def busIs (s : State) (n : Nat) (p : BusPort) : Prop := (s.fbe.ports.find? fun x => x.1 == n) = some (n, p)
def nodeIs (s : State) (o : Nat) (b : BusObj) : Prop := (s.fbe.objs.find? fun x => x.1 == o) = some (o, b)

/-- No register field outside Granary's window but `fs` changes, and no byte: for a command that may record an event. -/
def SameButLog (fs : List Fld) (s t : State) : Prop :=
  (∀ g : Fld, ¬ g.ofGrn → (∀ f ∈ fs, g.key ≠ f.key) → t.rd g = s.rd g) ∧ ∀ a, t.byte a = s.byte a

/-- A saturating counter has counted one. -/
def counted (s t : State) (f : Fld) : Prop := t.rd f = satInc (2 ^ f.width - 1) (s.rd f)

/-- The value field of a payload and its conversions (R259, Table 9-6): a replaced field reads back, no other bit and not the
length changes; BE takes the bytes most significant first; received integers are sign-extended for FMT 1 and a received REAL32 is
SCALE × field + OFFSET; transmitted integers saturate to the field range; FMT 2 passes the bit pattern both ways. -/
def Obligations.BusValueFields : Prop :=
  ∀ (b : BusObj) (pl : List Byte) (v : Nat),
    (b.ofs + b.wid ≤ 8 * pl.length → v < 2 ^ b.wid → (b.be = true → 8 ∣ b.ofs ∧ 8 ∣ b.wid) →
      b.extract (b.insert pl v) = v ∧ (b.insert pl v).length = pl.length ∧
      ∀ k, k < b.ofs ∨ b.ofs + b.wid ≤ k → (leNat (b.insert pl v)).testBit k = (leNat pl).testBit k) ∧
    (b.be = true → 8 ∣ b.ofs → 8 ∣ b.wid → ∀ k < b.wid / 8,
      b.extract pl / 256 ^ k % 256 = (pl.getD (b.ofs / 8 + (b.wid / 8 - 1 - k)) 0).toNat) ∧
    (v < 2 ^ b.wid → b.wid ≤ 32 →
      (b.receive .bool v = if v = 0 then 0 else 1) ∧
      (b.fmt ≠ 1 → b.receive .int32 v = BitVec.ofNat 32 v ∧ b.receive .uint32 v = BitVec.ofNat 32 v) ∧
      (b.fmt = 1 → (b.receive .int32 v).toInt = if v.testBit (b.wid - 1) then (v : Int) - 2 ^ b.wid else v) ∧
      (b.fmt = 2 → b.receive .real32 v = BitVec.ofNat 32 v) ∧
      (b.fmt = 0 → b.receive .real32 v = xAdd (xMul b.scale (fOfInt v)) b.offset)) ∧
    ∀ w : Word, (b.send .bool w = if w = 0 then 0 else 1) ∧ (b.fmt = 2 → b.send .real32 w = w.toNat) ∧
      (b.fmt = 0 → b.send .uint32 w = min w.toNat (2 ^ b.wid - 1) ∧
        b.send .int32 w = if w.toInt < 0 then 0 else min w.toInt.toNat (2 ^ b.wid - 1)) ∧
      (b.fmt = 1 → b.number (b.send .int32 w) = max (-(2 ^ (b.wid - 1))) (min (2 ^ (b.wid - 1) - 1) w.toInt))

/-- What an object queues at an opening (R261): a QUERY its template; a TX nothing when its point is refused, BAD or UNSET, a
REAL32 without number, or (ONCHG) unchanged and no refresh is due, and else its point's value. -/
def opensWith (s : State) (b : BusObj) : Option (Word × List Byte) :=
  if b.kind = 3 then some (0, b.frame .uint32 0)
  else
    match s.judge b.tenant b.ph askRead with
    | .refused _ _ => none
    | .served d =>
      let v := (s.point b.ph).eval
      if 128 ≤ (s.point b.ph).equal.toNat then none
      else if d.type = .real32 ∧ v.extractLsb' 23 8 = 0xFF#8 then none
      else if b.onchg = false ∨ b.last = none ∨ b.last ≠ some v ∨ (b.refreshN ≠ 0 ∧ b.refreshN ≤ b.refresh + 1) then
        some (v, b.frame d.type v)
      else none

/-- FBE works and port `n` may send (R282, R283). -/
def busSends (s : State) (n : Nat) : Prop :=
  s.awake = true ∧ s.micro 3 = true ∧ s.rd PWR_STAT_ENTRY = 0 ∧ s.rd (FBE_P_CFG_TXEN n) = 1

/-- Port `n` is on its bus: error active, error passive or restricted for CAN; idle, sending or receiving for the others. -/
def busHears (s : State) (n : Nat) : Prop :=
  s.awake = true ∧ s.micro 3 = true ∧
    if n < 10 then s.rd (FBE_P_STAT_STATE n) ∈ [2, 3, 5] else s.rd (FBE_P_STAT_STATE n) ∈ [1, 2, 3]

/-- The frame may start at `t` (R263, R264): its window has been open for 4 µs, and off CAN the frame ends before the close. -/
def busFits (s : State) (p : BusPort) (t : Nat) (x : BusTx) : Prop :=
  x.start = none ∧ ∃ b w op cl, nodeIs s x.obj b ∧ (p.wins.find? fun w => w.win == b.win) = some w ∧ w.opened = some (op, cl) ∧
    op + s.laOfNs 4000 ≤ t ∧ t < cl ∧ (10 ≤ b.port → t + s.laOfNs (p.frameNs b x.bytes) ≤ cl)

/-- The order of two queued frames of port `n` (R263): on CAN by base identifier, base before extended, then by the extension;
elsewhere by window, then by object. -/
def busBefore (s : State) (n : Nat) (x y : BusTx) : Prop :=
  ∃ a b, nodeIs s x.obj a ∧ nodeIs s y.obj b ∧
    let base (o : BusObj) : Nat := if o.ident.testBit 31 then o.ident / 2 ^ 18 % 2 ^ 11 else o.ident % 2 ^ 11
    let ext (o : BusObj) : Nat := if o.ident.testBit 31 then 1 + o.ident % 2 ^ 18 else 0
    if n < 10 then base a < base b ∨ (base a = base b ∧ ext a < ext b) else a.win < b.win ∨ (a.win = b.win ∧ x.obj < y.obj)

/-- Sending (R261 to R265, R272, R276, R279, R281): a window's opening queues its objects' frames, its close keeps them queued; the
first frame in the port's order that fits starts, is sent with its lateness shown, or goes back to its place; a bus-off or a
DALI-2 bus down withdraws the frames, which stay queued. No entry of the point directory and no byte changes. -/
def Obligations.BusSends : Prop :=
  ∀ (s : State) (n : Fin 28) (p : BusPort), busIs s n p → (s.fbe.objs.map fun x => x.1).Nodup →
    (∀ x ∈ s.fbe.objs, x.1 < 4096) → (p.queue.map fun x => x.obj).Nodup → (∀ x ∈ p.queue, x.obj < 4096) →
    let still (t : State) : Prop := t.pdir.points = s.pdir.points ∧ ∀ a, t.byte a = s.byte a
    let state := s.rd (FBE_P_STAT_STATE n)
    (∀ (i : Fin 224) (d : Due) (w : BusWin), i.val / 8 = n.val → s.issuable 5 i.val = some d →
      (p.wins.find? fun x => x.win == i.val % 8) = some w → busSends s n → p.queue = [] →
      let due := d.due.toNat
      ∃ t p', exec (.busWindowOpening i) s = .next t ∧ still t ∧ busIs t n p' ∧
        (p'.wins.find? fun x => x.win == i.val % 8) =
          some { w with opened := some (due, due + (if w.len = 0 then w.period else w.len)) } ∧
        p'.queue = (s.windowObjs n (i.val % 8)).filterMap fun o => (s.obj o).bind fun b =>
          (opensWith s b).map fun q => ⟨o, due, false, q.1, q.2, 0, none, none⟩) ∧
    (∀ (i : Fin 224) (d : Due) (w : BusWin) (x : BusTx) (b : BusObj) (q : Word × List Byte), i.val / 8 = n.val →
      s.issuable 5 i.val = some d → (p.wins.find? fun x => x.win == i.val % 8) = some w → busSends s n → p.queue = [x] →
      x.start = none → nodeIs s x.obj b → s.windowObjs n (i.val % 8) = [x.obj] → opensWith s b = some q →
      ∃ t p', exec (.busWindowOpening i) s = .next t ∧ still t ∧ busIs t n p' ∧
        p'.queue = [{ x with passed := true, value := q.1, bytes := q.2 }]) ∧
    (∀ (i : Fin 224) (w : BusWin) (op cl : Nat), i.val / 8 = n.val → (p.wins.find? fun x => x.win == i.val % 8) = some w →
      w.opened = some (op, cl) → cl < (s.ltu.now / 65536 + 1) * 65536 →
      ∃ t p', exec (.busWindowClose i) s = .next t ∧ busIs t n p' ∧ p'.queue = p.queue ∧
        (p'.wins.find? fun x => x.win == i.val % 8) = some { w with opened := none } ∧ t.ltu.now = max s.ltu.now cl ∧
        t.pdir = s.pdir ∧ SameBut [] s t) ∧
    (∀ (x : BusTx) (sof : BitVec 56) (ho : x.obj < 4096), x ∈ p.queue → (∀ y ∈ p.queue, y.start = none) → p.awaits = none →
      (∀ y ∈ p.queue, ∃ b, nodeIs s y.obj b ∧ b.port = n) →
      busSends s n → (if n.val < 10 then state ∈ [2, 3] else state ∈ [1, 2, 3]) → busFits s p sof.toNat x →
      ((∀ y ∈ p.queue, y ≠ x → busFits s p sof.toNat y → busBefore s n x y) →
        ∃ t, exec (.frameStart n ⟨x.obj, ho⟩ sof) s = .next t ∧ t.pdir = s.pdir ∧ (∀ a, t.byte a = s.byte a) ∧
          busIs t n { p with queue := p.queue.map fun y => if y = x then { x with start := some sof.toNat } else y } ∧
          t.rd (FBE_OBJ_STAT_STATE x.obj) = 3 ∧ SameBut [FBE_OBJ_STAT_STATE x.obj, FBE_P_STAT_STATE n] s t) ∧
      ∀ y ∈ p.queue, busFits s p sof.toNat y → busBefore s n y x → exec (.frameStart n ⟨x.obj, ho⟩ sof) s = .next s) ∧
    (∀ (x : BusTx) (b : BusObj) (sof tec rc : Nat), p.queue.find? (fun y => y.start.isSome) = some x → x.start = some sof →
      x.again = none → nodeIs s x.obj b → (n.val < 10 → state ∈ [2, 3] ∧ tec < 128 ∧ rc < 128) →
      let late := sof - x.first
      ∃ t, exec (.frameSent n tec rc) s = .next t ∧ t.pdir = s.pdir ∧ (∀ a, t.byte a = s.byte a) ∧
        busIs t n { p with queue := p.queue.filter fun y => y.obj ≠ x.obj
                           awaits := if b.kind = 3 then some (x.obj, s.ltu.now) else p.awaits } ∧
        nodeIs t x.obj { b with last := some x.value } ∧ t.rd (FBE_OBJ_STAT_STATE x.obj) = (if b.silent then 4 else 1) ∧
        t.rd (FBE_P_TXCNT_CNT n) = (s.rd (FBE_P_TXCNT_CNT n) + 1) % 2 ^ 32 ∧
        t.rd (FBE_OBJ_STAT_LATE x.obj) = min 65535 late ∧
        t.rd (FBE_P_LATE_MAXLATE n) = max (s.rd (FBE_P_LATE_MAXLATE n)) (min late 65535) % 2 ^ 16 ∧
        (x.passed = false → t.rd (FBE_P_LATE_DELAYED n) = s.rd (FBE_P_LATE_DELAYED n)) ∧
        (x.passed = true → counted s t (FBE_P_LATE_DELAYED n) ∧ t.rd FBE_EVT_DELAYED = 1)) ∧
    (∀ (x : BusTx) (b : BusObj), p.queue.find? (fun y => y.start.isSome) = some x → x.again = none → nodeIs s x.obj b →
      (∀ y ∈ p.queue, y ≠ x → y.start = none) →
      let back (k : Nat) := p.queue.map fun y => if y.obj = x.obj then { x with start := none, tries := k } else y
      (∀ i, (i = .rs485Collision n ∧ 10 ≤ n.val ∧ n.val < 20) ∨ (i = .daliCollision n ∧ 20 ≤ n.val) →
        ∃ t p', exec i s = .next t ∧ t.pdir = s.pdir ∧ (∀ a, t.byte a = s.byte a) ∧ busIs t n p' ∧
          (20 ≤ n.val → counted s t (FBE_P_ERRCNT_E1 n)) ∧ (state = 2 → t.rd (FBE_P_STAT_STATE n) = 1) ∧
          (x.tries < p.retry (portType n) → p' = { p with queue := back (x.tries + 1) } ∧ counted s t (FBE_P_ARB_ARBLOST n)) ∧
          (p.retry (portType n) ≤ x.tries → p' = { p with queue := p.queue.filter fun y => y.obj ≠ x.obj } ∧
            counted s t (FBE_P_ARB_BUSOFF n) ∧ t.rd FBE_EVT_RETRY_OUT = 1)) ∧
      (∀ (m : Fin 10) (lec : Fin 7) (tec rc : Nat), m.val = n.val → lec ≠ 0 → s.awake = true → s.micro 3 = true → state ∈ [2, 3] →
        ∃ t p', exec (.canError m lec tec rc) s = .next t ∧ t.pdir = s.pdir ∧ (∀ a, t.byte a = s.byte a) ∧ busIs t n p' ∧
          p'.queue = back 0 ∧ t.rd (FBE_P_STAT_LEC n) = lec.val ∧ t.rd (FBE_P_STAT_TEC n) = min 255 tec ∧
          t.rd (FBE_P_STAT_REC n) = min 255 rc ∧
          counted s t (if lec.val = 6 then FBE_P_ERRCNT_E0 n else if lec.val < 3 then FBE_P_ERRCNT_E1 n
            else if lec.val = 3 then FBE_P_ERRCNT_E3 n else FBE_P_ERRCNT_E2 n) ∧
          t.rd (FBE_P_STAT_STATE n) = (if 256 ≤ tec then 4 else if 128 ≤ tec ∨ 128 ≤ rc then 3 else 2) ∧
          (256 ≤ tec → p'.recovering = p.borec ∧ counted s t (FBE_P_ARB_BUSOFF n) ∧ t.rd FBE_EVT_BUS_OFF = 1) ∧
          (tec < 256 → p'.recovering = p.recovering ∧ (state = 2 → 128 ≤ tec ∨ 128 ≤ rc → t.rd FBE_EVT_ERR_PASSIVE = 1))) ∧
      (20 ≤ n.val → busSends s n → state ≠ 4 → ∃ t, exec (.daliBusDown n) s = .next t ∧ t.pdir = s.pdir ∧
        (∀ a, t.byte a = s.byte a) ∧ busIs t n { p with queue := back 0, awaits := none } ∧ t.rd (FBE_P_STAT_STATE n) = 4 ∧
        counted s t (FBE_P_ERRCNT_E3 n) ∧ t.rd FBE_EVT_DALI_DOWN = 1)) ∧
    (20 ≤ n.val → state = 4 → ∃ t, exec (.daliBusUp n) s = .next t ∧ t.pdir = s.pdir ∧ t.rd (FBE_P_STAT_STATE n) = 1 ∧
      busIs t n { p with wins := p.wins.map fun (w : BusWin) => { w with opened := none } } ∧
      SameButLog [FBE_P_STAT_STATE n] s t) ∧
    (∀ m : Fin 10, m.val = n.val →
      (busSends s n → state ∈ [2, 3] → ∃ t, exec (.arbitrationLost m) s = .next t ∧ counted s t (FBE_P_ARB_ARBLOST n) ∧
        SameBut [FBE_P_ARB_ARBLOST n] s t ∧ t.rest = s.rest) ∧
      (state = 4 → p.recovering = true → ∃ t, exec (.busOn m) s = .next t ∧ t.pdir = s.pdir ∧
        busIs t n { p with recovering := false } ∧ t.rd (FBE_P_STAT_STATE n) = (if s.rd (FBE_P_CFG_TXEN n) = 1 then 2 else 5) ∧
        t.rd (FBE_P_STAT_TEC n) = 0 ∧ t.rd (FBE_P_STAT_REC n) = 0 ∧
        SameButLog [FBE_P_STAT_STATE n, FBE_P_STAT_TEC n, FBE_P_STAT_REC n] s t) ∧
      (state = 4 → p.recovering = false → exec (.busOn m) s = .next s) ∧
      (state = 1 → s.awake = true → ∃ t, exec (.busIntegrationComplete m) s = .next t ∧ t.pdir = s.pdir ∧
        t.rd (FBE_P_STAT_STATE n) = (if s.rd (FBE_P_CFG_TXEN n) = 1 then 2 else 5) ∧ SameBut [FBE_P_STAT_STATE n] s t))

/-- The frame matches the RX object (R266). -/
def frameHits (b : BusObj) : BusFrame → Prop
  | .can ide fdf remote id _ => remote = false ∧ ide = b.ident.testBit 31 ∧ fdf = b.ident.testBit 30 ∧
      ∀ k < 29, b.mask.testBit k = true → id.getLsbD k = b.ident.testBit k
  | .rs485 bytes _ => 4 ≤ bytes.length ∧ (∀ k < 32, b.mask.testBit k = true →
        (leNat (bytes.take 4)).testBit k = (leNat (b.template.take 4)).testBit k) ∧
      (b.crc = true → 6 ≤ bytes.length ∧ crc16 (bytes.take (bytes.length - 2)) = leNat (bytes.drop (bytes.length - 2)))
  | .dali n v => n = b.daliBits ∧ ∀ k < 24, b.mask.testBit k = true → v.testBit k = b.ident.testBit k
  | .violation => False

/-- A frame without error, of the type of port `n`, that the port takes: no FD frame on a MODE 1 port and no remote frame. -/
def frameGood (p : BusPort) (n : Nat) : BusFrame → Prop
  | .can _ fdf remote _ _ => n < 10 ∧ remote = false ∧ (fdf = true → p.mode ≠ 1)
  | .rs485 _ e => 10 ≤ n ∧ n < 20 ∧ e = 0
  | .dali k _ => 20 ≤ n ∧ (k = 16 ∨ k = 24)
  | .violation => False

/-- Reception (R266 to R269, R275, R277, R280): every matching object writes its point with the converted field, quality 0x00 and
the line time of the frame's start, no other point changes; a frame that finds the FIFO full, is in error or is not for the port
writes no point and is counted; silence and missing answers write quality 0x85. -/
def Obligations.BusReceives : Prop :=
  ∀ (s : State) (n : Fin 28) (p : BusPort), busIs s n p → (s.fbe.objs.map fun x => x.1).Nodup → busHears s n →
    let calm (tec rc : Nat) : Prop := n.val < 10 → tec < 128 ∧ rc < 128
    let still (t : State) : Prop := t.pdir = s.pdir ∧ ∀ a, t.byte a = s.byte a
    let payload (f : BusFrame) : List Byte := match f with
      | .can _ _ _ _ d => d | .rs485 d _ => d | .dali k v => leBytes (k / 8) v | .violation => []
    (∀ (f : BusFrame) (start : BitVec 56) (tec rc : Nat), frameGood p n f → calm tec rc → p.awaits = none →
      ∃ t p', exec (.frameReceived n f start false tec rc) s = .next t ∧ busIs t n p' ∧ (∀ a, t.byte a = s.byte a) ∧
        p' = { p with sof := start.toNat, ovrRun := false } ∧
        t.rd (FBE_P_RXCNT_CNT n) = (s.rd (FBE_P_RXCNT_CNT n) + 1) % 2 ^ 32 ∧
        t.rd (FBE_P_SOF_LO_T_LO n) = start.toNat % 2 ^ 32 ∧
        (∀ o b d, nodeIs s o b → b.port = n → b.kind = 1 → frameHits b f → (s.point b.ph).defn = some d → d.srcKind = 5 →
          d.srcIndex = o → b.ofs + b.wid ≤ 8 * (payload f).length →
          let v := b.receive d.type (b.extract (payload f))
          t.point b.ph = { s.point b.ph with
            value := if d.type = .bool then (if v = 0 then 0 else 1) else v
            qual := 0, ts := BitVec.ofNat 32 start.toNat, upd := (s.point b.ph).upd + 1 }) ∧
        (∀ o b, nodeIs s o b → b.port = n → b.kind = 1 → frameHits b f →
          nodeIs t o { b with matchCyc := s.ltu.now / 65536, silent := false }) ∧
        ∀ h, (∀ o b, nodeIs s o b → b.port = n → b.kind = 1 → frameHits b f → b.ph = h →
          (s.point h).fedBy 5 o = true → 8 * (payload f).length < b.ofs + b.wid) → t.point h = s.point h) ∧
    (∀ (f : BusFrame) (start : BitVec 56) (tec rc : Nat), frameGood p n f → calm tec rc →
      ∃ t, exec (.frameReceived n f start true tec rc) s = .next t ∧ still t ∧ counted s t (FBE_P_DROP_RXOVR n) ∧
        t.rd FBE_EVT_RX_OVR = 1) ∧
    (∀ (f : BusFrame) (e : Fin 4) (k v : Nat) (bytes : List Byte) (start : BitVec 56) (full : Bool) (tec rc : Nat),
      (f = .rs485 bytes e → 10 ≤ n.val → n.val < 20 → e ≠ 0 →
        ∃ t, exec (.frameReceived n f start full tec rc) s = .next t ∧ t.rest = s.rest ∧
          let c := if e = 1 then FBE_P_ERRCNT_E1 n else if e = 2 then FBE_P_ERRCNT_E2 n else FBE_P_ERRCNT_E3 n
          counted s t c ∧ SameBut [c] s t) ∧
      ((f = .dali k v ∧ k ≠ 16 ∧ k ≠ 24) ∨ f = .violation → 20 ≤ n.val →
        ∃ t, exec (.frameReceived n f start full tec rc) s = .next t ∧ t.rest = s.rest ∧ counted s t (FBE_P_ERRCNT_E0 n) ∧
          SameBut [FBE_P_ERRCNT_E0 n] s t)) ∧
    (∀ (ide remote : Bool) (id : BitVec 29) (data : List Byte) (start : BitVec 56) (tec rc : Nat), n.val < 10 → calm tec rc →
      (p.mode = 1 → ∃ t, exec (.frameReceived n (.can ide true remote id data) start false tec rc) s = .next t ∧ still t ∧
        t.fbe = s.fbe ∧ counted s t (FBE_P_MISS_FDIGN n) ∧ t.rd (FBE_P_RXCNT_CNT n) = s.rd (FBE_P_RXCNT_CNT n)) ∧
      (p.mode = 2 → ∃ t, exec (.frameReceived n (.can ide false true id data) start false tec rc) s = .next t ∧ still t ∧
        counted s t (FBE_P_MISS_FDIGN n) ∧ t.fbe.objs = s.fbe.objs)) ∧
    (∀ (o : Fin 4096) (b : BusObj), nodeIs s o b → b.port = n → b.kind ≠ 2 → b.tmo ≠ 0 → b.silent = false →
      (s.ltu.now / 65536 ≤ b.matchCyc + b.tmo → exec (.silenceTimeout o) s = .next s) ∧
      (b.matchCyc + b.tmo < s.ltu.now / 65536 → ∃ t, exec (.silenceTimeout o) s = .next t ∧ t.rd FBE_EVT_SILENT = 1 ∧
        nodeIs t o { b with silent := true } ∧ (s.rd (FBE_OBJ_STAT_STATE o) = 1 → t.rd (FBE_OBJ_STAT_STATE o) = 4) ∧
        ((s.point b.ph).fedBy 5 o = true → t.point b.ph = { s.point b.ph with
          qual := 0x85, ts := BitVec.ofNat 32 s.ltu.now, upd := (s.point b.ph).upd + 1 }) ∧
        (∀ h, h ≠ b.ph → t.point h = s.point h) ∧ SameButLog [FBE_EVT_SILENT, FBE_OBJ_STAT_STATE o] s t)) ∧
    (∀ (o : Fin 4096) (b : BusObj) (rel : Nat), p.awaits = some (o.val, rel) → nodeIs s o b → b.port = n → b.kind = 3 →
      (s.point b.ph).fedBy 5 o = true →
      let others (t : State) : Prop := ∀ h, h ≠ b.ph → t.point h = s.point h
      (10 ≤ n.val → n.val < 20 → (∃ t, exec (.queryReplyTimeout n) s = .next t ∧ others t ∧ busIs t n { p with awaits := none } ∧
          t.point b.ph = { s.point b.ph with qual := 0x85, ts := BitVec.ofNat 32 s.ltu.now, upd := (s.point b.ph).upd + 1 } ∧
          SameBut [] s t) ∧
        ∀ (bytes : List Byte) (start : BitVec 56) (d : PointDef) (tec rc : Nat), start.toNat ≤ rel + s.laOfNs (b.resp * 1000) →
          (s.point b.ph).defn = some d → b.ofs + b.wid ≤ 8 * bytes.length →
          ∃ t p', exec (.frameReceived n (.rs485 bytes 0) start false tec rc) s = .next t ∧ busIs t n p' ∧ p'.awaits = none ∧
            let v := b.receive d.type (b.extract bytes)
            t.point b.ph = { s.point b.ph with
              value := if d.type = .bool then (if v = 0 then 0 else 1) else v
              qual := 0, ts := BitVec.ofNat 32 start.toNat, upd := (s.point b.ph).upd + 1 }) ∧
      (20 ≤ n.val → ∀ (a : DaliAnswer) (d : PointDef), (s.point b.ph).defn = some d → d.type = .uint32 →
        ∃ t, exec (.daliAnswerWindowEnd n a) s = .next t ∧ others t ∧ busIs t n { p with awaits := none } ∧
          t.point b.ph = { s.point b.ph with
            value := match a with | .silence => 256 | .backward v => v.zeroExtend 32 | .violation => 257
            qual := match a with | .silence => 0x85 | .backward _ => 0 | .violation => 0
            ts := BitVec.ofNat 32 s.ltu.now, upd := (s.point b.ph).upd + 1 } ∧
          (a = .silence → counted s t (FBE_P_ERRCNT_E2 n)) ∧ (a = .violation → counted s t (FBE_P_ERRCNT_E0 n)))) ∧
    (∃ t, exec (.fbeSofLoRead n) s = .next t ∧ t.answer.words = [BitVec.ofNat 32 p.sof] ∧
      t.rd (FBE_P_SOF_HI_T_HI n) = p.sof / 2 ^ 32 % 2 ^ 24 ∧ SameBut [FBE_P_SOF_HI_T_HI n] s t ∧ t.rest = s.rest)

/-- Requests and wake (R274, R284): a CANCEL aborts a queued frame, comes too late for a started one, and needs the F right; a
RECOVER by tenant 0 starts the recovery of a port in bus-off; a sleeping port wakes the module. -/
def Obligations.BusRequests : Prop :=
  ∀ (s : State) (ten : Tenant) (o : Fin 4096),
    let answers (t : State) (code : Nat) : Prop := t.answer.code = code ∧ t.rd FBE_CRES_CODE = code ∧ t.rd FBE_CRES_DONE = 1 ∧
      t.pdir = s.pdir ∧ ∀ a, t.byte a = s.byte a
    let refused (i : Instr) (code : Nat) : Prop := ∃ t, exec i s = .next t ∧ answers t code ∧ t.fbe = s.fbe ∧
      SameBut [FBE_CRES_CODE, FBE_CRES_DONE] s t
    (s.hlt.supRestart = true → refused (.frameCancel ten o) 0x0308 ∧ refused (.busRecover ten o) 0x0308) ∧
    (forceOpen s →
      (s.fbe.objs.find? (fun x => x.1 == o.val) = none → refused (.frameCancel ten o) 0x0904) ∧
      (∀ (b : BusObj) (d : PointDef), nodeIs s o b → (s.point b.ph).defn = some d → tenantEnabled s ten.val →
        (¬ visAdmits d.vis ten.val d.owner → refused (.frameCancel ten o) 0x0301) ∧
        (visAdmits d.vis ten.val d.owner → d.acc.testBit (accBit ten.val d.owner 2) = false →
          refused (.frameCancel ten o) 0x0302) ∧
        (visAdmits d.vis ten.val d.owner → d.acc.testBit (accBit ten.val d.owner 2) = true →
          (b.kind = 1 → refused (.frameCancel ten o) 0x0903) ∧
          (∀ p, b.kind ≠ 1 → busIs s b.port p → (p.queue.find? (fun x => x.obj == o.val) = none →
              refused (.frameCancel ten o) 0x0902) ∧
            ∀ x, p.queue.find? (fun x => x.obj == o.val) = some x →
              (x.start.isSome = true → refused (.frameCancel ten o) 0x0901) ∧
              (x.start = none → (∀ y ∈ p.queue, y.obj = o.val → y.again = none) → ∃ t, exec (.frameCancel ten o) s = .next t ∧
                answers t 0x0900 ∧ busIs t b.port { p with queue := p.queue.filter fun y => y.obj ≠ o.val } ∧
                t.rd (FBE_OBJ_STAT_STATE o) = if b.silent then 4 else 1)))) ∧
      (ten ≠ 0 → refused (.busRecover ten o) 0x0302) ∧
      (ten = 0 → (s.fbe.ports.find? (fun x => x.1 == o.val) = none → refused (.busRecover ten o) 0x0904) ∧
        ∀ p, busIs s o p → (10 ≤ o.val ∨ s.rd (FBE_P_STAT_STATE o) ≠ 4 → refused (.busRecover ten o) 0x0905) ∧
          (o.val < 10 → s.rd (FBE_P_STAT_STATE o) = 4 → ∃ t, exec (.busRecover ten o) s = .next t ∧ answers t 0x0900 ∧
            busIs t o { p with recovering := true } ∧ SameBut [FBE_CRES_CODE, FBE_CRES_DONE] s t))) ∧
    (∀ (n : Fin 10) (p : BusPort) (w : WakeSeen), busIs s n p → s.rd PWR_STAT_SLEEP ≠ 0 → s.rd PWR_STAT_ENTRY = 0 →
      let wid := p.par.getD 4 0
      let mask := leAt p.wrec 4 4
      let cmp := leAt p.wrec 0 4
      let wakes : Prop := match w with
        | .dominant ns => p.wake = 1 ∧ 1800 ≤ ns
        | .frame ide fdf id dlc data => p.wake = 2 ∧ fdf = false ∧ ide = wid.testBit 31 ∧
            (∀ k < 29, mask.testBit k = true → id.getLsbD k = wid.testBit k) ∧
            (cmp.testBit 31 = true → dlc = cmp % 16 ∧
              ∃ k, (leNat data).testBit k = true ∧ (leAt p.wrec 0x10 8).testBit k = true ∧ (leAt p.wrec 8 8).testBit k = true)
        | .errors k => p.wake = 2 ∧ 32 ≤ k
      (¬ wakes → exec (.canWake n w) s = .next s) ∧
      (wakes → ∃ t, exec (.canWake n w) s = .next t ∧ t.rd FBE_EVT_WAKE = 1 ∧ t.pdir = s.pdir ∧ SameButLog [FBE_EVT_WAKE] s t ∧
        t.pwr.wakes.testBit 1 = (s.pwr.wakes.testBit 1 || (s.rd PWR_WAKE_EN_EN).testBit 1)))

/-! ## Site network and Umnesel point transport (spec/10) -/

/-- The module accepts frames for the destination (R292). -/
def netDest (s : State) (d : Nat) : Prop :=
  d = s.rd NET_MAC_HI_MAC % 65536 * 2 ^ 32 + s.rd NET_MAC_LO_MAC ∨ d = 0x0A5A7E000000 + s.rd NET_ADDR_MADDR ∨
  (s.rd PLK_STAT_ROLE ≠ 0 ∧ s.rd NET_ADDR_PEN = 1 ∧ d = 0x0A5A7E100000 + s.rd NET_ADDR_PADDR) ∨
  d ∈ [0xFFFFFFFFFFFF, 0x0B5A7E000001, 0x0B5A7E000002, 0x011B19000000, 0x0180C200000E]

/-- The frame came from this module (R292). -/
def netOwn (s : State) (d : Nat) : Prop :=
  d = s.rd NET_MAC_HI_MAC % 65536 * 2 ^ 32 + s.rd NET_MAC_LO_MAC ∨ d = 0x0A5A7E000000 + s.rd NET_ADDR_MADDR

/-- Receive rule `n` matches the frame (R301). -/
def ruleTakes (s : State) (n : Nat) (h : EthHead) : Prop :=
  s.rd (NET_RULE_A_EN n) = 1 ∧
  (s.rd (NET_RULE_A_MVID n) = 1 → ∃ t, h.tag = some t ∧ t % 4096 = s.rd (NET_RULE_A_VID n)) ∧
  (s.rd (NET_RULE_A_MPCP n) = 1 → ∃ t, h.tag = some t ∧ t / 2 ^ 13 % 8 = s.rd (NET_RULE_A_PCP n)) ∧
  (s.rd (NET_RULE_A_MET n) = 1 → h.etype = s.rd (NET_RULE_B_ETYPE n))

/-- A plain frame: neither PTP, PAUSE nor ring control. -/
def netPlain (s : State) (bs : List Byte) : Prop :=
  let h := ethHead bs
  h.etype ≠ 0x88F7 ∧ h.etype ≠ 0x8808 ∧
  ¬ (h.etype = s.rd NET_UPT_CFG_ETYPE ∧ h.dst = 0x0B5A7E000002 ∧ leAt bs (h.off + 1) 1 = 8)

/-- Ports and queues of the frames that wait. -/
def txPlaces (s : State) : List (Nat × Nat) := s.net.tx.map fun f => (f.port, f.queue)

/-- Reception (R288, R292 to R294, R301): a frame is judged for length, FCS and PAUSE; a plain frame for the module goes where the
first matching rule, or RXDEF, says; a ring member passes every frame that is not for it alone to the other port; a frame that has
come round and one on the manager's blocked port go nowhere. -/
def Obligations.EthernetReception : Prop :=
  ∀ (s : State) (port : Fin 2) (bs : List Byte), s.rd (NET_P_STAT_LINK port) = 1 → s.awake = true →
    let len := bs.length + 4
    let maxf := s.rd NET_CFG_MAXF
    let h := ethHead bs
    let only (f : Fld) (ok : Bool) : Prop := ∃ t, exec (.ethernetFrameReceived port bs ok) s = .next t ∧ counted s t f ∧
      SameBut [f, NET_P_STAT_LPI port] s t ∧ t.rest = s.rest
    let room (q : Nat) : Prop := s.rd (NET_RXQ_CFG_CONS q) = 0 ∧ (s.net.rx.filter fun f => f.queue == q).length < 512
    (∀ ok, len < 64 → only (NET_P_RXERR_RUNT port) ok) ∧
    (∀ ok, 64 ≤ len → maxf < len → only (NET_P_RXERR_OVERSIZE port) ok) ∧
    (64 ≤ len → len ≤ maxf → only (NET_P_RXERR_FCS port) false) ∧
    (64 ≤ len → len ≤ maxf → h.etype = 0x8808 → only (NET_P_RXERR_PAUSE port) true) ∧
    (64 ≤ len → len ≤ maxf → netPlain s bs → ∃ t, exec (.ethernetFrameReceived port bs true) s = .next t ∧
      t.rd (NET_P_RXCNT_CNT port) = (s.rd (NET_P_RXCNT_CNT port) + 1) % 2 ^ 32 ∧ t.pdir = s.pdir ∧ (∀ a, t.byte a = s.byte a) ∧
      (s.rd NET_CFG_EN = 0 ∨ s.rd NET_RING_CFG_MODE ∈ [0, 3] →
        (¬ netDest s h.dst → t.net.rx = s.net.rx ∧ t.net.tx = s.net.tx) ∧
        (∀ q, netDest s h.dst → (∀ k < 64, ¬ ruleTakes s k h) → s.rd NET_CFG_RXDEF = q → q < 8 → room q →
          t.net.rx = s.net.rx ++ [⟨port, q, bs, none⟩] ∧ t.net.tx = s.net.tx) ∧
        (netDest s h.dst → (∀ k < 64, ¬ ruleTakes s k h) → 8 ≤ s.rd NET_CFG_RXDEF → t.net.rx = s.net.rx) ∧
        (∀ k < 64, netDest s h.dst → ruleTakes s k h → (∀ j < k, ¬ ruleTakes s j h) → counted s t (NET_RULE_B_HITS k) ∧
          (s.rd (NET_RULE_A_DROP k) = 1 → t.net.rx = s.net.rx) ∧
          (s.rd (NET_RULE_A_DROP k) = 0 → room (s.rd (NET_RULE_A_RXQ k)) →
            t.net.rx = s.net.rx ++ [⟨port, s.rd (NET_RULE_A_RXQ k), bs,
              if s.rd (NET_RULE_A_TENCHK k) = 1 then some (s.rd (NET_RULE_A_TEN k)) else none⟩]))) ∧
      (s.rd NET_CFG_EN = 1 → s.rd NET_RING_CFG_MODE = 1 →
        (netOwn s h.src → counted s t NET_RING_STAT_LOOP ∧ t.net.rx = s.net.rx ∧ t.net.tx = s.net.tx) ∧
        (¬ netOwn s h.src → ¬ netDest s h.dst → s.transitBytes (1 - port.val) + bs.length ≤ 131072 →
          t.net.tx = s.net.tx ++ [⟨1 - port.val, h.pcp, true, bs, s.ltu.now, s.ms, none, false⟩] ∧ t.net.rx = s.net.rx)) ∧
      (s.rd NET_CFG_EN = 1 → s.rd NET_RING_CFG_MODE = 2 → s.rd NET_RING_STAT_BLOCKED = 1 → port = 1 →
        t.net.rx = s.net.rx ∧ t.net.tx = s.net.tx ∧ t.net.learned = s.net.learned))

/-- Sending, links and the ring (R289, R290, R294 to R300, R303, R304): a descriptor is checked before any byte moves, and its
segments leave in order; a port transmits its highest class first, transit before local, and writes back; links, speed shifts and
low-power idle are shown; the manager counts missed tests, opens and closes the ring and flushes the learned addresses; PTP
messages leave in Q7. The numbers of the PTP port states are the model's (log entry 13). -/
def Obligations.EthernetSendingAndRing : Prop :=
  ∀ (s : State) (port : Fin 2),
    (∀ (a : Word), let d := a.toNat
      let at_ (o n : Nat) : Nat := leNat (s.bytes (d + o) n)
      let seg := at_ 0xC 1 % 2 = 1
      let len := at_ 4 3
      let maxf := s.rd NET_CFG_MAXF
      let bad := len = 0 ∨ (¬ seg ∧ maxf - 4 < len) ∨
        (seg ∧ (65536 < len ∨ at_ 8 2 < 14 ∨ 128 < at_ 8 2 ∨ at_ 10 2 < 256 ∨ maxf - 4 < at_ 8 2 + at_ 10 2 + 8))
      (bad → ∃ t, exec (.transmitDescriptor a) s = .next t ∧ t.net = s.net ∧ t.byte (d + 15) = 1 ∧ t.rd NET_EVT_DESC_ERR = 1 ∧
        (∀ p < 2, (at_ 14 1).testBit p = true → counted s t (NET_P_TXERR_DESC_ERR p)) ∧
        ∀ x, x ≠ d + 15 → t.byte x = s.byte x) ∧
      (¬ bad → ¬ seg → at_ 14 1 % 4 = 2 ^ port.val → let q := at_ 13 1 % 8
        let frame := padTo 60 (s.bytes (at_ 0 4) len)
        (s.queued port q < 256 → ∃ t, exec (.transmitDescriptor a) s = .next t ∧ (∀ x, t.byte x = s.byte x) ∧
          t.net.tx = s.net.tx ++ [⟨port, q, false, frame, s.ltu.now, s.ms, some d, (at_ 0xC 1).testBit 4⟩]) ∧
        (256 ≤ s.queued port q → ∃ t, exec (.transmitDescriptor a) s = .next t ∧ t.net = s.net ∧
          counted s t (NET_P_TXQ_DROPS port q) ∧ t.byte (d + 15) = 2 ∧ ∀ x, x ≠ d + 15 → t.byte x = s.byte x)) ∧
      (¬ bad → at_ 0xC 1 = 1 → at_ 14 1 % 4 = 2 ^ port.val → let q := at_ 13 1 % 8
        let mss := at_ 10 2
        let n := (len + mss - 1) / mss
        s.queued port q + n ≤ 256 → ∃ t, exec (.transmitDescriptor a) s = .next t ∧ (∀ x, t.byte x = s.byte x) ∧
          t.net.tx = s.net.tx ++ (List.range n).map fun k =>
            ⟨port, q, false, padTo 60 (s.bytes (at_ 0 4) (at_ 8 2) ++
              s.bytes (at_ 0 4 + at_ 8 2 + k * mss) (min mss (len - k * mss))), s.ltu.now, s.ms,
              if k + 1 = n then some d else none, false⟩)) ∧
    (∀ (sec : BitVec 48) (ns : BitVec 30),
      ((∀ f ∈ s.net.tx, f.port ≠ port) → exec (.ethernetFrameSent port sec ns) s = .next s) ∧
      ∀ f ∈ s.net.tx, f.port = port → f.queue < 8 → (∀ g ∈ s.net.tx, g.port = port.val → g ≠ f →
          g.queue < f.queue ∨ (g.queue = f.queue ∧ f.transit = true ∧ g.transit = false)) →
        ∃ t, exec (.ethernetFrameSent port sec ns) s = .next t ∧ t.net.tx = s.net.tx.erase f ∧
          t.rd (NET_P_TXCNT_CNT port) = (s.rd (NET_P_TXCNT_CNT port) + 1) % 2 ^ 32 ∧
          (f.transit = false → f.entered ≤ s.ltu.now → let w := NET_P_TXQ_WAITMAX port f.queue
            t.rd w = max (s.rd w) (min (s.ltu.now - f.entered) (2 ^ w.width - 1)) % 2 ^ w.width ∧
            (65536 < s.ltu.now - f.entered → counted s t (NET_P_TXQ_STARVED port f.queue))) ∧
          (f.desc = none → ∀ x, t.byte x = s.byte x) ∧
          (∀ a, f.desc = some a → t.byte (a + 15) = 0 ∧ (f.stamp = true → leNat (t.bytes (a + 16) 4) = ns.toNat / 8 * 8 ∧
              leNat (t.bytes (a + 20) 4) = sec.toNat % 2 ^ 32) ∧
            ∀ x, x < a + 15 ∨ a + 24 ≤ x → t.byte x = s.byte x)) ∧
    (∀ speed : Fin 3, ∃ t, exec (.linkUp port speed) s = .next t ∧ t.rd (NET_P_STAT_LINK port) = 1 ∧
      t.rd (NET_P_STAT_SPEED port) = speed.val + 1 ∧ t.rd (NET_P_STAT_NEG_FAIL port) = 0 ∧ t.rd NET_EVT_LINK = 1 ∧ t.net = s.net ∧
      SameButLog [NET_P_STAT_LINK port, NET_P_STAT_SPEED port, NET_P_STAT_NEG_FAIL port, NET_EVT_LINK] s t) ∧
    (∃ t, exec (.linkDown port) s = .next t ∧ t.rd (NET_P_STAT_LINK port) = 0 ∧ t.rd (NET_P_STAT_SPEED port) = 0 ∧
      t.rd NET_EVT_LINK = 1 ∧ (∀ a, t.byte a = s.byte a) ∧ (s.rd NET_RING_CFG_MODE ≠ 1 → t.net = s.net) ∧
      (∀ k, s.rd NET_CFG_EN = 1 → s.rd NET_RING_CFG_MODE = 1 → s.netKey 0 = .ok k → s.queued (1 - port.val) 7 < 256 →
        txPlaces t = txPlaces s ++ [(1 - port.val, 7)])) ∧
    (∃ t, exec (.negFail port) s = .next t ∧ t.rd (NET_P_STAT_LINK port) = 0 ∧ t.rd (NET_P_STAT_NEG_FAIL port) = 1 ∧
      t.rd (NET_P_STAT_SPEED port) = 0 ∧
      SameBut [NET_P_STAT_LINK port, NET_P_STAT_SPEED port, NET_P_STAT_NEG_FAIL port] s t ∧ t.rest = s.rest) ∧
    (∀ rx tx : Nat, (∀ x ∈ s.net.shifts, x.1 = port → x.2 + 60000 ≤ s.ms) →
      let shifts (i : Instr) (ds : Nat) : Prop := ∃ t, exec i s = .next t ∧ t.rd (NET_P_STAT_DS port) = ds ∧
        t.rd NET_EVT_SHIFT = 1 ∧ (port.val, s.ms) ∈ t.net.shifts ∧ t.net.tx = s.net.tx ∧
        SameButLog [NET_P_STAT_DS port, NET_EVT_SHIFT] s t
      (s.rd (NET_P_CFG_DS_EN port) = 1 → s.rd (NET_P_STAT_SPEED port) = 3 → (s.rd (NET_P_CFG_ADV port)).testBit 1 = true →
        (rx < 5000 → tx < 5000 → shifts (.downshift port rx tx) 1) ∧
        (5000 ≤ rx ∨ 5000 ≤ tx → exec (.downshift port rx tx) s = .next s)) ∧
      (s.rd (NET_P_STAT_DS port) = 1 → (50000 < rx ∨ 50000 < tx → shifts (.upshift port rx tx) 0) ∧
        (rx ≤ 50000 → tx ≤ 50000 → (∀ f ∈ s.net.tx, f.port = port → 6 ≤ f.queue → s.ms ≤ f.ms + 1) →
          exec (.upshift port rx tx) s = .next s))) ∧
    (s.rd (NET_P_CFG_EEE_EN port) = 1 → s.rd (NET_P_STAT_LINK port) = 1 → 2 ≤ s.rd (NET_P_STAT_SPEED port) →
      ((∀ f ∈ s.net.tx, f.port ≠ port) → ∃ t, exec (.lpiEntry port) s = .next t ∧ t.rd (NET_P_STAT_LPI port) = 1 ∧
        SameBut [NET_P_STAT_LPI port] s t ∧ t.rest = s.rest) ∧
      ((∃ f ∈ s.net.tx, f.port = port) → exec (.lpiEntry port) s = .next s)) ∧
    (∀ k, s.rd NET_CFG_EN = 1 → s.rd NET_RING_CFG_MODE = 2 → s.netKey 0 = .ok k → s.queued 0 7 < 256 → s.queued 1 7 < 256 →
      let both (t : State) : Prop := txPlaces t = txPlaces s ++ [(0, 7), (1, 7)]
      let fault := 3 ≤ s.net.miss0 ∨ 3 ≤ s.net.miss1 ∨ s.net.linkDown = true
      (∃ t, exec .ringTestFrame s = .next t ∧ both t ∧ t.net.seen = [] ∧
        t.net.miss0 = (if 0 ∈ s.net.seen then 0 else s.net.miss0 + 1) ∧
        t.net.miss1 = (if 1 ∈ s.net.seen then 0 else s.net.miss1 + 1) ∧
        t.net.okRun = (if 0 ∈ s.net.seen ∧ 1 ∈ s.net.seen then s.net.okRun + 1 else 0)) ∧
      (s.rd NET_RING_STAT_STATE ≠ 2 → (¬ fault → exec .ringOpen s = .next s) ∧ exec .ringClose s = .next s ∧
        (fault → ∃ t, exec .ringOpen s = .next t ∧ both t ∧ t.rd NET_STAT_RING = 2 ∧ t.rd NET_RING_STAT_STATE = 2 ∧
          t.rd NET_RING_STAT_BLOCKED = 0 ∧ counted s t NET_RING_STAT_OPENS ∧ t.rd NET_EVT_RING = 1 ∧ t.net.learned = [])) ∧
      (s.rd NET_RING_STAT_STATE = 2 → exec .ringOpen s = .next s ∧ (s.net.okRun < 64 → exec .ringClose s = .next s) ∧
        (64 ≤ s.net.okRun → ∃ t, exec .ringClose s = .next t ∧ both t ∧ t.rd NET_STAT_RING = 1 ∧
          t.rd NET_RING_STAT_STATE = 1 ∧ t.rd NET_RING_STAT_BLOCKED = 1 ∧ t.net.learned = []))) ∧
    (∀ (f : RxFrame) (r : List RxFrame), s.net.ring = f :: r →
      let bs := f.bytes.drop (ethHead f.bytes).off
      let h := UptHdr.parse bs
      let good := uptFormatOk bs = true ∧ h.len = 4
      let own := h.key = 0 ∧ s.authentic h bs = true
      (¬ good → ∃ t, exec .ringControlFrame s = .next t ∧ counted s t NET_UPT_CNT_A_LENERR ∧ t.net = { s.net with ring := r }) ∧
      (good → ¬ own → ∃ t, exec .ringControlFrame s = .next t ∧ counted s t NET_UPT_CNT_A_AUTH ∧ t.rd NET_EVT_AUTH = 1 ∧
        t.net = { s.net with ring := r }) ∧
      (∀ e, good → own → (s.net.replay.find? fun x => x.src == h.src && x.key == h.key) = some e → e.epoch = h.epoch →
        e.synced = true → e.high < h.count → s.rd NET_CFG_EN = 1 → ∃ t, exec .ringControlFrame s = .next t ∧ t.net.ring = r ∧
          (s.rd NET_RING_CFG_MODE = 2 → leAt bs 24 1 = 1 → h.src = s.rd NET_ADDR_MADDR → f.port ∈ t.net.seen) ∧
          (s.rd NET_RING_CFG_MODE = 2 → leAt bs 24 1 = 4 → t.net.linkDown = true) ∧
          (s.rd NET_RING_CFG_MODE = 1 → leAt bs 24 1 = 2 → t.rd NET_RING_STAT_STATE = 2 ∧ t.rd NET_STAT_RING = 2 ∧
            t.net.learned = []) ∧
          (s.rd NET_RING_CFG_MODE = 1 → leAt bs 24 1 = 3 → t.rd NET_RING_STAT_STATE = 1 ∧ t.rd NET_STAT_RING = 1 ∧
            t.net.learned = []))) ∧
    (exec .addressAging s = .next { s with
      net := { s.net with learned := s.net.learned.filter fun l => decide (s.ms < l.ms + 300000) } }) ∧
    (s.micro 4 = true → ∀ (sync : Bool) (p0 p1 : BitVec 4) (ofs : Word), let old := s.rd NET_PTP_STAT_SYNC
      old < 2 → ∃ t, exec (.ptpSyncChange sync p0 p1 ofs) s = .next t ∧ t.rd NET_PTP_STAT_P0STATE = p0.toNat ∧
        t.rd NET_PTP_STAT_P1STATE = (if s.rd NET_PTP_CFG_BC = 1 then p1.toNat else 0) ∧ t.rd NET_PTP_OFS_OFS = ofs.toNat ∧
        t.rd NET_PTP_STAT_SYNC = bit sync ∧ (old ≠ bit sync → t.rd NET_EVT_PTP = 1 ∧ t.rd NET_STAT_PTP_SYNC = bit sync) ∧
        (old = bit sync → t.grn = s.grn) ∧ SameButLog [NET_PTP_STAT_P0STATE, NET_PTP_STAT_P1STATE, NET_PTP_OFS_OFS,
          NET_PTP_STAT_SYNC, NET_STAT_PTP_SYNC, NET_EVT_PTP] s t) ∧
    (s.micro 4 = true → s.rd NET_PTP_CFG_EN = 1 → port = 0 ∨ s.rd NET_PTP_CFG_BC = 1 → s.queued port 7 < 255 →
      let state := if port = 0 then s.rd NET_PTP_STAT_P0STATE else s.rd NET_PTP_STAT_P1STATE
      let sends (kind : Fin 4) (n : Nat) : Prop := ∃ t, exec (.ptpMessageInterval port kind) s = .next t ∧
        txPlaces t = txPlaces s ++ List.replicate n (port.val, 7) ∧ ∀ a, t.byte a = s.byte a
      (state = 6 → sends 0 (if s.rd NET_PTP_CFG_ONESTEP = 1 then 1 else 2) ∧ sends 1 1) ∧
      (state ≠ 6 → sends 0 0 ∧ sends 1 0) ∧ sends 2 (if s.rd NET_PTP_CFG_P2P = 1 then 1 else 0) ∧
      sends 3 (if s.rd NET_PTP_CFG_P2P ≠ 1 ∧ (state = 9 ∨ state = 8) then 1 else 0))

/-- The format of a UPT payload is good (R309, Table 10-6). -/
def uptGood (bs : List Byte) : Prop :=
  let h := UptHdr.parse bs
  32 + h.len ≤ bs.length ∧ leAt bs 0 1 = 1 ∧ leAt bs 2 1 < 4 ∧ leAt bs 3 1 < 64 ∧ leAt bs 9 1 = 0 ∧ h.key ≤ 127 ∧
  h.type ∈ [1, 2, 3, 4, 5, 6, 8] ∧ (h.type ∈ [4, 5, 8] → h.resp = false) ∧
  ((h.type = 6 ∧ h.resp = false) ∨ (h.seg = 0 ∧ h.last = true))

/-- The order of R313: format, destination, key and tenant, rule tenant, CMAC, replay, then the tenant's rate and the queue of 256; a
frame that fails a step is counted there and changes nothing else; the replay window is that of R312. -/
def Obligations.UptAcceptance : Prop :=
  ∀ (s : State),
    (∀ (h : UptHdr), s.hlt.supRestart = false → let found := s.net.replay.find? fun x => x.src == h.src && x.key == h.key
      let fresh : ReplayEntry := ⟨h.src, h.key, h.epoch, h.count, 1, true⟩
      let now (t : State) := t.net.replay.find? fun x => x.src == h.src && x.key == h.key
      (found = none → s.net.replay.length < 8192 → (s.judgeReplay h).2 = .pass ∧ now (s.judgeReplay h).1 = some fresh) ∧
      (found = none → 8192 ≤ s.net.replay.length → (s.judgeReplay h).2 = .full) ∧
      ∀ e, found = some e →
        (e.epoch < h.epoch → (s.judgeReplay h).2 = .pass ∧ now (s.judgeReplay h).1 = some fresh) ∧
        (h.epoch < e.epoch → s.judgeReplay h = (s, .replayed)) ∧
        (h.epoch = e.epoch → e.synced = false → s.judgeReplay h = (s, .unsynced)) ∧
        (h.epoch = e.epoch → e.synced = true →
          (e.high < h.count → (s.judgeReplay h).2 = .pass ∧ ∃ e', now (s.judgeReplay h).1 = some e' ∧ e'.high = h.count ∧
            ∀ k < 64, e'.bitmap.testBit k = (k == 0 || (decide (h.count - e.high ≤ k) && e.bitmap.testBit (k - (h.count - e.high))))) ∧
          (h.count ≤ e.high → e.high - h.count < 64 → e.bitmap.testBit (e.high - h.count) = false →
            (s.judgeReplay h).2 = .pass ∧ ∃ e', now (s.judgeReplay h).1 = some e' ∧ e'.high = e.high ∧
              ∀ k, e'.bitmap.testBit k = (k == e.high - h.count || e.bitmap.testBit k)) ∧
          (h.count ≤ e.high → 64 ≤ e.high - h.count ∨ e.bitmap.testBit (e.high - h.count) = true →
            s.judgeReplay h = (s, .replayed)))) ∧
    ∀ (f : RxFrame), s.net.rx = [f] → f.queue < 8 → s.rd (NET_RXQ_CFG_CONS f.queue) = 0 → s.rd NET_CFG_EN = 1 → s.awake = true →
      s.micro 4 = true → (ethHead f.bytes).etype = s.rd NET_UPT_CFG_ETYPE →
      let e := ethHead f.bytes
      let bs := f.bytes.drop e.off
      let h := UptHdr.parse bs
      let m : UptMsg := ⟨h, slice bs 24 h.len, ⟨f.port, e.src, e.tag, none⟩⟩
      let mine := h.dst = s.rd NET_ADDR_MADDR ∨ (s.rd PLK_STAT_ROLE ≠ 0 ∧ s.rd NET_ADDR_PEN = 1 ∧ h.dst = s.rd NET_ADDR_PADDR) ∨
        (h.dst = 0xFFFF ∧ h.type = 5)
      let fails (c : Fld) : Prop := ∃ t, exec .uptFrameReceived s = .next t ∧ counted s t c ∧ t.net = { s.net with rx := [] } ∧
        t.pdir = s.pdir ∧ ∀ a, t.byte a = s.byte a
      let upTo3 := uptGood bs ∧ h.type ≠ 8 ∧ mine ∧ s.netKeyTen h.key = some h.ten
      let upTo5 := upTo3 ∧ (f.tenchk = none ∨ f.tenchk = some h.ten) ∧ s.authentic h bs = true
      let leaves (q : List UptMsg) : Prop := ∃ t, exec .uptFrameReceived s = .next t ∧ t.net.rx = [] ∧ t.net.queue = q ∧
        t.pdir = s.pdir ∧ ∀ a, t.byte a = s.byte a
      let busy : Prop := ∃ t, exec .uptFrameReceived s = .next t ∧ t.net.queue = s.net.queue ∧ counted s t NET_UPT_CNT_B_BUSY ∧
        t.pdir = s.pdir
      let request := h.type ∈ [1, 2, 3, 6] ∧ h.resp = false
      let control := s.rd PLK_STAT_ROLE = 0 ∨ s.rd PLK_STAT_STATE = 4
      (¬ uptGood bs ∨ h.type = 8 → fails NET_UPT_CNT_A_LENERR) ∧
      (uptGood bs → h.type ≠ 8 → ¬ mine → fails NET_UPT_CNT_A_NOTMINE) ∧
      (uptGood bs → h.type ≠ 8 → mine → s.netKeyTen h.key ≠ some h.ten → fails NET_UPT_CNT_A_AUTH) ∧
      (∀ x, upTo3 → f.tenchk = some x → x ≠ h.ten → fails NET_UPT_CNT_B_TENANT) ∧
      (upTo3 → f.tenchk = none ∨ f.tenchk = some h.ten → s.authentic h bs = false → fails NET_UPT_CNT_A_AUTH) ∧
      (upTo5 → (s.judgeReplay h).2 = .replayed → fails NET_UPT_CNT_A_REPLAY) ∧
      (upTo5 → (s.judgeReplay h).2 = .full → fails NET_UPT_CNT_B_RPL_FULL) ∧
      (upTo5 → (s.judgeReplay h).2 = .unsynced → request → control → busy) ∧
      (upTo5 → (s.judgeReplay h).2 = .pass →
        (h.type ∈ [4, 5] → leaves (s.net.queue ++ [m])) ∧
        (h.resp = true → leaves (if s.net.requests.any (fun r => r.addr == h.src && r.key == h.key && r.tid == h.tid)
          then s.net.queue ++ [m] else s.net.queue)) ∧
        (request → control →
          (∀ k ∈ s.net.kept, k.src = h.src → k.key = h.key → k.type = h.type → k.tid = h.tid → k.ms + 2000 ≤ s.ms) →
          let rate := s.rd (NET_TEN_RATE h.ten)
          (rate = 0 ∨ s.rateOf h.ten < rate → s.net.queue.length < 256 → leaves (s.net.queue ++ [m])) ∧
          (rate ≠ 0 → rate ≤ s.rateOf h.ten → busy) ∧
          (rate = 0 ∨ s.rateOf h.ten < rate → 256 ≤ s.net.queue.length → busy)) ∧
        (request → (∃ k ∈ s.net.kept, k.src = h.src ∧ k.key = h.key ∧ k.type = h.type ∧ k.tid = h.tid ∧ s.ms < k.ms + 2000) →
          leaves s.net.queue) ∧
        (request → ¬ control → h.type ≠ 3 → h.dst = s.rd NET_ADDR_PADDR → h.dst ≠ s.rd NET_ADDR_MADDR →
          leaves s.net.queue ∧ ∃ t, exec .uptFrameReceived s = .next t ∧ t.net.tx = s.net.tx))

/-- A tenant may read a point (R76), and may write it by a transaction. -/
def pointReadable (s : State) (ten h : Nat) (d : PointDef) : Prop :=
  tenantEnabled s ten ∧ h ≤ 8191 ∧ (s.point h).defn = some d ∧ visAdmits d.vis ten d.owner ∧
  d.acc.testBit (accBit ten d.owner 0) = true
def pointWritable (s : State) (ten h : Nat) (d : PointDef) : Prop :=
  tenantEnabled s ten ∧ h ≤ 8191 ∧ (s.point h).defn = some d ∧ visAdmits d.vis ten d.owner ∧
  d.acc.testBit (accBit ten d.owner 1) = true ∧ d.srcKind = 6

/-- Every point that source `kind`, `idx` feeds has its quality written and keeps its value; no other point changes. -/
def sourceMarked (s t : State) (kind idx : Nat) (q : Byte) : Prop :=
  ∀ h, t.point h = if (s.point h).fedBy kind idx = true then
    { s.point h with qual := q, ts := BitVec.ofNat 32 s.ltu.now, upd := (s.point h).upd + 1 } else s.point h

/-- The transactions (R315 to R318, R321): READ serves each selector; a WRITE record is a transaction write of element 0; SUBSCRIBE
creates, refreshes or cancels a publication; each is answered, through the operation that also answers every other request; an
EVENT is an announcement or raises the epoch; a COMMAND runs when its segments are there. -/
def Obligations.UptTransactions : Prop :=
  ∀ (s : State) (m : UptMsg) (r : List UptMsg), s.net.queue = m :: r →
    let s0 : State := { s with net := { s.net with queue := r } }
    let ten := m.hdr.ten
    let at_ (o n : Nat) : Nat := leAt m.body o n
    let n := at_ 0 1
    let head (code : List Byte) (k : Nat) : List Byte := code ++ [0, BitVec.ofNat 8 k]
    let ok : List Byte := [0x00, 0x0A]
    let asks (k : Nat) : Prop := m.hdr.type = k ∧ m.hdr.resp = false
    let inconsistent (hd rec : Nat) : Prop := ¬ (1 ≤ n ∧ n ≤ 64 ∧ m.body.length = hd + rec * n)
    (asks 1 → (inconsistent 2 2 → exec .uptRead s = .next (s0.answerTo m [0x01, 0x0A, 0, 0])) ∧
      (¬ inconsistent 2 2 → (∀ k < n, ∃ d, pointReadable s ten (at_ (2 + 2 * k) 2 % 8192) d) →
        exec .uptRead s = .next (s0.answerTo m (head ok n ++ (List.range n).flatMap fun k =>
          let p := s.point (at_ (2 + 2 * k) 2 % 8192)
          [0, 0, 0, (p.elem 1).truncate 8] ++ leBytes 4 (p.elem (at_ (2 + 2 * k) 2 / 8192)).toNat ++ leBytes 4 (p.elem 2).toNat))) ∧
      (n = 1 → m.body.length = 4 → tenantEnabled s ten → (s.point (at_ 2 2 % 8192)).defn = none →
        ∃ x : State, exec .uptRead s = .next (x.answerTo m (head ok 1 ++ [0x01, 0x03, 0, 0, 0, 0, 0, 0, 0, 0, 0, 0])) ∧
          x.pdir = s.pdir ∧ x.net = s0.net)) ∧
    (asks 2 → (inconsistent 4 8 → exec .uptWrite s = .next (s0.answerTo m [0x01, 0x0A, 0, 0])) ∧
      (∃ t, exec .uptWrite s = .next t ∧
        ∀ h, (∀ k < n, at_ (4 + 8 * k) 2 ≠ h) → t.point h = s.point h) ∧
      (∀ d, n = 1 → m.body.length = 12 → pointWritable s ten (at_ 4 2) d → let v := BitVec.ofNat 32 (at_ 8 4)
        (at_ 6 1 = d.type.code → ∃ x : State, exec .uptWrite s = .next (x.answerTo m (head ok 1 ++ [0, 0, 0, 0])) ∧
          x.point (at_ 4 2) = { s.point (at_ 4 2) with
            value := if d.type = .bool then (if v = 0 then 0 else 1) else v
            qual := 0, ts := BitVec.ofNat 32 s.ltu.now, upd := (s.point (at_ 4 2)).upd + 1 } ∧ x.regs = s.regs) ∧
        (at_ 6 1 ≠ d.type.code → ∃ x : State, exec .uptWrite s = .next (x.answerTo m (head ok 1 ++ [0x04, 0x03, 0, 0])) ∧
          x.pdir = s.pdir))) ∧
    (asks 3 → (inconsistent 4 12 → exec .uptSubscribe s = .next (s0.answerTo m [0x01, 0x0A, 0, 0])) ∧
      (n = 1 → m.body.length = 16 → let others := s.net.pubs.filter fun p => !(p.addr == m.hdr.src && p.subno == at_ 4 2)
        let code := match (s.point (at_ 6 2)).defn with | some d => d.type.code | none => 0
        let done (x : State) (pubs : List Publication) : Prop := x.net = { s0.net with pubs := pubs } ∧
          x.rd NET_STAT_PUBS = pubs.length % 2 ^ 12 ∧ x.pdir.points = s.pdir.points
        (at_ 8 1 = 0xFF → ∃ x : State, exec .uptSubscribe s = .next (x.answerTo m (head ok 1 ++ [0, 0, 0, BitVec.ofNat 8 code])) ∧
          done x others) ∧
        (at_ 8 1 ≠ 0xFF → ∀ d, pointReadable s ten (at_ 6 2) d →
          (2048 ≤ others.length → ∃ x : State, exec .uptSubscribe s = .next (x.answerTo m (head ok 1 ++ [0x08, 0x03, 0x43, 0])) ∧
            done x s.net.pubs) ∧
          (others.length < 2048 → ∃ x p,
            exec .uptSubscribe s = .next (x.answerTo m (head ok 1 ++ [0, 0, 0, BitVec.ofNat 8 d.type.code])) ∧
            done x (others ++ [p]) ∧ p.addr = m.hdr.src ∧ p.subno = at_ 4 2 ∧ p.ten = ten ∧ p.key = m.hdr.key ∧
            p.handle = at_ 6 2 ∧ p.mode = (if at_ 8 1 = 1 then 1 else 0) ∧ p.per = max 1 (at_ 10 2) ∧ p.tmo = at_ 12 2 ∧
            p.refreshed = s.ltu.now / 65536)) ∧
        (at_ 8 1 ≠ 0xFF → tenantEnabled s ten → (s.point (at_ 6 2)).defn = none → ∃ x,
          exec .uptSubscribe s = .next (x.answerTo m (head ok 1 ++ [0x01, 0x03, 0, 0])) ∧ done x s.net.pubs))) ∧
    (∀ (k : KeySlot) (body : List Byte), (s.rd PLK_STAT_ROLE = 0 ∨ s.rd PLK_STAT_STATE = 4) → s.netKey m.hdr.key = .ok k →
      body.length ≤ s.maxBody m.path → m.path.udp = none → let q := if m.hdr.type = 6 then 3 else 5
      s.queued m.path.port q < 256 →
      let h : UptHdr := { m.hdr with resp := true, last := true, seg := 0, dst := m.hdr.src, src := m.hdr.dst }
      (s.answerTo m body).net.tx = s.net.tx ++ [⟨m.path.port, q, false, padTo 60
          (s.etherTo m.path.mac m.path.tag q (s.rd NET_UPT_CFG_ETYPE) ++ s.uptPayload k h body), s.ltu.now, s.ms, none, false⟩] ∧
      (s.answerTo m body).pdir = s.pdir) ∧
    (asks 5 → ∀ lt : BitVec 56,
      let raised : Prop := ∃ t, exec (.uptEvent lt) s = .next t ∧ t.net.epoch = (s.cfg.epoch + 1) % 2 ^ 32 ∧ t.net.count = 0 ∧
        t.cfg.epoch = (s.cfg.epoch + 1) % 2 ^ 32 ∧ t.net.queue = r ∧ t.pdir = s.pdir ∧ t.regs = s.regs
      (m.body.length = 28 → at_ 0 2 = 1 → at_ 2 2 = 24 → m.hdr.key = 0 → ten = 0 →
        exec (.uptEvent lt) s = .next (s0.announcementIn (announcementOf (m.body.drop 4)) lt)) ∧
      (m.body.length = 4 → at_ 0 2 = 2 → at_ 2 2 = 0 → raised) ∧
      (m.body.length ≠ 4 + at_ 2 2 ∨ at_ 0 2 ∉ [1, 2] → ∃ t, exec (.uptEvent lt) s = .next t ∧
        counted s t NET_UPT_CNT_A_LENERR ∧ t.net = s0.net ∧ t.pdir = s.pdir)) ∧
    (asks 6 → let same (x : Reassembly) : Bool := x.hdr.src == m.hdr.src && x.hdr.key == m.hdr.key && x.hdr.tid == m.hdr.tid
      (m.hdr.seg = 0 → m.hdr.last = true → exec .uptCommand s = .next (s0.netCommand m)) ∧
      (¬ (m.hdr.seg = 0 ∧ m.hdr.last = true) → s.net.reasm.find? same = none →
        (s.net.reasm.length < 8 → exec .uptCommand s = .next { s with net := { s.net with
          queue := r, reasm := s.net.reasm ++ [⟨m.hdr, m.path, [(m.hdr.seg, m.body, m.hdr.last)], s.ms⟩] } }) ∧
        (8 ≤ s.net.reasm.length → m.hdr.seg ≠ 0 → exec .uptCommand s = .next s0) ∧
        (8 ≤ s.net.reasm.length → m.hdr.seg = 0 → ∃ t, exec .uptCommand s = .next t ∧ counted s t NET_UPT_CNT_B_BUSY ∧
          t.net.reasm = s.net.reasm)) ∧
      (∀ (x : Reassembly) (b : List Byte), m.hdr.seg = 1 → m.hdr.last = true → s.net.reasm = [x] → same x = true →
        x.segs = [(0, b, false)] →
        let t0 : State := { s with net := { s.net with queue := r, reasm := [] } }
        (b.length + m.body.length ≤ 65536 → exec .uptCommand s =
          .next (t0.netCommand { m with hdr := { m.hdr with seg := 0, last := true }, body := b ++ m.body })) ∧
        (65536 < b.length + m.body.length → ∃ t, exec .uptCommand s = .next t ∧ t.net = t0.net ∧
          counted s t NET_UPT_CNT_A_LENERR))) ∧
    (let late := s.net.reasm.filter fun x => decide (x.ms + 2000 ≤ s.ms)
      ∃ t, exec .reassemblyTimeout s = .next t ∧
        t.net = { s.net with reasm := s.net.reasm.filter fun x => decide (s.ms < x.ms + 2000) } ∧
        t.rd NET_UPT_CNT_A_LENERR = min 255 (s.rd NET_UPT_CNT_A_LENERR + late.length) ∧ SameBut [NET_UPT_CNT_A_LENERR] s t)

/-- Subscriptions and publications (R312, R320 to R322): notices and responses move a subscription as Table 10-8's states say and
mark its point; SUBSCRIBE is sent again after 16 lc and every 256 lc; due notices leave in Q6 and an inadmissible publication is
removed; a changed key binding frees its replay entries. -/
def Obligations.UptSubscriptions : Prop :=
  ∀ (s : State) (n : Fin 2048) (b : Subscr), (s.net.subs.find? fun x => x.1 == n.val) = some (n.val, b) →
    let state (t : State) := t.rd (NET_SUB_STAT_STATE n)
    let code := match (s.point b.ph).defn with | some d => d.type.code | none => 0
    let cyc := s.ltu.now / 65536
    let subIs (t : State) (b' : Subscr) : Prop := (t.net.subs.find? fun x => x.1 == n.val) = some (n.val, b')
    let ends (t : State) (st : Nat) (q : Byte) : Prop := state t = st ∧ t.rd NET_EVT_SUB = 1 ∧ sourceMarked s t 7 n q ∧
      SameButLog [NET_SUB_STAT_STATE n, NET_SUB_STAT_LASTCODE n, NET_EVT_SUB] s t
    (∀ (m : UptMsg) (r : List UptMsg), s.net.queue = m :: r → m.hdr.type = 4 → m.hdr.resp = false → m.body.length = 20 →
      let at_ (o k : Nat) : Nat := leAt m.body o k
      at_ 0 1 = 1 → at_ 4 2 = n.val →
      (m.hdr.src ≠ b.raddr ∨ m.hdr.key ≠ b.key ∨ state s = 6 →
        exec .uptNotice s = .next { s with net := { s.net with queue := r } }) ∧
      (m.hdr.src = b.raddr → m.hdr.key = b.key → state s ≠ 6 →
        (at_ 6 2 ≠ 0 → ∃ t, exec .uptNotice s = .next t ∧ ends t 5 0x86 ∧ t.rd (NET_SUB_STAT_LASTCODE n) = at_ 6 2) ∧
        (at_ 6 2 = 0 → at_ 8 1 ≠ code → ∃ t, exec .uptNotice s = .next t ∧ ends t 6 0x86) ∧
        (at_ 6 2 = 0 → at_ 8 1 = code → ∃ t, exec .uptNotice s = .next t ∧ state t = 2 ∧
          subIs t { b with notice := cyc, tries := 0 } ∧ SameBut [NET_SUB_STAT_STATE n, NET_SUB_STAT_LASTCODE n] s t ∧
          ∀ h, t.point h = if (s.point h).fedBy 7 n = true then (s.point h).put (BitVec.ofNat 32 (at_ 12 4))
            (if at_ 9 1 = 0x20 then 0 else BitVec.ofNat 8 (at_ 9 1)) (BitVec.ofNat 32 s.ltu.now) else s.point h))) ∧
    (∀ (m : UptMsg) (r : List UptMsg) (q : SubRequest), s.net.queue = m :: r → m.hdr.type = 3 → m.hdr.resp = true →
      s.net.requests = [q] → q.addr = m.hdr.src → q.key = m.hdr.key → q.tid = m.hdr.tid → q.subs = [n.val] →
      let at_ (o k : Nat) : Nat := leAt m.body o k
      (at_ 0 2 = 0x0308 → at_ 2 1 = 0x42 → ∃ t, exec .uptResponse s = .next t ∧ t.net.epoch = (s.cfg.epoch + 1) % 2 ^ 32 ∧
        t.net.count = 0 ∧ t.net.requests = [] ∧ t.pdir = s.pdir) ∧
      (at_ 0 2 = 0x0A00 → state s ≠ 6 → m.body.length = 8 →
        (at_ 4 2 ≠ 0 → ∃ t, exec .uptResponse s = .next t ∧ ends t 5 0x86 ∧ t.net.requests = []) ∧
        (at_ 4 2 = 0 → at_ 7 1 ≠ code → ∃ t, exec .uptResponse s = .next t ∧ ends t 6 0x86) ∧
        (at_ 4 2 = 0 → at_ 7 1 = code → state s ∉ [2, 3] → ∃ t, exec .uptResponse s = .next t ∧ state t = 2 ∧
          t.net.requests = [] ∧ subIs t { b with notice := cyc, tries := 0 } ∧ t.pdir = s.pdir))) ∧
    (state s = 2 → (b.notice + b.tmo ≤ cyc → ∃ t, exec (.subscriptionStale n) s = .next t ∧ ends t 3 0x43 ∧ t.net = s.net) ∧
      (cyc < b.notice + b.tmo → exec (.subscriptionStale n) s = .next s)) ∧
    (∀ (tid : Half) (q : SubRequest), s.net.requests = [q] → q.tid = tid.toNat → q.subs = [n.val] →
      (cyc < q.sent + 16 → exec (.subscribeRetry tid) s = .next s) ∧
      (q.sent + 16 ≤ cyc → 2 ≤ b.tries → state s ≠ 4 → ∃ t, exec (.subscribeRetry tid) s = .next t ∧ ends t 4 0x85 ∧
        t.net.requests = []) ∧
      (q.sent + 16 ≤ cyc → b.tries < 2 → s.net.subs = [(n.val, b)] → ∃ t, exec (.subscribeRetry tid) s = .next t ∧
        t.net.requests = [{ q with sent := cyc }] ∧ subIs t { b with tries := b.tries + 1 } ∧ t.pdir = s.pdir ∧
        ∀ k, s.netKey b.key = .ok k → s.rd NET_CFG_EN = 1 → s.portsFor (uptMac b.rpair b.raddr) = [0] → s.queued 0 5 < 256 →
          txPlaces t = txPlaces s ++ [(0, 5)])) ∧
    (s.rd LTU_SCHED_EN = 1 → (cyc < s.net.nextRefresh → exec .subscribeRefresh s = .next s) ∧
      (s.net.nextRefresh ≤ cyc → s.micro 4 = true → state s ≠ 6 → s.net.subs = [(n.val, b)] → s.net.requests = [] →
        ∃ t, exec .subscribeRefresh s = .next t ∧ t.net.nextRefresh = cyc + 256 ∧ t.pdir = s.pdir ∧
          t.net.requests = [⟨b.raddr, b.rpair, b.key, s.net.nextTid, [n.val], cyc⟩] ∧
          t.net.nextTid = (s.net.nextTid + 1) % 65536 ∧ (state s = 5 → state t = 1))) ∧
    (∀ p : Publication, s.net.pubs = [p] → (s.rd PLK_STAT_ROLE = 0 ∨ s.rd PLK_STAT_STATE = 4) → s.awake = true →
      s.micro 4 = true → let pt := s.point p.handle
      let due (i : Instr) : Prop :=
        (∀ d, pointReadable s p.ten p.handle d → ∃ t, exec i s = .next t ∧
          t.net.pubs = [{ p with sent := cyc, value := pt.eval, qual := pt.equal }] ∧ t.pdir = s.pdir ∧
          ∀ k, s.netKey p.key = .ok k → s.rd NET_CFG_EN = 1 → s.portsFor p.mac = [0] → s.queued 0 6 < 256 →
            txPlaces t = txPlaces s ++ [(0, 6)]) ∧
        (tenantEnabled s p.ten → pt.defn = none → ∃ t, exec i s = .next t ∧ t.net.pubs = [] ∧ t.rd NET_STAT_PUBS = 0 ∧
          t.pdir = s.pdir)
      let idle (i : Instr) : Prop := ∃ t, exec i s = .next t ∧ t.net = s.net ∧ t.pdir = s.pdir
      let changed := pt.eval ≠ p.value ∨ pt.equal ≠ p.qual
      (p.mode = 0 → (cyc % p.per = 0 → p.sent ≠ cyc → due .periodicNotice) ∧ (cyc % p.per ≠ 0 ∨ p.sent = cyc → idle .periodicNotice)) ∧
      (p.mode = 1 → p.addr < 65536 → p.subno < 65536 → p.sent ≤ cyc →
        let i : Instr := .changeNotice (BitVec.ofNat 16 p.addr) (BitVec.ofNat 16 p.subno)
        ((changed ∧ p.sent + p.per ≤ cyc) ∨ (p.sent < cyc ∧ p.sent + p.tmo / 2 ≤ cyc) → due i) ∧
        (¬ (changed ∧ p.sent + p.per ≤ cyc) → ¬ (p.sent < cyc ∧ p.sent + p.tmo / 2 ≤ cyc) → idle i))) ∧
    (let kept := s.net.pubs.filter fun p => decide (cyc < p.refreshed + 1024)
      ∃ t, exec .publicationDrop s = .next t ∧ t.net = { s.net with pubs := kept } ∧
        t.rd NET_STAT_PUBS = kept.length % 2 ^ 12 ∧ SameBut [NET_STAT_PUBS] s t) ∧
    ∀ (k : Fin 128) (en : Bool) (slot : Byte),
      (s.rd (NET_KEY_EN k) = bit en → s.rd (NET_KEY_SLOT k) = slot.toNat → exec (.keyBindingChange k en slot) s = .next s) ∧
      (s.rd (NET_KEY_EN k) ≠ bit en ∨ s.rd (NET_KEY_SLOT k) ≠ slot.toNat → ∃ t, exec (.keyBindingChange k en slot) s = .next t ∧
        t.rd (NET_KEY_EN k) = bit en ∧ t.rd (NET_KEY_SLOT k) = slot.toNat ∧
        t.net = { s.net with replay := s.net.replay.filter fun e => e.key ≠ k.val } ∧
        t.cfg.epochs = t.net.replay.map (fun e => (e.src, e.key, e.epoch)) ∧ SameBut [NET_KEY_EN k, NET_KEY_SLOT k] s t)

/-! ## Redundant pair (spec/11) -/

/-- A frame waits on the pair link or has been sent and is not acknowledged. -/
def onLink (s : State) (f : LinkFrame) : Prop := f ∈ s.plk.waiting ∨ f ∈ s.plk.unacked.map fun x => x.2

/-- The members of tables that name registers by number: field-bus ports, node objects and field channels. -/
def fieldNumbers (s : State) : Prop := (∀ x ∈ s.fbe.ports, x.1 < 28) ∧ (∀ x ∈ s.fbe.objs, x.1 < 4096) ∧ ∀ x ∈ s.fio.chans, x.1 < 256

/-- Every point of SRC_KIND 3 and 4 takes a quality and keeps its value (R330, R331); no other point changes. -/
def pairMarked (s t : State) (q : Byte) : Prop :=
  ∀ h, t.point h = match (s.point h).defn with
    | some d => if d.srcKind = 3 ∨ d.srcKind = 4 then { s.point h with
        qual := q, ts := BitVec.ofNat 32 s.ltu.now, upd := (s.point h).upd + 1 } else s.point h
    | none => s.point h

/-- What a claim of a kind leaves (R329): in CONTROL with PAIR_ACT high and the stages enabled; or, where the 4 µs sample finds
PAIR_WATCH active, the standby-strapped module back in `back` with PAIR_ACT low. -/
def pairClaimed (s t : State) (kind back : Nat) (watch : Bool) : Prop :=
  t.plk.tail = [] ∧ t.plk.rows = [] ∧ t.plk.outs = [] ∧ t.rd PLK_STAT_SWO_PEND = 0 ∧ (∀ a, t.byte a = s.byte a) ∧
  t.rd PLK_SWO_CAUSE_KIND = kind ∧ t.rd PLK_SWO_LO_T_LO = s.ltu.now % 2 ^ 32 ∧
  (if kind = 3 then counted s t PLK_CNT_PLANNED ∧ t.rd PLK_EVT_SWITCHOVER = 1
    else counted s t PLK_CNT_TAKEOVER ∧ t.rd PLK_EVT_TAKEOVER = 1) ∧
  (if watch = true ∧ s.rd PLK_STAT_ROLE = 2 then
    t.rd PLK_STAT_STATE = back ∧ t.rd PLK_STAT_CTRL = 0 ∧ counted s t PLK_CNT_DUAL ∧ t.rd PLK_EVT_DUAL = 1
  else t.rd PLK_STAT_STATE = 4 ∧ t.rd PLK_STAT_CTRL = 1 ∧ t.rd FIO_STAT_OUT_EN = 1)

/-- Control of a pair (R325 to R335, R344): the conditions of Table 11-2, what a claim leaves, the planned switch-over with its X, its
moves and its end, and the requests in the order of the model (log entry 14). -/
def Obligations.PairControl : Prop :=
  ∀ (s : State), fieldNumbers s →
    let st := s.rd PLK_STAT_STATE
    let role := s.rd PLK_STAT_ROLE
    let now := s.ltu.now
    let answers (i : Instr) (c : Nat) : Prop := ∃ t, exec i s = .next t ∧ t.answer.code = c ∧ t.rd PLK_CRES_CODE = c ∧
      t.rd PLK_CRES_DONE = 1 ∧ SameBut [PLK_CRES_CODE, PLK_CRES_DONE] s t ∧ t.rest = s.rest
    (∀ (w : Bool) (ns : Nat), ∃ t, exec (.pairWatchChange true w ns) s = .next t ∧ t.rd PLK_STAT_WATCH = 1 ∧
      SameBut [PLK_STAT_WATCH] s t ∧ t.rest = s.rest) ∧
    (∀ (w : Bool) (ns : Nat), st ≠ 3 → ∃ t, exec (.pairWatchChange false w ns) s = .next t ∧ t.rd PLK_STAT_WATCH = 0 ∧
      t.plk = { s.plk with quietMs := s.ms } ∧ SameBut [PLK_STAT_WATCH] s t ∧ t.pdir = s.pdir) ∧
    (∀ (w : Bool) (ns : Nat), st = 3 → role ≠ 0 → s.awake = true → s.plk.dualOff = false →
      ∃ t, exec (.pairWatchChange false w ns) s = .next t ∧ t.rd PLK_STAT_WATCH = 0 ∧
        (s.plk.go = true → pairClaimed s t 3 2 w ∧ t.pdir.points = s.pdir.points) ∧
        (s.plk.go = false → pairClaimed s t 1 2 w ∧ pairMarked s t 0x42 ∧ t.rd PLK_SWO_CAUSE_TKO_NS = ns % 2 ^ 16)) ∧
    (∀ w : Bool, role ≠ 0 → s.awake = true → s.plk.dualOff = false → s.rd PLK_STAT_WATCH = 0 →
      let cold := s.rd PLK_CFG_COLD
      let due : Prop :=
        (st = 1 ∧ ∃ m, s.plk.enMs = some m ∧ let since := max m s.plk.quietMs
          (role = 1 ∧ since + 1 ≤ s.ms) ∨ (role ≠ 1 ∧ cold ≠ 0 ∧ since + 2000 ≤ s.ms)) ∨
        (st = 2 ∧ cold ≠ 0 ∧ s.plk.quietMs + 100 * cold ≤ s.ms)
      (due → ∃ t, exec (.coldTakeoverTimeout w) s = .next t ∧ pairClaimed s t 2 st w ∧ pairMarked s t 0x86) ∧
      (¬ due → exec (.coldTakeoverTimeout w) s = .next s)) ∧
    (s.plk.leaving = true → st ≠ 4 → ∃ t, exec .outgoingStageDisable s = .next t ∧ t.rd FIO_STAT_OUT_EN = 0 ∧ t.pdir = s.pdir ∧
      t.plk = s.plk ∧ ∀ x ∈ t.fio.chans, x.2.mode ∈ [2, 5, 6] → x.2.drive = none) ∧
    (s.plk.leaving = false ∨ st = 4 → exec .outgoingStageDisable s = .next s) ∧
    (role = 1 → st = 3 → s.rd PLK_CFG_HOLDOFF ≠ 0 → s.plk.reclaimed = false → s.rd HLT_STAT_MFAULT = 0 → s.rd PLK_STAT_LINK = 1 →
      (s.rd PLK_STAT_HOLD_REM ≠ 0 → exec .holdoffExpiry s = .next s) ∧
      (s.rd PLK_STAT_HOLD_REM = 0 → ∃ t, exec .holdoffExpiry s = .next t ∧ t.plk.reclaimed = true ∧ onLink t (.ctrl 3 0) ∧
        t.regs = s.regs ∧ t.pdir = s.pdir)) ∧
    (∀ ten : Tenant, (ten ≠ 0 → answers (.pairRelease ten) 0x0B03 ∧ answers (.pairResync ten) 0x0B03) ∧
      (ten = 0 → role = 0 → answers (.pairRelease ten) 0x0B04 ∧ answers (.pairResync ten) 0x0B04) ∧
      (ten = 0 → role ≠ 0 →
        (st ≠ 4 → answers (.pairRelease ten) 0x0B01) ∧
        (st = 4 → s.rd PLK_STAT_SWO_PEND = 1 → answers (.pairRelease ten) 0x0B05) ∧
        (st = 4 → s.rd PLK_STAT_SWO_PEND = 0 → s.rd PLK_STAT_TWIN_SYNCED = 0 → answers (.pairRelease ten) 0x0B02) ∧
        (st = 4 → s.rd PLK_STAT_SWO_PEND = 0 → s.rd PLK_STAT_TWIN_SYNCED = 1 → ∃ t, exec (.pairRelease ten) s = .next t ∧
          t.answer.code = 0x0B00 ∧ t.rd PLK_STAT_SWO_PEND = 1 ∧ t.rd LTU_SCHED_SWO_ARM = 1 ∧ t.plk.go = false ∧
          t.plk.swoX = s.firstDueOf 4 0 (now + 131072) ∧ t.rd LTU_SWO_LO_X_LO = t.plk.swoX % 2 ^ 32 ∧ t.pdir = s.pdir ∧
          (s.rd PLK_STAT_LINK = 1 → onLink t (.ctrl 4 t.plk.swoX))) ∧
        (st = 1 ∨ st = 4 → answers (.pairResync ten) 0x0B00) ∧
        (st = 2 ∨ st = 3 → ∃ t, exec (.pairResync ten) s = .next t ∧ t.answer.code = 0x0B00 ∧ t.rd PLK_STAT_STATE = 2 ∧
          t.plk.asked = false ∧ t.pdir = s.pdir ∧ (st = 3 → t.rd PLK_EVT_SYNC = 1)))) ∧
    (role ≠ 0 → s.rd PLK_STAT_SWO_PEND = 1 →
      (s.plk.go = false → s.plk.swoX ≤ now + 128 →
        (st = 4 → s.plk.moves < 16 → ∃ t, exec .goDeadline s = .next t ∧ t.plk.moves = s.plk.moves + 1 ∧
          t.rd PLK_STAT_SWO_PEND = 1 ∧ t.rd LTU_SCHED_SWO_ARM = 1 ∧ t.rd PLK_STAT_STATE = 4 ∧
          t.plk.swoX = s.firstDueOf 4 0 (max (s.plk.swoX + 1) (now + 256)) ∧ t.pdir = s.pdir) ∧
        (st = 4 → 16 ≤ s.plk.moves → ∃ t, exec .goDeadline s = .next t ∧ t.rd PLK_STAT_SWO_PEND = 0 ∧
          t.rd LTU_SCHED_SWO_ARM = 0 ∧ t.rd PLK_EVT_SWITCHOVER = 1 ∧ t.rd PLK_STAT_STATE = 4 ∧ t.pdir = s.pdir) ∧
        (st ≠ 4 → ∃ t, exec .goDeadline s = .next t ∧ t.rd PLK_STAT_SWO_PEND = 0 ∧ t.rd LTU_SCHED_SWO_ARM = 0 ∧
          SameBut [PLK_STAT_SWO_PEND, LTU_SCHED_SWO_ARM] s t ∧ t.rest = s.rest)) ∧
      (∀ d, s.issuable 0 0 = some d → s.plk.go = true →
        (st = 4 → ∃ t, exec .switchoverPoint s = .next t ∧ t.rd PLK_STAT_STATE = 2 ∧ t.rd PLK_STAT_CTRL = 0 ∧
          t.rd PLK_STAT_SWO_PEND = 0 ∧ t.plk.leaving = true ∧ t.rd FIO_STAT_OUT_EN = s.rd FIO_STAT_OUT_EN ∧
          t.rd PLK_EVT_SWITCHOVER = 1 ∧ counted s t PLK_CNT_PLANNED ∧ t.rd PLK_SWO_CAUSE_KIND = 4 ∧ t.pdir = s.pdir) ∧
        (st = 3 → ∃ t, exec .switchoverPoint s = .next t ∧ t.plk.atX = true ∧ t.rd PLK_STAT_STATE = 3 ∧ t.pdir = s.pdir))) ∧
    (∃ t, exec .plkOfsLoRead s = .next t ∧ t.answer.words = [BitVec.ofNat 32 s.plk.ofs] ∧
      t.rd PLK_OFS_HI_OFS_HI = s.plk.ofs / 2 ^ 32 % 2 ^ 24 ∧ SameBut [PLK_OFS_HI_OFS_HI] s t ∧ t.rest = s.rest) ∧
    (∃ t, exec .plkSwoLoRead s = .next t ∧ t.answer.words = [BitVec.ofNat 32 s.plk.changed] ∧
      t.rd PLK_SWO_HI_T_HI = s.plk.changed / 2 ^ 32 % 2 ^ 24 ∧ SameBut [PLK_SWO_HI_T_HI] s t ∧ t.rest = s.rest)

/-- The commands that bring a frame of the link with this envelope. -/
def linkCommand (h : LinkHead) (i : Instr) : Prop :=
  (∃ b a, i = .heartbeatReceived h b a) ∨ (∃ ns w, i = .ctrlFault h ns w) ∨ i = .ctrlResync h ∨ i = .ctrlReclaim h ∨
  (∃ x, i = .ctrlSwo h x) ∨ i = .ctrlGo h ∨ i = .ctrlSwoCancel h ∨ i = .ctrlImageReq h ∨ (∃ r, i = .ctrlImageResult h r) ∨
  (∃ e l, i = .mirrorOut h e l) ∨ (∃ x o n v f, i = .mirrorForce h x o n v f) ∨ (∃ r, i = .mirrorLoop h r) ∨
  (∃ r, i = .mirrorMeter h r) ∨ (∃ b, i = .mirrorGrn h b) ∨ (∃ r, i = .mirrorData h r) ∨ (∃ r, i = .mirrorDataEnd h r) ∨
  ∃ g l, i = .mirrorImg h g l

/-- The pair link (R336 to R342): a frame out of order or in error is counted and told by NAK; one in order is taken, and does what
its type says in the state the module is in: the mirrored items of Table 11-7 are applied by the standby, a batch of points at its
LAST frame with the twin's timestamps translated. The order of frames sent again is the model's (log entry 14). -/
def Obligations.PairLink : Prop :=
  ∀ (s : State) (h : LinkHead), fieldNumbers s → s.rd PLK_STAT_ROLE ≠ 0 →
    let st := s.rd PLK_STAT_STATE
    let ofs : Int := if s.plk.ofs < 2 ^ 55 then s.plk.ofs else (s.plk.ofs : Int) - 2 ^ 56
    let cycles : Int := (ofs + 32768) / 65536
    let inOrder := h.good = true ∧ h.epoch.toNat = s.plk.rxEpoch ∧ h.count.toNat = (s.plk.rxCount + 1) % 2 ^ 32
    let applies := st = 3 ∨ (st = 2 ∧ s.plk.asked = true)
    let taken (p : PlkPart) : PlkPart := { p with rxCount := h.count.toNat }
    (s.rd PLK_STAT_LINK = 1 → ¬ inOrder → ∀ i, linkCommand h i → ∃ t, exec i s = .next t ∧ counted s t PLK_LINK_BADFRM ∧
      t.plk = { s.plk with nak := true } ∧ SameBut [PLK_LINK_BADFRM] s t ∧ t.pdir = s.pdir) ∧
    (s.rd PLK_STAT_LINK = 0 → ∀ i, linkCommand h i → exec i s = .next s) ∧
    (s.rd PLK_STAT_LINK = 1 → inOrder →
      (∀ (ns : Nat) (w : Bool), (st = 3 → ∃ t, exec (.ctrlFault h ns w) s = .next t ∧ pairClaimed s t 1 2 w ∧
          pairMarked s t 0x42 ∧ t.rd PLK_SWO_CAUSE_TKO_NS = ns % 2 ^ 16) ∧
        (st ≠ 3 → exec (.ctrlFault h ns w) s = .next { s with plk := taken s.plk })) ∧
      (∃ t, exec (.ctrlResync h) s = .next t ∧ t.plk.fullNext = (if st = 4 then true else s.plk.fullNext) ∧
        t.plk.rxCount = h.count.toNat ∧ t.pdir = s.pdir ∧ t.regs = s.regs) ∧
      (st = 4 → s.rd PLK_STAT_SWO_PEND = 0 → ∃ t, exec (.ctrlReclaim h) s = .next t ∧ t.rd PLK_STAT_SWO_PEND = 1 ∧
        t.rd LTU_SCHED_SWO_ARM = 1 ∧ t.plk.swoX = s.firstDueOf 4 0 (s.ltu.now + 131072) ∧ onLink t (.ctrl 4 t.plk.swoX)) ∧
      (∀ x : BitVec 56, st = 3 → ∃ t, exec (.ctrlSwo h x) s = .next t ∧ t.rd PLK_STAT_SWO_PEND = 1 ∧
        t.rd LTU_SCHED_SWO_ARM = 1 ∧ (t.plk.swoX : Int) = ((x.toNat : Int) - cycles * 65536) % 2 ^ 56 ∧ t.plk.go = false ∧
        t.rd LTU_SWO_LO_X_LO = t.plk.swoX % 2 ^ 32 ∧ t.rd LTU_SWO_HI_X_HI = t.plk.swoX / 2 ^ 32 % 2 ^ 24) ∧
      (st = 3 → s.rd PLK_STAT_SWO_PEND = 1 →
        exec (.ctrlGo h) s = .next { s with plk := { taken s.plk with go := true } } ∧
        ∃ t, exec (.ctrlSwoCancel h) s = .next t ∧ t.rd PLK_STAT_SWO_PEND = 0 ∧ t.rd LTU_SCHED_SWO_ARM = 0 ∧ t.plk.go = false ∧
          SameBut [PLK_STAT_SWO_PEND, LTU_SCHED_SWO_ARM] s t) ∧
      (∃ t, exec (.ctrlImageReq h) s = .next t ∧ t.regs = s.regs ∧ (s.cfg.image.length ≤ 2048 → onLink t (.img s.cfg.image true)) ∧
        t.pdir = s.pdir) ∧
      (∀ r : List Byte, s.plk.imgAwait = false ∨ st ≠ 4 → exec (.ctrlImageResult h r) s = .next { s with plk := taken s.plk }) ∧
      (∀ r : List Byte, s.plk.imgAwait = true → st = 4 → leAt r 0 2 = 0 → ∃ t, exec (.ctrlImageResult h r) s = .next t ∧
        t.plk = { taken s.plk with imgAwait := false } ∧ t.regs = s.regs ∧ t.cxe = s.cxe ∧ t.pdir = s.pdir) ∧
      (∀ seg : List Byte, exec (.mirrorImg h seg false) s = .next { s with plk := { taken s.plk with
        image := s.plk.image ++ seg } }) ∧
      (∀ es : List OutEntry, (¬ applies → ∀ l, exec (.mirrorOut h es l) s = .next { s with plk := taken s.plk }) ∧
        (applies → exec (.mirrorOut h es false) s = .next { s with plk := { taken s.plk with outs := s.plk.outs ++ es } } ∧
          ∃ t, exec (.mirrorOut h es true) s = .next t ∧ t.plk.outs = [] ∧ t.regs = s.regs ∧
            (∀ k, (∀ e ∈ s.plk.outs ++ es, e.handle.toNat ≠ k) → t.point k = s.point k) ∧
            ∀ e d, s.plk.outs ++ es = [e] → (s.point e.handle.toNat).defn = some d →
              (d.srcKind ∉ [3, 4, 6] → t.pdir = s.pdir) ∧
              (d.srcKind ∈ [3, 4, 6] → t.point e.handle.toNat = { s.point e.handle.toNat with
                value := if d.type = .bool then (if e.value = 0 then 0 else 1) else e.value
                qual := e.qual, ts := BitVec.ofInt 32 ((e.ts.toNat : Int) - cycles * 65536)
                upd := (s.point e.handle.toNat).upd + 1 }))) ∧
      (∀ (k : BitVec 13) (ten : Tenant) (v f : Word) (d : PointDef), applies → (s.point k.toNat).defn = some d →
        (∃ t, exec (.mirrorForce h k 1 ten v f) s = .next t ∧ t.point k.toNat = { s.point k.toNat with
          forced := true, fval := v, fts := BitVec.ofInt 32 ((f.toNat : Int) - cycles * 65536), ften := ten.val } ∧
          (∃ r, (k.toNat, r) ∈ t.cfg.forces) ∧ (∀ j, j ≠ k.toNat → t.point j = s.point j) ∧ ∀ a, t.byte a = s.byte a) ∧
        (∃ t, exec (.mirrorForce h k 2 ten v f) s = .next t ∧ t.point k.toNat = { s.point k.toNat with
          forced := false, fval := 0, fts := 0, ften := 0 } ∧ (∀ r ∈ t.cfg.forces, r.1 ≠ k.toNat) ∧
          (∀ j, j ≠ k.toNat → t.point j = s.point j) ∧ ∀ a, t.byte a = s.byte a)) ∧
      (∀ (m : LoopMirror) (xtal : Nat) (l : Loop), applies → (s.cle.loops.find? fun x => x.1 == m.loop.val) = some (m.loop.val, l) →
        ∃ t l', exec (.mirrorLoop h [(m, xtal)]) s = .next t ∧ (t.cle.loops.find? fun x => x.1 == m.loop.val) = some (m.loop.val, l') ∧
          l'.qprev = m.qprev ∧ l'.pcnt = m.pcnt ∧ l'.pts = BitVec.ofInt 32 ((m.pts.toNat : Int) - cycles * 65536) ∧
          l'.first = false ∧ t.rd (CLE_LOOP_I_VAL m.loop) = m.i.toNat ∧ t.rd (CLE_LOOP_D_VAL m.loop) = m.d.toNat ∧
          t.rd (CLE_LOOP_SP_VAL m.loop) = m.sp.toNat ∧ t.rd (CLE_LOOP_STAT_REGION m.loop) = m.region.val ∧ t.pdir = s.pdir) ∧
      (∀ (m : MeterMirror) (c : MeterCh), applies → meterIs s m.ch c → c.recent = [] → 0 ≤ (m.istart.toNat : Int) - cycles * 65536 →
        ∃ t c', exec (.mirrorMeter h [m]) s = .next t ∧ meterIs t m.ch c' ∧ t.pdir = s.pdir ∧
          c'.acc = (List.range 10).map (fun k => ⟨m.cum.getD k 0, m.frac.getD k 0, m.wrap.getD k 0, m.start.getD k 0⟩) ∧
          c'.noload = m.noload.toNat ∧ c'.metered = m.metered.toNat ∧
          (c'.start : Int) = (m.istart.toNat : Int) - cycles * 65536) ∧
      (∀ b : List Byte, ∃ t, exec (.mirrorGrn h b) s = .next t ∧ t.plk.tail.length ≤ 2048 ∧ t.regs = s.regs ∧ t.grn = s.grn ∧
        t.pdir = s.pdir) ∧
      (∀ rs : List RowMirror, applies → exec (.mirrorData h rs) s = .next { s with plk := { taken s.plk with
        rows := s.plk.rows ++ rs } }) ∧
      (∀ e : SnapMirror, applies → s.plk.rows = [] → ∃ t, exec (.mirrorDataEnd h e) s = .next t ∧ t.plk.rows = [] ∧
        t.cxe.map0 = e.map0 ∧ t.cxe.map1 = e.map1 ∧ t.rd CXE_STAT_MAPSEL = e.mapsel.val ∧
        t.rd CXE_SNAP_SEQ_SEQ = e.seq.toNat ∧ t.rd CXE_STAT_SNAP_BANK = (1 - s.rd CXE_STAT_SNAP_BANK) ∧ t.pdir = s.pdir ∧
        t.rd PLK_STAT_STATE = (if st = 2 ∧ 1 ≤ s.plk.ends then 3 else st))) ∧
    (s.rd PLK_STAT_LINK = 1 → inOrder → ∀ (b : Beat) (a : BitVec 56), b.nak = false → s.plk.unacked = [] → s.plk.waiting = [] →
      s.plk.forces = [] → a.toNat ≤ s.ltu.now →
      (st = 4 → b.ctrl = true → s.rd PLK_STAT_ROLE = 2 → s.cxe.acts = [] →
        ∃ t, exec (.heartbeatReceived h b a) s = .next t ∧ t.rd PLK_STAT_STATE = 2 ∧ t.rd PLK_STAT_CTRL = 0 ∧
          t.rd FIO_STAT_OUT_EN = 0 ∧ t.rd PLK_EVT_RELEASE = 1 ∧ t.rd PLK_EVT_DUAL = 1 ∧ t.plk.dualOff = true ∧
          t.rd PLK_SWO_CAUSE_CAUSE = 5) ∧
      (st ∈ [1, 2, 3] → ∃ t, exec (.heartbeatReceived h b a) s = .next t ∧ t.plk.twin = some b ∧ t.pdir = s.pdir ∧
        t.plk.ofs = (b.lt.toNat + s.plk.delay + 2 ^ 56 - s.ltu.now % 2 ^ 56) % 2 ^ 56 ∧
        t.rd PLK_STAT_TWIN_SYNCED = (if b.state = 3 then 1 else 0) ∧
        (st = 1 → t.rd PLK_STAT_STATE = if b.ctrl then 2 else 1) ∧ (st = 2 → t.rd PLK_STAT_STATE = 2) ∧
        (st = 3 → b.imageId.toNat ≠ s.imageId ∨ b.imageVer.toNat ≠ s.imageVer ∨ b.cfgHash.toNat ≠ s.cfgHash →
          t.rd PLK_STAT_STATE = 2 ∧ t.rd PLK_EVT_MISMATCH = 1 ∧ t.rd PLK_EVT_SYNC = 1) ∧
        (st = 3 → b.imageId.toNat = s.imageId → b.imageVer.toNat = s.imageVer → b.cfgHash.toNat = s.cfgHash → b.lock = false →
          t.rd PLK_STAT_STATE = 3))) ∧
    (s.rd PLK_STAT_LINK = 1 → ∃ t b, exec .heartbeatSend s = .next t ∧ t.plk.beat = some b ∧ onLink t (.hb b) ∧ t.plk.nak = false ∧
      b.ack.toNat = s.plk.rxCount % 2 ^ 32 ∧ b.nak = s.plk.nak ∧ b.lt.toNat = s.ltu.now % 2 ^ 56 ∧
      b.state.toNat = st % 8 ∧ t.regs = s.regs) ∧
    (s.rd PLK_STAT_LINK = 1 → ∃ t, exec .linkFrameRetransmit s = .next t ∧
      t.rd PLK_LINK_RETX = min 65535 (s.rd PLK_LINK_RETX + s.plk.unacked.length) ∧ SameBut [PLK_LINK_RETX] s t ∧ t.rest = s.rest) ∧
    (s.rd PLK_STAT_LINK = 1 → ∃ t, exec .pairLinkDown s = .next t ∧ t.rd PLK_STAT_LINK = 0 ∧ counted s t PLK_LINK_DOWNS ∧
      t.rd PLK_EVT_LINK = 1 ∧ SameButLog [PLK_STAT_LINK, PLK_LINK_DOWNS, PLK_EVT_LINK] s t ∧ t.pdir = s.pdir) ∧
    (s.rd PLK_STAT_LINK = 0 → st = 3 → ∃ t, exec .syncedLinkGrace s = .next t ∧ t.rd PLK_STAT_STATE = 2 ∧ t.rd PLK_EVT_SYNC = 1 ∧
      t.rd PLK_STAT_HOLD_REM = 0 ∧ t.pdir = s.pdir) ∧
    (s.rd PLK_STAT_LINK = 1 ∨ st ≠ 3 → exec .syncedLinkGrace s = .next s) ∧
    ∀ (e : Word) (d : Nat), s.rd PLK_STAT_LINK = 0 → (s.linkKeyOk = false → exec (.pairLinkUp e d) s = .next s) ∧
      (s.linkKeyOk = true → ∃ t, exec (.pairLinkUp e d) s = .next t ∧ t.rd PLK_STAT_LINK = 1 ∧ t.rd PLK_EVT_LINK = 1 ∧
        t.plk.epoch = (s.plk.epoch + 1) % 2 ^ 32 ∧ t.plk.rxEpoch = e.toNat ∧ t.plk.rxCount = 0 ∧ t.plk.delay = d ∧
        t.pdir = s.pdir ∧ SameButLog [PLK_STAT_LINK, PLK_EVT_LINK] s t)

/-! ## Hearth (spec/12) -/

/-- Hearth has no operation in hand, is not locked, programs no transition, and serves requests in this life-cycle state. -/
def hearthFree (s : State) : Prop :=
  s.ksu.ops = [] ∧ s.rd KSU_STAT_LOCK = 0 ∧ s.ksu.lcTo = none ∧ s.rd KSU_STAT_LC ∉ [0, 5]

/-- A result with its code and the number of its output bytes. -/
def keyAnswered (s t : State) (code len : Nat) : Prop :=
  t.rd KSU_CRES_CODE = code ∧ t.rd KSU_CRES_DONE = 1 ∧ t.rd KSU_CRES_OUTLEN = len ∧ t.rd KSU_EVT_DONE = 1 ∧
  t.rd KSU_CRES_ORPHAN_AFTER = (if code = 0x0C01 then 1 else 0) ∧ t.answer.code = code ∧ t.pdir = s.pdir ∧ ∀ a, t.byte a = s.byte a

/-- A request refused with a code: no key, no journal entry and no operation changes. -/
def keyRefused (i : Instr) (s : State) (code : Nat) : Prop :=
  ∃ t, exec i s = .next t ∧ keyAnswered s t code 0 ∧ t.ksu = s.ksu

/-- A management operation is in hand with its SHADOW written: the slot and the record that it will get. -/
def keyBegun (i : Instr) (s : State) (op slot : Nat) (new : Option KeySlot) : Prop :=
  ∃ t o, exec i s = .next t ∧ t.rd KSU_JRNL_LIVE = s.rd KSU_JRNL_LIVE + 1 ∧ t.pdir = s.pdir ∧ (∀ a, t.byte a = s.byte a) ∧
    t.ksu = { s.ksu with ops := [o], jseq := s.ksu.jseq + 1, journal := s.ksu.journal ++ [⟨s.ksu.jseq, slot, new, false⟩] } ∧
    o.op = op ∧ o.slot = slot ∧ o.started = true ∧ o.waits = false ∧ t.rd KSU_CRES_DONE = 0

/-- The management requests, and the use requests. -/
def manageRequests (ten : Tenant) (slot aux : Byte) : List Instr :=
  [.ksuGenerate ten slot, .ksuImport ten slot aux, .ksuDerive ten slot aux, .ksuInvalidate ten slot, .ksuReclaim ten slot]
def useRequests (ten : Tenant) (slot aux : Byte) : List Instr :=
  [.ksuExport ten slot aux, .ksuPubkey ten slot, .ksuAttest ten slot, .ksuCert ten slot, .ksuSign ten slot, .ksuVerify ten slot,
   .ksuEncrypt ten slot, .ksuDecrypt ten slot, .ksuMac ten slot, .ksuMacv ten slot, .ksuNonce ten]

/-- Ancestry and orphans (R350), the gate of every request, the management operations with their refusals, the record that each
prepares (R351 to R363), and the commit that gives the slot its record, orphans a whole subtree at once and answers (R361, R364). -/
def Obligations.KeyManagement : Prop :=
  ∀ (s : State) (ten : Tenant) (slot aux : Byte),
    let n := slot.toNat
    let attr := s.rd KSU_CARG0_ARG
    let type := attr / 2 ^ 24 % 8
    let usage := attr / 2 ^ 17 % 128
    let owner := attr / 2 ^ 11 % 64
    let exportable := attr / 2 ^ 29 % 2
    let admitted := ([0x1D, 0x1D, 0x43, 0x20, 0x02] : List Nat)[type]?
    let usagesOk := ∃ a, admitted = some a ∧ usage ||| a = a
    let size := if type = 0 then 16 else if type = 3 then 64 else 32
    let made (origin pkind parent : Nat) (m : List Byte) : KeySlot :=
      ⟨false, exportable = 1, origin, type, usage, owner, attr / 2 ^ 5 % 32, pkind, parent, m, 0⟩
    let inlen := s.rd KSU_CARG1_INLEN
    let room := (s.ksu.slots.filter fun x => decide (8 ≤ x.1) && x.2.tenant == owner).length < min 248 (s.rd (KSU_TEN_CFG_QUOTA owner))
    let free := 8 ≤ n ∧ s.key n = none ∧ room
    let entry := s.rd KSU_JRNL_LIVE < 3824
    let ready := hearthFree s ∧ s.rd PWR_STAT_PF = 0
    -- R350
    (∀ m k, s.key m = some k → (k.pkind ≠ 2 → (s.orphan m = k.invalid) ∧ depthOf s.ksu.slots m = 0) ∧
      (k.pkind = 2 → depthOf s.ksu.slots k.parent < 7 → s.orphan m = (k.invalid || s.orphan k.parent) ∧
        depthOf s.ksu.slots m = depthOf s.ksu.slots k.parent + 1)) ∧
    -- the gate
    (∀ i ∈ manageRequests ten slot aux ++ useRequests ten slot aux ++ [.ksuLcset ten true true],
      (s.rd KSU_STAT_LOCK = 1 → keyRefused i s 0x0C0F) ∧
      (s.rd KSU_STAT_LOCK = 0 → s.rd KSU_STAT_LC = 5 ∨ s.ksu.lcTo ≠ none → keyRefused i s 0x0C05)) ∧
    (∀ i ∈ manageRequests ten slot aux ++ [.ksuLcset ten true true], s.rd KSU_STAT_LOCK = 0 → s.rd KSU_STAT_LC ≠ 5 → s.ksu.lcTo = none →
      s.rd PWR_STAT_PF = 1 → keyRefused i s 0x0C0E) ∧
    -- GENERATE
    (ready → inlen = 0 → let i := Instr.ksuGenerate ten slot
      (usagesOk → type ≠ 3 → exportable = 0 → ten.val = 0 ∨ ten.val = owner → free → entry →
        ∃ m : List Byte, m.length = size ∧ keyBegun i s 1 n (some (made 0 1 0xFF m))) ∧
      (¬ usagesOk ∨ exportable = 1 ∨ (ten.val ≠ 0 ∧ ten.val ≠ owner) → keyRefused i s 0x0C04) ∧
      (usagesOk → type ≠ 3 → exportable = 0 → ten.val = 0 ∨ ten.val = owner → (n < 8 → keyRefused i s 0x0C07) ∧
        (8 ≤ n → ¬ room → keyRefused i s 0x0C06))) ∧
    -- IMPORT
    (ready → usagesOk → ten.val = 0 ∨ ten.val = owner → free → entry → let i := Instr.ksuImport ten slot aux
      (aux = 0xFF → type = 3 ∨ s.rd KSU_STAT_LC = 1 → inlen = size → (type = 3 → Config.p256Point s.keyInput = true) →
        keyBegun i s 2 n (some (made 1 0 0xFF s.keyInput))) ∧
      (aux = 0xFF → type ≠ 3 → s.rd KSU_STAT_LC ≠ 1 → inlen ≠ 0 → inlen ≤ 2048 → keyRefused i s 0x0C05) ∧
      (∀ w : KeySlot, aux ≠ 0xFF → s.key aux.toNat = some w → w.tenant = owner → w.usage.testBit 0 = true → w.type ≤ 2 →
        s.orphan aux.toNat = false → w.lcmask.testBit (s.rd KSU_STAT_LC) = true → depthOf s.ksu.slots aux.toNat < 7 →
        let h := if w.type = 2 then 64 else 0
        let peer := s.keyInput.take h
        let aad := leBytes 4 (attr &&& 0x27FFFFE0)
        let kek := if w.type = 2 then fit 32 (Config.hkdf (Config.ecdhX w.material peer) aad) else w.material
        let opened := Config.gcmOpen kek (slice s.keyInput h 12) aad (s.keyInput.drop (h + 12))
        inlen = h + 28 + size → (w.type = 2 → Config.p256Point peer = true) →
        (∀ m, opened = some m → (type = 3 → Config.p256Point (fit 64 m) = true) →
          keyBegun i s 2 n (some (made 1 2 aux.toNat (fit size m)))) ∧
        (∀ m, opened = some m → type = 3 → Config.p256Point (fit 64 m) = false → keyRefused i s 0x0C08) ∧
        (opened = none → keyRefused i s 0x0C09))) ∧
    -- DERIVE
    (∀ p : KeySlot, ready → usagesOk → exportable = 0 → type ∈ [0, 1, 4] → free → entry → s.key aux.toNat = some p →
      p.tenant = owner → ten.val = owner → p.usage.testBit 1 = true → p.type ∈ [2, 4] → s.orphan aux.toNat = false →
      p.lcmask.testBit (s.rd KSU_STAT_LC) = true → let i := Instr.ksuDerive ten slot aux
      let info := s.rd KSU_CARG1_AUXLEN
      let peer := s.keyInput.drop info
      1 ≤ info → info ≤ 64 → inlen = info + (if p.type = 2 then 64 else 0) →
      (7 ≤ depthOf s.ksu.slots aux.toNat → keyRefused i s 0x0C0C) ∧
      (depthOf s.ksu.slots aux.toNat < 7 → (p.type = 2 → Config.p256Point peer = true) → keyBegun i s 3 n
        (some (made 2 2 aux.toNat (fit size
          (Config.hkdf (if p.type = 2 then Config.ecdhX p.material peer else p.material) (s.keyInput.take info))))))) ∧
    -- INVALIDATE and RECLAIM
    (ready → inlen = 0 → let inv := Instr.ksuInvalidate ten slot
      let rcl := Instr.ksuReclaim ten slot
      (s.key n = none → keyRefused inv s 0x0C03 ∧ keyRefused rcl s 0x0C03) ∧
      (∀ k, s.key n = some k → let usable := s.orphan n = false ∧ k.lcmask.testBit (s.rd KSU_STAT_LC) = true
        let parent := ∃ x ∈ s.ksu.slots, x.2.pkind = 2 ∧ x.2.parent = n
        (ten.val ≠ 0 → ten.val ≠ k.tenant → keyRefused inv s 0x0C03 ∧ keyRefused rcl s 0x0C03) ∧
        (ten.val = 0 ∨ ten.val = k.tenant →
          (n < 8 → keyRefused inv s 0x0C07 ∧ keyRefused rcl s 0x0C07) ∧
          (8 ≤ n → (usable → keyRefused rcl s 0x0C0A) ∧ (¬ usable → parent → keyRefused rcl s 0x0C0B) ∧
            (entry → keyBegun inv s 6 n (some { k with invalid := true }) ∧ (¬ usable → ¬ parent → keyBegun rcl s 7 n none)) ∧
            (¬ entry → ∃ t o, exec inv s = .next t ∧ t.ksu = { s.ksu with ops := [o] } ∧ o.op = 6 ∧ o.waits = true ∧
              o.started = false))))) ∧
    -- steps 2 to 4 of R364, and the wait for an entry
    (∀ (o : KeyOp) (e : KeyEntry), s.ksu.ops = [o] → o.started = true → o.op ∈ [1, 2, 3, 6, 7] → s.ksu.journal = [e] →
      e.slot = o.slot → e.commit = false → ∃ t, exec (.keyOperationComplete 0) s = .next t ∧ t.ksu.ops = [] ∧ t.ksu.journal = [] ∧
        (∀ m, t.key m = if m = e.slot then e.new else s.key m) ∧
        (∀ m, keyAt t.ksu.store m = if m = e.slot then e.new else keyAt s.ksu.store m) ∧ t.rd KSU_JRNL_SEQ = e.seq % 2 ^ 20 ∧
        (∀ k, o.op = 6 → s.key o.slot = some k → e.new = some { k with invalid := true } →
          s.ksu.slots.Pairwise (fun x y => x.1 < y.1) → (∀ x ∈ s.ksu.slots, (ancestors s.ksu.slots 8 x.1).length ≤ 7) →
          t.rd KSU_EVT_INVALIDATED = 1 ∧ keyAnswered s t 0x0C00 4 ∧
          t.rd (KSU_OBUF_W 0) = (s.ksu.slots.filter fun x => t.orphan x.1 && !s.orphan x.1).length % 2 ^ 32 ∧
          ∀ m, (s.key m).isSome = true → (t.orphan m = (s.orphan m || m == o.slot || (ancestors s.ksu.slots 7 m).contains o.slot))) ∧
        (o.op ∈ [2, 3, 7] → keyAnswered s t 0x0C00 0) ∧
        (o.op = 1 → keyAnswered s t 0x0C00 (if (e.new.map fun k => k.type) = some 2 then 64 else 0))) ∧
    (∀ o : KeyOp, s.ksu.ops = [o] → o.waits = true → ∃ t, exec .journalWaitExpiry s = .next t ∧ keyAnswered s t 0x0C11 0 ∧
      t.ksu = { s.ksu with ops := [] }) ∧
    ((∀ o ∈ s.ksu.ops, o.waits = false) → exec .journalWaitExpiry s = .next s) ∧
    -- the journal at power-on (R365)
    (∀ e : KeyEntry, (e.commit = false → (s.replayKey e).ksu = s.ksu ∧ (s.replayKey e).rd KSU_EVT_ROLLBACK = 1) ∧
      (e.commit = true → (s.replayKey e).rd KSU_EVT_ROLLFWD = 1 ∧ (s.replayKey e).ksu.slots = s.ksu.slots ∧
        ∀ m, keyAt (s.replayKey e).ksu.store m = if m = e.slot then e.new else keyAt s.ksu.store m))

/-- The use operations: refused in the order of R355, or started with their key on a unit (R358), and answered with their result,
or with ORPHAN_AFTER where the key was orphaned while they ran (R362); the life cycle, the debug port and the lock (R369, R372); a
meter report signed or stored unsigned (R227, R229). -/
def Obligations.KeyUse : Prop :=
  ∀ (s : State) (ten : Tenant) (slot aux : Byte),
    let n := slot.toNat
    let len := s.rd KSU_CARG1_INLEN
    let al := s.rd KSU_CARG1_AUXLEN
    let lc := s.rd KSU_STAT_LC
    let outBytes (t : State) : List Byte :=
      ((List.range 512).flatMap fun j => leBytes 4 (t.rd (KSU_OBUF_W j))).take (t.rd KSU_CRES_OUTLEN)
    let begun (i : Instr) (op slot : Nat) (k w : Option KeySlot) (o : KeyOp) : Prop :=
      ∃ t, exec i s = .next t ∧ t.ksu.ops = [o] ∧ o.op = op ∧ o.slot = slot ∧ o.started = true ∧ o.key = k ∧ o.wrap = w ∧
        o.auxlen = al ∧ t.ksu.journal = s.ksu.journal ∧ t.ksu.store = s.ksu.store ∧ t.pdir = s.pdir ∧ (∀ a, t.byte a = s.byte a) ∧
        ∀ m, t.key m = (s.key m).map fun x => if m = slot ∧ op ∉ [9, 17] then { x with uses := x.uses + 1 } else x
    let table : List (Instr × Nat × Option Nat × List Nat × Bool) :=
      [(.ksuPubkey ten slot, 5, none, [2, 3], len == 0), (.ksuSign ten slot, 10, some 6, [2], decide (1 ≤ len)),
       (.ksuVerify ten slot, 11, some 5, [3], decide (64 ≤ len)), (.ksuEncrypt ten slot, 12, some 4, [0, 1], decide (12 + al ≤ len) && decide (len + 4 ≤ 2048 + al)),
       (.ksuDecrypt ten slot, 13, some 3, [0, 1], decide (28 + al ≤ len)), (.ksuMac ten slot, 14, some 2, [0, 1], true),
       (.ksuMacv ten slot, 15, some 2, [0, 1], (al == 8 || al == 16) && decide (al ≤ len))]
    (∀ x ∈ table, hearthFree s → let (i, op, usage, types, fits) := x
      (fits = false ∨ 2048 < len → keyRefused i s 0x0C08) ∧
      (fits = true → len ≤ 2048 → (s.key n = none → keyRefused i s 0x0C03) ∧
        ∀ k, s.key n = some k → let admits := k.type ∈ types ∧ ∀ u, usage = some u → k.usage.testBit u = true
          (ten.val ≠ 0 → ten.val ≠ k.tenant → keyRefused i s 0x0C03) ∧
          (ten.val = 0 ∨ ten.val = k.tenant → s.orphan n = true → keyRefused i s 0x0C02 ∧
            ∃ t, exec i s = .next t ∧ counted s t KSU_CNT_ORPHANED) ∧
          (ten.val = 0 ∨ ten.val = k.tenant → s.orphan n = false → ten.val ≠ k.tenant ∨ ¬ admits → keyRefused i s 0x0C04) ∧
          (ten.val = k.tenant → s.orphan n = false → admits → k.lcmask.testBit lc = false → keyRefused i s 0x0C05) ∧
          (ten.val = k.tenant → s.orphan n = false → admits → k.lcmask.testBit lc = true →
            ∃ o, begun i op n (some k) none o ∧ o.input = s.keyInput))) ∧
    (∀ k w : KeySlot, hearthFree s → len = 0 → s.key n = some k → s.key aux.toNat = some w → ten.val = k.tenant → ten.val = w.tenant →
      s.orphan n = false → s.orphan aux.toNat = false → k.lcmask.testBit lc = true → w.lcmask.testBit lc = true → k.type ≤ 4 →
      w.usage.testBit 0 = true → w.type ≤ 2 → let i := Instr.ksuExport ten slot aux
      (k.exportable = false → keyRefused i s 0x0C04) ∧ (k.exportable = true → ∃ o, begun i 4 n (some k) (some w) o)) ∧
    (∀ k d : KeySlot, hearthFree s → len = 16 → s.key n = some k → s.key 0 = some d → ten.val = k.tenant ∨ ten.val = 0 → k.type ≤ 4 →
      s.orphan n = false → s.orphan 0 = false → k.lcmask.testBit lc = true → d.lcmask.testBit lc = true → d.type = 2 →
      ∃ o, begun (.ksuAttest ten slot) 8 n (some k) (some d) o ∧ o.input.length = 128 ∧ leAt o.input 0 4 = 0x54535441 ∧
        leAt o.input 6 1 = lc % 256 ∧ leAt o.input 7 1 = n ∧ leAt o.input 8 8 = s.ksu.serial % 2 ^ 64 ∧ slice o.input 0x28 16 = s.keyInput ∧
        leAt o.input 0x18 8 = s.ltu.now % 2 ^ 64) ∧
    (hearthFree s → len = 0 → (∃ o, begun (.ksuNonce ten) 17 0 (s.key 0) none o) ∧
      (n = 0 → ∃ o, begun (.ksuCert ten slot) 9 0 (s.key 0) none o) ∧ (n ≠ 0 → keyRefused (.ksuCert ten slot) s 0x0C04)) ∧
    -- results
    (∀ (o : KeyOp) (k : KeySlot), s.ksu.ops = [o] → o.started = true → o.key = some k → o.input.length ≤ 2048 →
      let late := s.orphan o.slot = true
      let rest := o.input.drop (12 + o.auxlen)
      let aad := slice o.input 12 o.auxlen
      let cut := o.input.length - o.auxlen
      let done (out : List Byte) : Prop := ∃ t, exec (.keyOperationComplete 0) s = .next t ∧
        keyAnswered s t (if late then 0x0C01 else 0x0C00) out.length ∧ outBytes t = out ∧ t.ksu = { s.ksu with ops := [] }
      let failed : Prop := ∃ t, exec (.keyOperationComplete 0) s = .next t ∧ keyAnswered s t 0x0C09 0 ∧ counted s t KSU_CNT_AUTHFAIL ∧
        t.ksu = { s.ksu with ops := [] }
      (o.op = 5 → k.type = 3 → k.material.length = 64 → done k.material) ∧
      (o.op = 10 → ∃ sig : List Byte, sig.length = 64 ∧ done sig) ∧
      (o.op = 11 → (Config.ecdsaVerify k.material (o.input.drop 64) (o.input.take 64) = true → done []) ∧
        (Config.ecdsaVerify k.material (o.input.drop 64) (o.input.take 64) = false → failed)) ∧
      (o.op = 12 → 12 + o.auxlen ≤ o.input.length → o.input.length + 4 ≤ 2048 + o.auxlen →
        done (fit (rest.length + 16) (Config.gcmSeal k.material (o.input.take 12) aad rest))) ∧
      (o.op = 13 → 28 + o.auxlen ≤ o.input.length → match Config.gcmOpen k.material (o.input.take 12) aad rest with
        | some p => done (fit (rest.length - 16) p)
        | none => failed) ∧
      (o.op = 14 → done (fit 16 (Config.cmac k.material o.input))) ∧
      (o.op = 15 → o.auxlen ∈ [8, 16] → o.auxlen ≤ o.input.length →
        (fit o.auxlen (Config.cmac k.material (o.input.take cut)) = o.input.drop cut → done []) ∧
        (fit o.auxlen (Config.cmac k.material (o.input.take cut)) ≠ o.input.drop cut → failed)) ∧
      (∀ d, o.op = 8 → o.wrap = some d → o.input.length = 128 → ∃ (t : State) (sig : List Byte), sig.length = 64 ∧
        exec (.keyOperationComplete 0) s = .next t ∧ outBytes t = o.input ++ sig ∧
        keyAnswered s t (if late ∨ s.orphan 0 = true then 0x0C01 else 0x0C00) 192) ∧
      (∀ w, o.op = 4 → o.wrap = some w → k.material.length ≤ 64 → ∃ t, exec (.keyOperationComplete 0) s = .next t ∧
        keyAnswered s t (if late ∨ s.orphan o.aux = true then 0x0C01 else 0x0C00)
          ((if w.type = 2 then 92 else 28) + k.material.length))) ∧
    (∀ o : KeyOp, s.ksu.ops = [o] → o.started = true →
      (o.op = 17 → ∃ t, exec (.keyOperationComplete 0) s = .next t ∧ keyAnswered s t 0x0C00 16 ∧ t.ksu.nonce = some (outBytes t)) ∧
      (o.op = 9 → ∃ t, exec (.keyOperationComplete 0) s = .next t ∧ keyAnswered s t 0x0C00 (min 1024 s.ksu.cert.length) ∧
        outBytes t = s.ksu.cert.take 1024)) ∧
    -- units and queues
    (∀ (a b q : KeyOp), s.ksu.ops = [a, b, q] → a.started = true → b.started = true → q.started = false → q.waits = false →
      (∀ o ∈ [a, b, q], o.op = 10 ∧ o.unit = 2) → s.rd KSU_STAT_LOCK = 0 → s.ksu.lcTo = none → lc ≠ 5 →
      1 ≤ q.input.length → q.input.length ≤ 2048 → q.slot < 256 → ∀ k, s.key q.slot = some k → k.tenant = q.ten → k.type = 2 →
      k.usage.testBit 6 = true → (s.orphan q.slot = true → ∃ t, exec (.keyOperationComplete 0) s = .next t ∧ t.ksu.ops = [b] ∧
          counted s t KSU_CNT_ORPHANED) ∧
        (s.orphan q.slot = false → k.lcmask.testBit lc = true → ∃ t, exec (.keyOperationComplete 0) s = .next t ∧
          t.ksu.ops = [b, { q with started := true, key := some k, wrap := none }])) ∧
    (s.rd KSU_STAT_LOCK = 0 → s.ksu.lcTo = none → lc ≠ 5 → 1 ≤ len → len ≤ 2048 →
      2 ≤ (s.ksu.ops.filter fun o => o.started && o.unit == 2).length →
      let queued := (s.ksu.ops.filter fun o => o.unit == 2 && !o.started).length
      (queued < 128 → ∃ t o, exec (.ksuSign ten slot) s = .next t ∧ t.ksu = { s.ksu with ops := s.ksu.ops ++ [o] } ∧ o.op = 10 ∧
        o.slot = n ∧ o.started = false ∧ t.rd KSU_STAT_PQUEUE = queued + 1) ∧
      (128 ≤ queued → keyRefused (.ksuSign ten slot) s 0x0C10 ∧ ∃ t, exec (.ksuSign ten slot) s = .next t ∧ counted s t KSU_CNT_QFULL)) ∧
    -- life cycle, debug port, lock
    (∀ test challenge : Bool, s.rd KSU_STAT_LOCK = 0 → lc ≠ 5 → s.ksu.lcTo = none → s.rd PWR_STAT_PF = 0 →
      let i := Instr.ksuLcset ten test challenge
      let target := s.rd KSU_CARG0_ARG
      let listed := (lc, target) ∈ [(0, 1), (1, 2), (2, 3), (2, 4), (3, 4)] ∨ target = 5
      let serial := s.keyInput = leBytes 8 s.ksu.serial
      let token := s.keyInput.length = 96 ∧ leAt s.keyInput 0 4 = 0x4E544552 ∧ leAt s.keyInput 4 8 = s.ksu.serial ∧
        s.ksu.nonce = some (slice s.keyInput 0x0C 16) ∧ leAt s.keyInput 0x1C 1 = 4 ∧
        Config.ecdsaVerify (Config.moduleKey 0 5 0) (s.keyInput.take 32) (s.keyInput.drop 32) = true
      let shown := if target ≤ 2 then challenge = true else if target = 4 then token else serial
      (target < 8 → ¬ listed → keyRefused i s 0x0C05) ∧
      (listed → (if target ≤ 2 then test = true else ten.val = 0) →
        (¬ shown → keyRefused i s 0x0C0D) ∧
        (shown → ∃ t, exec i s = .next t ∧ t.ksu = { s.ksu with lcTo := some target } ∧ t.pdir = s.pdir))) ∧
    (∀ signed challenge : Bool,
      (lc = 2 → signed = true → ∃ t, exec (.debugToken signed challenge) s = .next t ∧ t.rd KSU_DBG_DBG_OPEN = 1 ∧
        t.rd KSU_DBG_TOKEN = 1 ∧ SameBut [KSU_DBG_DBG_OPEN, KSU_DBG_TOKEN] s t ∧ t.rest = s.rest) ∧
      (lc = 1 → challenge = true → ∃ t, exec (.debugToken signed challenge) s = .next t ∧ t.rd KSU_DBG_DBG_OPEN = 1 ∧
        SameBut [KSU_DBG_DBG_OPEN] s t ∧ t.rest = s.rest) ∧
      (¬ (lc = 2 ∧ signed = true) → ¬ (lc = 1 ∧ challenge = true) → exec (.debugToken signed challenge) s = .next s)) ∧
    (s.rd KSU_STAT_LOCK = 1 → exec .tamperLock s = .next s) ∧
    (s.rd KSU_STAT_LOCK = 0 → ∃ t, exec .tamperLock s = .next t ∧ t.rd KSU_STAT_LOCK = 1 ∧ t.rd KSU_EVT_TAMPER = 1 ∧
      t.ksu = { s.ksu with ops := [] } ∧ (s.ksu.ops ≠ [] → keyAnswered s t 0x0C0F 0) ∧ t.pdir = s.pdir) ∧
    -- reports
    (∀ (r : Report) (rs : List Report) (late : Bool), s.mtr.queue = r :: rs → s.rd KSU_STAT_LOCK = 0 → lc ≠ 5 → r.slot < 256 →
      (∀ k, s.key r.slot = some k → k.tenant = r.tenant → k.type = 2 → k.usage.testBit 6 = true → s.orphan r.slot = false →
        k.lcmask.testBit lc = true → ∃ t x, exec (.reportStore late) s = .next t ∧ t.mtr.queue = rs ∧ t.mtr.store.getLast? = some x ∧
          x.tenant = r.tenant ∧ x.seq = r.seq ∧ x.acked = false ∧ t.pdir = s.pdir ∧
          x.bytes = r.encode s.ksu.serial (bit late * 2) 0 ++
            fit 64 (Config.ecdsaSign k.material (r.encode s.ksu.serial (bit late * 2) 0) s.free)) ∧
      (s.key r.slot = none → ∃ t x, exec (.reportStore late) s = .next t ∧ t.mtr.queue = rs ∧ t.mtr.store.getLast? = some x ∧
        t.rd MTR_EVT_SIGN_FAIL = 1 ∧ x.bytes = r.encode s.ksu.serial 1 0x0C03 ++ List.replicate 64 0)) ∧
    (∀ late : Bool, s.mtr.queue = [] → exec (.reportStore late) s = .next s)

/-! ## Field update (spec/13) -/

/-- An answer of the update manager: its code and detail, not BUSY. -/
def updAnswered (t : State) (code detail : Nat) : Prop :=
  t.rd UPD_RES_CODE = code ∧ t.rd UPD_RES_DONE = 1 ∧ t.rd UPD_RES_REASON = 0 ∧ t.rd UPD_RES_DET_DETAIL = detail % 65536 ∧
  t.answer.code = code

/-- Nothing but the result registers and the owner's timer changes. -/
def updOnly (s t : State) : Prop :=
  SameBut [UPD_RES_DONE, UPD_RES_REASON, UPD_RES_CODE, UPD_RES_DET_OWNER, UPD_RES_DET_OSTATE, UPD_RES_DET_DETAIL] s t ∧
  t.upd = { s.upd with heard := t.upd.heard } ∧ t.pdir = s.pdir ∧ t.ksu = s.ksu ∧ t.cfg = s.cfg ∧ t.grn = s.grn

/-- The session is over: IDLE with no owner. -/
def updEnded (t : State) : Prop := t.rd UPD_STAT_STATE = 0 ∧ t.rd UPD_STAT_OWNER = 0 ∧ t.rd UPD_STAT_PROG = 0 ∧ t.upd.done = []

/-- Commands in the order of R379, the session and its lock, the blocks that WRITE accepts and keeps, the header checks in their
order, FINISH, INSTALL with its plan, trial, confirmation, fall-back and time-outs (R379 to R393). -/
def Obligations.UpdateSession : Prop :=
  ∀ (s : State) (src : Source) (ten : Tenant) (pos : BitVec 15),
    let st := s.rd UPD_STAT_STATE
    let owner := s.rd UPD_STAT_OWNER
    let tgt := 1 - s.rd UPD_STAT_ACT_SLOT
    let l := s.slotBlocks tgt
    let sst := s.rd (UPD_SLOT_STAT_SSTATE tgt)
    let b := s.blockBuffer
    let h := s.updHeader
    let refused (i : Instr) (code detail : Nat) : Prop := ∃ t, exec i s = .next t ∧ updAnswered t code detail ∧ updOnly s t
    let busy (i : Instr) (r : Nat) : Prop := ∃ t, exec i s = .next t ∧ updOnly s t ∧ t.rd UPD_RES_CODE = 0x0308 ∧
      t.rd UPD_RES_REASON = r ∧ t.rd UPD_RES_DET_OWNER = owner % 4 ∧ t.rd UPD_RES_DET_OSTATE = st % 8 ∧
      t.rd UPD_RES_DET_DETAIL = s.rd UPD_STAT_PROG % 65536 ∧ t.answer.code = 0x0308 ∧ t.answer.reason = r
    let kept (t : State) : Prop := t.upd.slot0 = s.upd.slot0 ∧ t.upd.slot1 = s.upd.slot1
    let trial := s.rd (UPD_SLOT_STAT_SSTATE 0) = 3 ∨ s.rd (UPD_SLOT_STAT_SSTATE 1) = 3
    let commands : List (Instr × List Nat) := [(.updateOpen src ten, [0]), (.updateWrite src ten pos, [1]), (.updateFinish src ten, [1]),
      (.updateInstall src ten, [3]), (.updateConfirm src ten, [5]), (.updateFallback src ten, [5]), (.updateAbort src ten, [1, 3])]
    let mine (n : Nat) : Prop := s.supGate = none ∧ ten.val = 0 ∧ (owner = 0 ∨ owner = src.code) ∧ st = n
    let runs := s.serveGate = none
    -- R379, R380
    (∀ x ∈ commands, (∀ r, s.supGate = some r → busy x.1 r) ∧ (s.supGate = none →
      (ten.val ≠ 0 → refused x.1 0x0D0E 0) ∧ (ten.val = 0 → let open_ := x.2 = [0]
        (open_ → trial → refused x.1 0x0D0D 0) ∧
        (¬ (open_ ∧ trial) → owner ≠ 0 → owner ≠ src.code → busy x.1 0x80) ∧
        (¬ (open_ ∧ trial) → owner = 0 ∨ owner = src.code → (st ∈ [2, 4, 6] → busy x.1 0x81) ∧
          (st ∉ [2, 4, 6] → st ∉ x.2 → refused x.1 0x0D01 0))))) ∧
    (s.supGate = none ∨ s.supGate = some 0xC0 → (ten.val ≠ 0 → refused (.updateStatus src ten) 0x0D0E 0) ∧
      (ten.val = 0 → ∃ t w, exec (.updateStatus src ten) s = .next t ∧ updAnswered t 0x0D00 0 ∧ updOnly s t ∧
        t.answer.words[0]? = some w ∧ w.toNat / 2 ^ 29 = st % 8 ∧ w.toNat / 2 ^ 27 % 4 = owner % 4 ∧
        w.toNat % 1024 = s.rd UPD_STAT_PROG % 1024)) ∧
    -- OPEN
    (mine 0 → ¬ trial → let i := Instr.updateOpen src ten
      let w := s.rd UPD_ARG_W
      (w = 0 → refused i 0x0D02 0) ∧
      (w ≠ 0 → s.rd PLK_STAT_ROLE ≠ 0 → s.rd UPD_ARG_CONF ≠ 1 → refused i 0x0D0F 0) ∧
      (w ≠ 0 → s.rd PLK_STAT_ROLE = 0 ∨ s.rd UPD_ARG_CONF = 1 → ∃ t, exec i s = .next t ∧ updAnswered t 0x0D00 0 ∧ kept t ∧
        t.rd UPD_STAT_STATE = 1 ∧ t.rd UPD_STAT_OWNER = src.code ∧ t.rd UPD_STAT_CONF = (if s.rd UPD_ARG_CONF = 1 then 1 else 0) ∧
        t.rd UPD_STAT_PROG = 0 ∧ t.upd.wrote = false ∧ t.upd.window = w ∧ t.upd.heard = s.ms ∧ t.ksu = s.ksu ∧ t.pdir = s.pdir)) ∧
    -- WRITE
    (mine 1 → let i := Instr.updateWrite src ten pos
      let p := pos.toNat
      let hb := hdrBlocks l
      let crc := leAt b 0xFFC 4 = crc32c (b.take 0xFFC)
      let stored (m : Nat → List Byte) (n : Nat) : Prop := ∃ t, exec i s = .next t ∧ updAnswered t 0x0D00 0 ∧
        (∀ q, blockAt (t.slotBlocks tgt) q = m q) ∧ (t.slotBlocks tgt).length = n ∧ t.slotBlocks (1 - tgt) = s.slotBlocks (1 - tgt) ∧
        t.upd.wrote = true ∧ t.rd UPD_STAT_STATE = 1 ∧ t.rd (UPD_SLOT_STAT_SSTATE tgt) = 1 ∧ t.rd UPD_BLKCNT_RECEIVED = n % 2 ^ 15 ∧
        t.ksu = s.ksu ∧ t.pdir = s.pdir
      (s.upd.wrote = true → 1 ≤ hb → (∀ q < hb, hasBlock l q = true) → hb ≤ p → let n := totalBlocks l
        let index := leAt b 0xFF0 4 = p - hb ∧ 1 ≤ leAt b 0xFF4 2 ∧ leAt b 0xFF4 2 ≤ 4064
        (n ≤ p → refused i 0x0D02 0) ∧ (p < n → ¬ crc → refused i 0x0D03 0) ∧ (p < n → crc → ¬ index → refused i 0x0D02 0) ∧
        (p < n → crc → index → let k := (sput [] l p b).length
          stored (fun q => if q = p then b else blockAt l q) k ∧
            ∃ t, exec i s = .next t ∧ t.rd UPD_STAT_PROG = 1000 * k / n % 1024)) ∧
      (s.upd.wrote = false → crc →
        (sst = 1 ∨ sst = 2 → s.judgeBlock p b = none →
          (p ≠ 0 → refused i 0x0D01 0) ∧
          (p = 0 → blockAt l 0 = b → (∃ q, q < hb ∧ hasBlock l q = false) → stored (blockAt l) (sput [] l 0 b).length) ∧
          (p = 0 → blockAt l 0 ≠ b → 2 ≤ leAt b 6 2 → stored (fun q => if q = 0 then b else []) 1)) ∧
        (sst ≠ 1 → sst ≠ 2 → (24576 ≤ p → refused i 0x0D02 0) ∧
          (p < 24576 → p ≠ 0 ∨ 2 ≤ leAt b 6 2 → stored (fun q => if q = p then b else []) 1) ∧
          (p = 0 → leAt b 6 2 = 1 → ∃ x, exec i s = .next (State.checkHeader x) ∧ x.slotBlocks tgt = [(0, b)] ∧ x.ksu = s.ksu ∧
            x.rd UPD_STAT_STATE = 1 ∧ x.rd UPD_SECVER_FLOOR = s.rd UPD_SECVER_FLOOR ∧ x.updHeader = b.take 4092)))) ∧
    -- R383
    (let hb := hdrBlocks l
      let body := bodyBlocks l
      let ends (code detail : Nat) : Prop := updAnswered s.checkHeader code detail ∧ updEnded s.checkHeader ∧
        s.checkHeader.slotBlocks tgt = [] ∧ s.checkHeader.rd (UPD_SLOT_STAT_SSTATE tgt) = 0 ∧ s.checkHeader.pdir = s.pdir
      let upTo4 := headerOk h hb body = true ∧ s.headerSigned h = true ∧ s.targeted h = true ∧ s.rd UPD_SECVER_FLOOR ≤ leAt h 0x18 4
      (headerOk h hb body = false → ends 0x0D04 0) ∧
      (headerOk h hb body = true → s.headerSigned h = false → ends 0x0D05 0) ∧
      (headerOk h hb body = true → s.headerSigned h = true → s.targeted h = false → ends 0x0D06 0) ∧
      (headerOk h hb body = true → s.headerSigned h = true → s.targeted h = true → leAt h 0x18 4 < s.rd UPD_SECVER_FLOOR →
        ends 0x0D07 0) ∧
      (upTo4 → recipient h s.ksu.serial = none → ends 0x0D08 0) ∧
      (∀ r, upTo4 → recipient h s.ksu.serial = some r →
        (∀ c, (s.recoverKey h r).2 = c → c ≠ 0x0C00 → ends 0x0D09 c) ∧
        ((s.recoverKey h r).2 = 0x0C00 → (∀ o, s.planFault h = some o → ends 0x0D0A o) ∧
          (s.planFault h = none → updAnswered s.checkHeader 0x0D00 0 ∧ s.checkHeader.rd UPD_STAT_STATE = st ∧ kept s.checkHeader))) ∧
      (headerOk h hb body = true → leAt h 0 4 = 0x49445055 ∧ hdrLen h = 256 + 64 * ncomp h + 144 * nrcpt h + 64 ∧
        hdrLen h ≤ 4092 * hb ∧ 1 ≤ ncomp h ∧ ncomp h ≤ 16 ∧ hb ≤ 160 ∧ hb + body ≤ 24576 ∧ (plan h).length = ncomp h ∧
        ∀ c ∈ plan h, c.first + c.nblk ≤ body ∧ ∀ d ∈ plan h, d.order ≠ c.order → c.first + c.nblk ≤ d.first ∨ d.first + d.nblk ≤ c.first)) ∧
    -- R386
    (∀ (vers : List (Nat × Nat)) (cs : List UpdComp), planFault vers cs = none ↔ ∀ a c z, cs = a ++ c :: z → ∀ r ∈ c.req, r.1 ≠ 0 →
      let found := match a.reverse.find? fun d => d.kind == r.1 with
        | some d => d.makes
        | none => match vers.find? fun x => x.1 == r.1 with | some x => x.2 | none => 0
      r.2.1 ≤ found ∧ found ≤ r.2.2) ∧
    -- FINISH and its end
    (mine 1 → let i := Instr.updateFinish src ten
      (s.upd.wrote = false → refused i 0x0D0B 0) ∧
      (∀ q, s.upd.wrote = true → q < max 1 (totalBlocks l) → hasBlock l q = false → (∀ k < q, hasBlock l k = true) → refused i 0x0D0B q) ∧
      (s.upd.wrote = true → hasBlock l 0 = true → (∀ q < totalBlocks l, hasBlock l q = true) → ∃ t, exec i s = .next t ∧
        t.rd UPD_STAT_STATE = 2 ∧ t.rd UPD_STAT_PROG = 0 ∧ t.rd UPD_RES_DONE = 0 ∧ kept t ∧ t.ksu = s.ksu ∧ t.pdir = s.pdir)) ∧
    (∀ bad : Bool, (st ≠ 2 → exec (.verificationComplete bad) s = .next s) ∧
      (∀ k, st = 2 → runs → s.contentKey = .ok k →
        (bad = true ∨ bodyOk l k = false → ∃ t, exec (.verificationComplete bad) s = .next t ∧ updAnswered t 0x0D0C 0 ∧ updEnded t ∧
          t.slotBlocks tgt = [] ∧ t.rd (UPD_SLOT_STAT_SSTATE tgt) = 0 ∧ t.pdir = s.pdir) ∧
        (bad = false → bodyOk l k = true → ∃ t, exec (.verificationComplete bad) s = .next t ∧ updAnswered t 0x0D00 0 ∧ kept t ∧
          t.rd UPD_STAT_STATE = 3 ∧ t.rd (UPD_SLOT_STAT_SSTATE tgt) = 2 ∧ t.rd UPD_STAT_PROG = 1000 ∧ t.rd UPD_EVT_VERIFIED = 1 ∧
          t.ksu = s.ksu ∧ t.pdir = s.pdir))) ∧
    -- INSTALL and the restarts
    (mine 3 → let i := Instr.updateInstall src ten
      let restarts := ∃ c ∈ plan h, c.restart = true ∧ s.inForce c = false
      let alone := s.rd UPD_ARG_ALONE = 1
      let stuck := s.rd PLK_STAT_ROLE ≠ 0 ∧ restarts ∧ s.rd PLK_STAT_TWIN_SYNCED ≠ 1 ∧ ¬ alone
      (∀ o, s.planFault h = some o → refused i 0x0D0A o) ∧
      (s.planFault h = none → stuck → refused i 0x0D0F 0) ∧
      (s.planFault h = none → ¬ stuck → ∀ c r, plan h = c :: r → c.restart = true → s.inForce c = false → ∃ t, exec i s = .next t ∧
        updAnswered t 0x0D00 0 ∧ kept t ∧ t.rd UPD_STAT_STATE = 4 ∧ t.rd UPD_STAT_ORDER = c.order % 32 ∧ t.upd.done = [] ∧
        t.upd.pending = none ∧ t.upd.formerSets = s.cfg.sets ∧ t.upd.formerImage = s.cfg.image ∧
        (∀ k < 7, t.upd.formerVers[k]? = some (s.rd (UPD_VER_VER k))) ∧ t.pdir = s.pdir ∧ t.ksu = s.ksu) ∧
      (s.planFault h = none → (plan h).length ≤ 16 → (∀ c ∈ plan h, s.inForce c = true) → ∃ t, exec i s = .next t ∧
        updAnswered t 0x0D00 0 ∧ kept t ∧ t.rd UPD_STAT_STATE = 5 ∧ t.rd (UPD_SLOT_STAT_SSTATE tgt) = 3 ∧ t.rd UPD_STAT_PROG = 1000 ∧
        t.rd UPD_EVT_TRIAL = 1 ∧ t.upd.trialEnd = s.ltu.now + s.upd.window * 256 * 65536 ∧ t.pdir = s.pdir)) ∧
    (∀ (f : Found) (c : UpdComp), st = 4 → s.upd.pending = none → s.nextComp = some c → let i := Instr.componentRestart f
      (c.restart = false ∨ s.inForce c = true ∨ ¬ runs ∨ s.rd PWR_STAT_ENTRY = 1 → exec i s = .next s) ∧
      (c.restart = true → s.inForce c = false → runs → s.rd PWR_STAT_ENTRY ≠ 1 →
        (s.rd PLK_STAT_ROLE = 0 ∨ s.rd PLK_STAT_STATE ≠ 4 ∨ (s.rd PLK_STAT_TWIN_SYNCED ≠ 1 ∧ s.upd.alone = true) →
          ∃ t, exec i s = .next t ∧ t = ({ s with upd := { s.upd with pending := some c.order } }).startUp 6 none false f ∧
            t.rd HPT_STAT_SUPRDY = 1) ∧
        (s.rd PLK_STAT_ROLE ≠ 0 → s.rd PLK_STAT_STATE = 4 → s.rd PLK_STAT_TWIN_SYNCED = 1 → s.rd PLK_STAT_SWO_PEND = 0 →
          ∃ t, exec i s = .next t ∧ t.rd PLK_STAT_SWO_PEND = 1 ∧ t.plk.swoX = s.firstDueOf 4 0 (s.ltu.now + 131072) ∧
            t.upd = s.upd ∧ t.pdir = s.pdir))) ∧
    (∀ (restart : Bool) (x y : List Nat) (g : Nat → Nat), st ∈ [1, 2, 3] →
      updEnded (s.updStart restart x y g) ∧ (s.updStart restart x y g).slotBlocks tgt = l) ∧
    -- the trial and what ends it
    (mine 5 → ∃ t, exec (.updateConfirm src ten) s = .next t ∧ updAnswered t 0x0D00 0 ∧ updEnded t ∧ kept t ∧
      t.rd (UPD_SLOT_STAT_SSTATE tgt) = 4 ∧ t.rd UPD_STAT_ACT_SLOT = tgt ∧ t.rd UPD_EVT_CONFIRMED = 1 ∧
      t.rd (UPD_SLOT_STAT_SSTATE (1 - tgt)) =
        (if s.rd (UPD_SLOT_STAT_SSTATE (1 - tgt)) = 4 then 6 else s.rd (UPD_SLOT_STAT_SSTATE (1 - tgt))) ∧
      t.rd UPD_SECVER_FLOOR = max (leAt h 0x18 4) (s.rd UPD_SECVER_FLOOR) % 2 ^ 32 ∧ t.upd.formerSets = [] ∧ t.pdir = s.pdir) ∧
    (mine 1 ∨ mine 3 → ∃ t, exec (.updateAbort src ten) s = .next t ∧ updAnswered t 0x0D00 0 ∧ updEnded t ∧ kept t ∧
      t.rd (UPD_SLOT_STAT_SSTATE tgt) = sst ∧ t.pdir = s.pdir) ∧
    ((∀ d, s.nextComp = some d → d.kind ≠ 5) →
      let lapses (t : State) (cause : Nat) : Prop := updEnded t ∧ t.rd (UPD_SLOT_STAT_SSTATE tgt) = 5 ∧
        t.rd (UPD_SLOT_STAT_CAUSE tgt) = cause ∧ t.rd UPD_EVT_FALLBACK = 1 ∧ t.pdir = s.pdir
      let falls (t : State) (c : UpdComp) (cause : Nat) : Prop := t.rd UPD_STAT_STATE = 6 ∧ t.rd UPD_STAT_ORDER = c.order % 32 ∧
        t.upd.cause = cause ∧ t.upd.failOrder = s.rd UPD_STAT_ORDER ∧ t.upd.undone = 0 ∧ kept t ∧ t.pdir = s.pdir
      (mine 5 → (s.toUndo = [] → ∃ t, exec (.updateFallback src ten) s = .next t ∧ updAnswered t 0x0D00 0 ∧ lapses t 1) ∧
        (∀ c r, s.toUndo = c :: r → c.restart = true → ∃ t, exec (.updateFallback src ten) s = .next t ∧ updAnswered t 0x0D00 0 ∧
          falls t c 1)) ∧
      (st = 5 → runs → s.upd.trialEnd < (s.ltu.now / 65536 + 1) * 65536 →
        (s.rd UPD_STAT_CONF = 1 → ∃ t, exec .trialWindowEnd s = .next t ∧ updEnded t ∧ t.rd (UPD_SLOT_STAT_SSTATE tgt) = 4 ∧
          t.rd UPD_STAT_ACT_SLOT = tgt ∧ t.rd UPD_EVT_CONFIRMED = 1) ∧
        (s.rd UPD_STAT_CONF ≠ 1 → (s.toUndo = [] → ∃ t, exec .trialWindowEnd s = .next t ∧ lapses t 2) ∧
          ∀ c r, s.toUndo = c :: r → c.restart = true → ∃ t, exec .trialWindowEnd s = .next t ∧ falls t c 2)) ∧
      (∀ m c r, st = 4 → runs → s.upd.enableMs = some m → s.rd LTU_SCHED_EN ≠ 1 → m + 30000 ≤ s.ms → s.toUndo = c :: r →
        c.restart = true → ∃ t, exec .restartEnableTimeout s = .next t ∧ falls t c 3)) ∧
    (st ≠ 5 ∨ (s.ltu.now / 65536 + 1) * 65536 ≤ s.upd.trialEnd ∨ ¬ runs → exec .trialWindowEnd s = .next s) ∧
    (s.upd.enableMs = none ∨ s.rd LTU_SCHED_EN = 1 ∨ ¬ runs → exec .restartEnableTimeout s = .next s) ∧
    (runs → owner ≠ 0 → s.upd.heard + 60000 ≤ s.ms →
      (st = 1 ∨ st = 3 → ∃ t, exec .lockTimeout s = .next t ∧ updEnded t ∧ kept t ∧ t.rd UPD_EVT_LOCK_TIMEOUT = 1 ∧
        t.rd (UPD_SLOT_STAT_SSTATE tgt) = sst ∧ t.pdir = s.pdir) ∧
      (st = 5 → ∃ t, exec .lockTimeout s = .next t ∧ t.rd UPD_STAT_STATE = 5 ∧ t.rd UPD_STAT_OWNER = 0 ∧ t.upd = s.upd ∧
        t.rd UPD_EVT_LOCK_TIMEOUT = 1 ∧ t.pdir = s.pdir)) ∧
    (owner = 0 ∨ s.ms < s.upd.heard + 60000 ∨ st ∉ [1, 3, 5] → exec .lockTimeout s = .next s)

/-! ## Granary and Well (spec/14) -/

/-- A result of a Granary request. -/
def grnAnswered (t : State) (code : Nat) : Prop := t.rd GRN_RRES_CODE = code ∧ t.rd GRN_RRES_DONE = 1 ∧ t.answer.code = code

/-- Granary (R396 to R404): an event merges, is entered with the next SEQ, or is lost; records pass to staging and to the ring; a
freeze, its owner, its end; a READ places what the requester may see and nothing else. -/
def Obligations.GranaryRecords : Prop :=
  ∀ (s : State),
    -- R397
    (∀ items : List Item, (placeItems [] items).length ≤ 30) ∧
    (∀ a b : Nat, placeItems [] [.n1 a, .n4 b] = leBytes 1 a ++ [0] ++ leBytes 4 b ∧ placeItems [] [.n4 a] = [0, 0] ++ leBytes 4 a ∧
      placeItems [] [.n2 a, .n4 b] = leBytes 2 a ++ leBytes 4 b ∧ placeItems [] [.n1 a, .n2 b] = leBytes 1 a ++ [0] ++ leBytes 2 b ∧
      placeItems [] [.n1 a, .n8 b] = leBytes 1 a ++ List.replicate 5 0 ++ leBytes 8 b ∧
      placeItems [] [.n6 a] = List.replicate 6 0 ++ leBytes 6 a) ∧
    -- R399, R400, R401
    (∀ (src : Fin 18) (code : Half) (ten : Tenant) (lt : Option (BitVec 56)) (items : List Item),
      let i := Instr.eventRecord src code ten lt items
      let d := placeItems [] items
      let time := match lt with | some v => v.toNat | none => s.ltu.now
      let r : Rec := ⟨0, code.toNat, ten.val, false, s.rd WELL_STAT_TVALID ≠ 1, s.grn.frozen.isSome, time % 2 ^ 56, src.val,
        s.well.sec * 32768 + s.well.sub, 0, padTo 6 (d.take 6), if d.length ≤ 6 then [] else padTo 24 (d.drop 6)⟩
      let n := if d.length ≤ 6 then 1 else 2
      let merges (o : Rec) : Prop := (o.code, o.ten, o.src, o.twin, o.utcInv, o.frz, o.data, o.cont) =
        (r.code, r.ten, r.src, r.twin, r.utcInv, r.frz, r.data, r.cont) ∧ o.lt ≤ r.lt ∧
        r.lt - o.lt < s.rd GRN_CFG_RWIN * 65536 ∧ o.rep < 65535
      let alone := ∀ o, s.grn.newest = some o → ¬ merges o
      let new : Rec := { r with seq := s.rd GRN_SEQ_SEQ }
      (∃ t, exec i s = .next t ∧ OnlyRecord s t) ∧
      (∀ a o, s.grn.sram = a ++ [o] → merges o → ∃ t, exec i s = .next t ∧ t.regs = s.regs ∧
        t.grn = { s.grn with sram := a ++ [{ o with rep := o.rep + 1 }] }) ∧
      (∀ a o, s.grn.sram = [] → s.grn.staging = a ++ [o] → merges o → ∃ t, exec i s = .next t ∧ t.regs = s.regs ∧
        t.grn = { s.grn with staging := a ++ [{ o with rep := o.rep + 1 }] }) ∧
      (alone → recCount s.grn.sram + n ≤ 2048 → s.rd PWR_STAT_PF = 0 → ∃ t, exec i s = .next t ∧
        t.grn = { s.grn with sram := s.grn.sram ++ [new] } ∧ t.rd GRN_SEQ_SEQ = (s.rd GRN_SEQ_SEQ + n) % 2 ^ 32 ∧
        t.rd GRN_STAT_SRAM = recCount s.grn.sram + n ∧ t.rd GRN_LOST_CNT = s.rd GRN_LOST_CNT) ∧
      (alone → recCount s.grn.sram + n ≤ 2048 → s.rd PWR_STAT_PF = 1 → s.grn.lost = 0 →
        recCount s.grn.staging + recCount s.grn.sram + n ≤ 32768 → ∃ t, exec i s = .next t ∧
        t.grn = { s.grn with sram := [], staging := s.grn.staging ++ s.grn.sram ++ [new] } ∧ t.rd GRN_STAT_SRAM = 0) ∧
      (alone → 2048 < recCount s.grn.sram + n → ∃ t, exec i s = .next t ∧ t.grn.sram = s.grn.sram ∧ t.grn.lost = s.grn.lost + n ∧
        t.grn.lostAt = (if s.grn.lost = 0 then r.lt else s.grn.lostAt) ∧ t.rd GRN_SEQ_SEQ = s.rd GRN_SEQ_SEQ ∧
        t.rd GRN_LOST_CNT = min (2 ^ 32 - 1) (s.rd GRN_LOST_CNT + n) ∧ t.rd GRN_EVT_LOST = 1)) ∧
    -- draining and flushing
    (∀ (i : Instr) (ten : Tenant), (i = .sramDrain ∧ s.grn.frozen = none) ∨ (i = .grnFlush ten ∧ ten.val = 0) →
      recCount s.grn.staging + recCount s.grn.sram ≤ 32768 → ∃ t, exec i s = .next t ∧ OnlyRecord s { t with answer := s.answer } ∧
        t.grn.staging = s.grn.staging ++ s.grn.sram ∧ t.grn.ring = s.grn.ring ∧ t.grn.frozen = s.grn.frozen ∧
        (s.grn.lost = 0 ∨ s.grn.sram = [] → t.grn.sram = []) ∧
        (s.grn.lost ≠ 0 → s.grn.sram ≠ [] → t.grn.lost = 0 ∧ ∃ r, t.grn.sram = [r] ∧ r.seq = s.rd GRN_SEQ_SEQ ∧ r.code = 0x0E41 ∧
          r.ten = 0 ∧ r.lt = s.grn.lostAt % 2 ^ 56 ∧ r.data = [0, 0] ++ leBytes 4 (min s.grn.lost 0xFFFFFFFF)) ∧
        (i = .grnFlush ten → grnAnswered t 0x0E00 ∧ t.rd GRN_EVT_FLUSH = 1)) ∧
    (∀ ten : Tenant, ten.val ≠ 0 → ∃ t, exec (.grnFlush ten) s = .next t ∧ grnAnswered t 0x0E04 ∧ t.grn = s.grn) ∧
    (s.grn.frozen ≠ none → exec .sramDrain s = .next s) ∧
    (∀ run left, s.grn.staging = run ++ left → 63 ≤ recCount run → recCount run ≤ 64 → (∀ r ∈ left.head?, 64 < recCount run + r.count) →
      64 ≤ recCount s.grn.staging →
      (recCount s.grn.ring + 64 ≤ 2097152 → ∃ t, exec (.stagingPageCopy .clean) s = .next t ∧
        t.grn = { s.grn with ring := s.grn.ring ++ run, staging := left } ∧ t.rd GRN_OLDEST_SEQ = s.rd GRN_OLDEST_SEQ) ∧
      (2097152 < recCount s.grn.ring + 64 → (s.grn.frozen ≠ none → exec (.stagingPageCopy .clean) s = .next s) ∧
        (s.grn.frozen = none → ∃ t, exec (.stagingPageCopy .clean) s = .next t ∧
          t.rd GRN_OLDEST_SEQ = (s.rd GRN_OLDEST_SEQ + 4096) % 2 ^ 32 ∧ ∃ old keep, s.grn.ring = old ++ keep ∧ recCount old ≤ 4096 ∧
            t.grn = { s.grn with ring := keep ++ run, staging := left }))) ∧
    (recCount s.grn.staging < 64 → exec (.stagingPageCopy .clean) s = .next s) ∧
    (∃ t, exec (.stagingPageCopy .retired) s = .next t ∧ t.nand.spare = s.nand.spare - 1) ∧
    (∃ t, exec (.stagingPageCopy .failed) s = .next t ∧ counted s t HLT_ERR_B_NANDSKIP ∧ SameBut [HLT_ERR_B_NANDSKIP] s t ∧
      t.rest = s.rest) ∧
    -- R402
    (∀ (src : Source) (ten : Tenant), (ten.val ≠ 0 → ∃ t, exec (.grnFreeze src ten) s = .next t ∧ grnAnswered t 0x0E04 ∧ t.grn = s.grn) ∧
      (ten.val = 0 → (s.grn.frozen = none → ∃ t, exec (.grnFreeze src ten) s = .next t ∧ grnAnswered t 0x0E00 ∧
          t.grn = { s.grn with frozen := some src, frzLost := 0, frzMs := s.ms } ∧ t.rd GRN_STAT_FROZEN = 1 ∧
          t.rd GRN_STAT_FSRC = src.code ∧ t.pdir = s.pdir) ∧
        ∀ o, s.grn.frozen = some o → ∃ t, exec (.grnFreeze src ten) s = .next t ∧ t.grn = s.grn ∧
          grnAnswered t (if o = src then 0x0E00 else 0x0E02)) ∧
      (s.grn.frozen = none → ∃ t, exec (.grnThaw src ten) s = .next t ∧ grnAnswered t 0x0E03 ∧ t.grn = s.grn) ∧
      (∀ o, s.grn.frozen = some o → o ≠ src → ∃ t, exec (.grnThaw src ten) s = .next t ∧ grnAnswered t 0x0E02 ∧ t.grn = s.grn) ∧
      (s.grn.frozen = some src → ∃ t, exec (.grnThaw src ten) s = .next t ∧ grnAnswered t 0x0E00 ∧ t.rd GRN_EVT_THAWED = 1 ∧
        t.grn = { s.grn with frozen := none, frzLost := 0 } ∧ t.rd GRN_STAT_FROZEN = 0 ∧ t.rd GRN_STAT_FSRC = 0)) ∧
    (s.grn.frozen = none ∨ s.ms < s.grn.frzMs + 30000 → exec .freezeTimeout s = .next s) ∧
    (s.grn.frozen ≠ none → s.grn.frzMs + 30000 ≤ s.ms → ∃ t, exec .freezeTimeout s = .next t ∧ t.grn.frozen = none ∧
      t.rd GRN_STAT_FROZEN = 0 ∧ t.rd GRN_EVT_THAWED = 1 ∧ OnlyRecord s t ∧
      (s.rd GRN_CFG_RWIN = 0 → s.rd PWR_STAT_PF = 0 → recCount s.grn.sram < 2048 → ∃ r, t.grn.sram = s.grn.sram ++ [r] ∧
        r.code = 0x0E42 ∧ r.ten = 0 ∧ r.src = 10 ∧ r.data = [0, 0] ++ leBytes 4 (min s.grn.frzLost 0xFFFFFFFF))) ∧
    -- R403, R404
    (∀ (src : Source) (ten : Tenant) (count : BitVec 7) (bad : Option Nat), let i := Instr.grnRead src ten count bad
      (count.toNat = 0 ∨ 64 < count.toNat → ∃ t, exec i s = .next t ∧ grnAnswered t 0x0E05 ∧ t.grn = s.grn ∧
        SameBut [GRN_CMD_SRC, GRN_CMD_TEN, GRN_RRES_DONE, GRN_RRES_CODE, GRN_RRES_END, GRN_RRES_NREC] s t) ∧
      (1 ≤ count.toNat → count.toNat ≤ 64 → bad = none →
        let first := max (s.rd GRN_RSEQ_S) (s.rd GRN_OLDEST_SEQ)
        let seenBy (r : Rec) : Bool := ten.val == 0 || r.ten == ten.val || r.code == 0x0E41 || r.code == 0x0E42
        let shows (r : Rec) : Rec := if ten.val = 0 ∧ r.ten ≠ 0 ∧ 0xA000 ≤ r.code ∧ r.code ≤ 0xAFFF then
          { r with data := List.replicate 6 0, cont := r.cont.map fun _ => 0 } else r
        ∃ t seen left, exec i s = .next t ∧ t.grn = { s.grn with frzMs := if s.grn.frozen = some src then s.ms else s.grn.frzMs } ∧
          grnAnswered t (if s.rd GRN_RSEQ_S < s.rd GRN_OLDEST_SEQ then 0x0E01 else 0x0E00) ∧ t.pdir = s.pdir ∧
          (s.grn.ring ++ s.grn.staging ++ s.grn.sram).filter (fun r => decide (first ≤ r.seq)) = seen ++ left ∧
          let placed := (seen.filter seenBy).map shows
          let bytes := placed.flatMap Rec.encode
          recCount placed ≤ count.toNat ∧ t.rd GRN_RRES_NREC = recCount placed ∧ t.rd GRN_RRES_END = (if left = [] then 1 else 0) ∧
          t.rd GRN_RNEXT_NEXT = (match seen.getLast? with | some r => r.seq + r.count | none => first) % 2 ^ 32 ∧
          (∀ r ∈ left.head?, recCount placed = count.toNat ∨ 4096 < recCount seen + r.count ∨
            (seenBy r = true ∧ count.toNat < recCount placed + r.count)) ∧
          (∀ j, 4 * j < bytes.length → t.rd (GRN_RBUF_W j) = leAt bytes (4 * j) 4)))

/-- Well (R406 to R412, R415): the calendar and the binary seconds agree, commands are judged, cross and take effect, alarms fire by
counting, late at a forward SET, never at a backward one; switch-overs, the lock and the backup memory. -/
def Obligations.WellClock : Prop :=
  ∀ (s : State) (ten : Tenant) (n : Fin 4),
    let onlyResult (i : Instr) (code : Nat) : Prop := ∃ t, exec i s = .next t ∧ t.rd WELL_CRES_CODE = code ∧ t.rd WELL_CRES_DONE = 1 ∧
      t.answer.code = code ∧ SameBut [WELL_CRES_CODE, WELL_CRES_DONE] s t ∧ t.rest = s.rest
    let t0 := s.well.sec * 32768 + s.well.sub
    let target (x : State) (k : Nat) : Nat := x.rd (WELL_ALM_HI_T k) * 2 ^ 32 + x.rd (WELL_ALM_LO_T k)
    let per := s.rd (WELL_ALM_PER_PER n.val)
    let alarm (k : Nat) : List Fld := [WELL_ALM_LO_T k, WELL_ALM_HI_T k, WELL_ALM_PER_PER k, WELL_ALM_STAT_ARMED k,
      WELL_ALM_STAT_FIRED k, WELL_ALM_STAT_LATE k, WELL_ALM_STAT_SKIP k]
    let sameAlarm (t : State) (k : Nat) : Prop := ∀ f ∈ alarm k, t.rd f = s.rd f
    let fires (t : State) : Prop := t.rd (WELL_ALM_STAT_FIRED n.val) = 1 ∧ (t.rd WELL_EVT_ALM).testBit n.val = true
    let small := s.rd WELL_EVT_ALM < 16 ∧ target s n.val < 2 ^ 34 ∧ per < 2 ^ 32
    -- R407, R408
    (∀ x ≤ 6311433599, calendarSec (calendarWords x).1 (calendarWords x).2 = some x ∧
      (calendarWords x).1 / 2 ^ 24 = (x / 86400 + 5) % 7 + 1) ∧
    (∀ w0 w1 x, calendarSec w0 w1 = some x → x ≤ 6311433599 ∧ (calendarWords x).1 % 2 ^ 24 = w0 % 2 ^ 24 ∧
      (calendarWords x).2 = w1 % 2 ^ 32) ∧
    -- the commands
    (let value : Option Nat := if s.rd WELL_CFG_MODE = 1 then calendarSec (s.rd WELL_SET0_V) (s.rd WELL_SET1_V)
        else if s.rd WELL_SET1_V % 256 * 2 ^ 32 + s.rd WELL_SET0_V ≤ 6311433599 then
          some (s.rd WELL_SET1_V % 256 * 2 ^ 32 + s.rd WELL_SET0_V) else none
      let good := s.rd WELL_SETSUB_V ≤ 32767
      let crosses (i : Instr) (c : WellCmd) : Prop := ∃ t, exec i s = .next t ∧ t.rd WELL_STAT_BUSY = 1 ∧ t.rd WELL_CRES_DONE = 0 ∧
        t.well = { s.well with cmd := some c } ∧ SameBut [WELL_STAT_BUSY, WELL_CRES_DONE] s t ∧ t.pdir = s.pdir
      let free := s.rd WELL_STAT_LOCK = 0 ∧ ten.val = 0 ∧ s.rd WELL_STAT_BUSY = 0
      (∀ i ∈ [.wellSet ten, .wellArm ten n, .wellDisarm ten n], (s.rd WELL_STAT_LOCK = 1 → onlyResult i 0x0E0B) ∧
        (s.rd WELL_STAT_LOCK = 0 → ten.val ≠ 0 → onlyResult i 0x0E0C) ∧
        (s.rd WELL_STAT_LOCK = 0 → ten.val = 0 → s.rd WELL_STAT_BUSY = 1 → onlyResult i 0x0E0A)) ∧
      (free → crosses (.wellDisarm ten n) (.disarm n)) ∧
      (free → ¬ good ∨ value = none → onlyResult (.wellSet ten) 0x0E09 ∧ onlyResult (.wellArm ten n) 0x0E09) ∧
      (∀ x, free → good → value = some x → crosses (.wellSet ten) (.set x (s.rd WELL_SETSUB_V)) ∧
        crosses (.wellArm ten n) (.arm n x (s.rd WELL_SETPER_V)))) ∧
    -- their effect
    (s.well.cmd = none → exec .wellCommandComplete s = .next s) ∧
    (∀ c, s.well.cmd = some c → ∃ t, exec .wellCommandComplete s = .next t ∧ t.well.cmd = none ∧ t.rd WELL_STAT_BUSY = 0 ∧
      t.rd WELL_CRES_CODE = 0x0E08 ∧ t.rd WELL_CRES_DONE = 1 ∧ t.answer.code = 0x0E08 ∧ t.pdir = s.pdir ∧
      (c = .disarm n → t.rd (WELL_ALM_STAT_ARMED n.val) = 0 ∧ t.well = { s.well with cmd := none } ∧
        ∀ f ∈ alarm n.val, f ≠ WELL_ALM_STAT_ARMED n.val → t.rd f = s.rd f) ∧
      (∀ sec p, c = .arm n sec p → sec ≤ 6311433599 → p < 2 ^ 32 → t.well = { s.well with cmd := none } ∧
        t.rd (WELL_ALM_PER_PER n.val) = p ∧
        (t0 ≤ sec * 32768 → target t n.val = sec ∧ t.rd (WELL_ALM_STAT_ARMED n.val) = 1 ∧ t.rd (WELL_ALM_STAT_FIRED n.val) = 0 ∧
          t.rd (WELL_ALM_STAT_LATE n.val) = 0 ∧ t.rd (WELL_ALM_STAT_SKIP n.val) = 0) ∧
        (sec * 32768 < t0 → small → fires t ∧ t.rd (WELL_ALM_STAT_LATE n.val) = 1 ∧
          (p = 0 → t.rd (WELL_ALM_STAT_ARMED n.val) = 0))) ∧
      (∀ sec sub, c = .set sec sub → t.well = { s.well with cmd := none, sec := sec, sub := sub } ∧ t.rd WELL_STAT_TVALID = 1 ∧
        t.rd WELL_STAT_WRAP = 0 ∧ t.rd WELL_EVT_SET = 1 ∧
        let t1 := sec * 32768 + sub
        let due := target s n.val * 32768
        let armed := s.rd (WELL_ALM_STAT_ARMED n.val) = 1
        (¬ armed ∨ t1 ≤ t0 ∨ due ≤ t0 ∨ t1 < due → sameAlarm t n.val) ∧
        (armed → small → sec ≤ 6311433599 → sub ≤ 32767 → t0 < due → due ≤ t1 → fires t ∧
          (per = 0 → t.rd (WELL_ALM_STAT_ARMED n.val) = 0) ∧ (per ≠ 0 → t.rd (WELL_ALM_STAT_ARMED n.val) = 1) ∧
          (due = t1 → t.rd (WELL_ALM_STAT_LATE n.val) = 0 ∧ (per ≠ 0 → target t n.val = target s n.val + per)) ∧
          (due < t1 → t.rd (WELL_ALM_STAT_LATE n.val) = 1 ∧ t.rd WELL_EVT_LATE = 1 ∧ (per ≠ 0 → ∃ k, 1 ≤ k ∧
            target t n.val = target s n.val + k * per ∧ t1 ≤ (target s n.val + k * per) * 32768 ∧
            (target s n.val + (k - 1) * per) * 32768 < t1 ∧ t.rd (WELL_ALM_STAT_SKIP n.val) = min 65535 (k - 1)))))) ∧
    -- counting
    (s.rd (WELL_ALM_STAT_ARMED n.val) ≠ 1 → exec (.alarmFire n) s = .next s) ∧
    (s.rd (WELL_ALM_STAT_ARMED n.val) = 1 → small → ∃ t, exec (.alarmFire n) s = .next t ∧ fires t ∧ t.pdir = s.pdir ∧
      target s n.val * 32768 ≤ t.well.sec * 32768 + t.well.sub ∧ t.rd (WELL_ALM_STAT_LATE n.val) = 0 ∧
      (per = 0 → t.rd (WELL_ALM_STAT_ARMED n.val) = 0 ∧ target t n.val = target s n.val) ∧
      (per ≠ 0 → t.rd (WELL_ALM_STAT_ARMED n.val) = 1 ∧ target t n.val = target s n.val + per) ∧
      ∀ k : Fin 4, k ≠ n → sameAlarm t k.val) ∧
    (∃ t, exec .wellTimeWrap s = .next t ∧ t.well = { s.well with sec := 0, sub := 0 } ∧ t.rd WELL_STAT_WRAP = 1 ∧
      t.rd WELL_EVT_WRAP = 1 ∧ sameAlarm t n.val ∧ SameButLog [WELL_STAT_WRAP, WELL_EVT_WRAP] s t) ∧
    -- the backup domain
    (∀ (k : Fin 16) (v : Word), let i := Instr.backupMemoryWrite ten k v
      (s.rd WELL_STAT_LOCK = 1 → onlyResult i 0x0E0B) ∧ (s.rd WELL_STAT_LOCK = 0 → ten.val ≠ 0 → onlyResult i 0x0E0C) ∧
      (s.rd WELL_STAT_LOCK = 0 → ten.val = 0 → ∃ t, exec i s = .next t ∧ t.rd (WELL_BKP_DATA k.val) = v.toNat ∧
        t.rd WELL_CRES_CODE = 0x0E08 ∧ SameBut [WELL_BKP_DATA k.val, WELL_CRES_CODE, WELL_CRES_DONE] s t ∧ t.rest = s.rest)) ∧
    (s.well.sec < 2 ^ 40 → s.well.sub < 32768 → ∃ t, exec .backupSwitchover s = .next t ∧ t.rd WELL_EVT_BSW = 1 ∧ counted s t WELL_BSWCNT_CNT ∧
      t.well.onBackup = true ∧ t.pdir = s.pdir ∧
      (s.rd WELL_BSW1_VALID = 1 → t.rd WELL_BSW0_SEC = s.rd WELL_BSW0_SEC ∧ t.rd WELL_BSW1_SECHI = s.rd WELL_BSW1_SECHI ∧
        t.rd WELL_BSW1_SUB = s.rd WELL_BSW1_SUB) ∧
      (s.rd WELL_BSW1_VALID ≠ 1 → t.rd WELL_BSW1_VALID = 1 ∧
        t.rd WELL_BSW0_SEC + t.rd WELL_BSW1_SECHI * 2 ^ 32 = s.well.sec ∧ t.rd WELL_BSW1_SUB = s.well.sub) ∧
      (s.rd PLK_STAT_ROLE ≠ 0 → t.rd WELL_STAT_LOCK = s.rd WELL_STAT_LOCK ∧ t.well = { s.well with onBackup := true }) ∧
      (s.rd PLK_STAT_ROLE = 0 → t.rd WELL_STAT_LOCK = 1 ∧ t.well.cmd = none ∧
        (s.well.cmd = none → t.rd WELL_STAT_BUSY = s.rd WELL_STAT_BUSY ∧ t.well = { s.well with onBackup := true }) ∧
        (∀ a b, s.well.cmd = some (.set a b) → t.rd WELL_STAT_BUSY = 0 ∧
          ((t.well.sec = a ∧ t.well.sub = b ∧ t.rd WELL_STAT_TVALID = 1) ∨
           (t.well.sec = s.well.sec ∧ t.well.sub = s.well.sub ∧ t.rd WELL_STAT_TVALID = s.rd WELL_STAT_TVALID))))) ∧
    (∃ t, exec .backupReturn s = .next t ∧ t = { s with well := { s.well with onBackup := false } }) ∧
    (s.well.sub < 2 ^ 15 → ∃ t, exec .wellSubsecRead s = .next t ∧ t.answer.words = [BitVec.ofNat 32 s.well.sub] ∧
      t.rd WELL_SUBSEC_T = s.well.sub ∧ SameBut [WELL_TIME0_T, WELL_TIME1_T, WELL_SUBSEC_T] s t ∧ t.rest = s.rest ∧
      (s.rd WELL_CFG_MODE ≠ 1 → t.rd WELL_TIME0_T = s.well.sec % 2 ^ 32 ∧ t.rd WELL_TIME1_T = s.well.sec / 2 ^ 32 % 256) ∧
      (s.rd WELL_CFG_MODE = 1 → t.rd WELL_TIME0_T = (calendarWords s.well.sec).1 % 2 ^ 32 ∧
        t.rd WELL_TIME1_T = (calendarWords s.well.sec).2 % 2 ^ 32))

/-! ## Power, start-up and health (spec/15) -/

/-- Resets, start-up, levels, sleep and power failure (R416 to R432): what a reset keeps, the restarts and when they happen, SUP
ready at their end; the end of the wait for lock; the flush sequence; performance levels; sleep requests, entry, wake events and
wake. -/
def Obligations.PowerSequence : Prop :=
  ∀ (s : State),
    -- R417
    (s.tidy → ∀ f : Fld, f.lo < 32 → s.afterReset.rd f = if keptReg f.addr then s.rd f else State.reset.rd f) ∧
    (∀ a, s.afterReset.byte a = if 0x70000000 ≤ a ∧ a ≤ 0x70FFFFFF then s.byte a else 0) ∧
    (s.afterReset.ksu = s.ksu ∧ s.afterReset.nand = s.nand ∧ s.afterReset.grn.staging = s.grn.staging ∧
      s.afterReset.grn.ring = s.grn.ring ∧ s.afterReset.grn.sram = [] ∧ s.afterReset.upd.slot0 = s.upd.slot0 ∧
      s.afterReset.upd.slot1 = s.upd.slot1 ∧ s.afterReset.pdir.points = [] ∧ s.afterReset.pending = s.pending ∧
      (s.afterReset.well.sec, s.afterReset.well.sub) = (s.well.sec, s.well.sub)) ∧
    (∀ (vin : Half) (role : Fin 3) (lost : Bool) (f : Found),
      (vin.toNat < 940 → exec (.powerOnReset vin role lost f) s = .next s ∧ exec (.recoveryReset vin f) s = .next s) ∧
      (940 ≤ vin.toNat → ∃ t, exec (.powerOnReset vin role lost f) s = .next t ∧ t.rd HPT_STAT_SUPRDY = 1 ∧
        t.rd PWR_STAT_VIN = vin.toNat ∧ t = (s.startUp 1 (some role.val) lost f).measureVin vin) ∧
      (940 ≤ vin.toNat → s.rd PWR_STAT_HOLD = 1 → s.pwr.unpowered = false → ∃ t, exec (.recoveryReset vin f) s = .next t ∧
        t.rd HPT_STAT_SUPRDY = 1 ∧ t.rd PWR_STAT_VIN = vin.toNat ∧ t = (s.startUp 3 none false f).measureVin vin) ∧
      (s.rd PWR_STAT_HOLD ≠ 1 ∨ s.pwr.unpowered = true → exec (.recoveryReset vin f) s = .next s) ∧
      (s.pwr.unpowered = true → exec (.pinReset f) s = .next s) ∧
      (s.pwr.unpowered = false → ∃ t, exec (.pinReset f) s = .next t ∧ t.rd HPT_STAT_SUPRDY = 1 ∧
        t.rd PWR_STAT_VIN = s.rd PWR_STAT_VIN % 65536) ∧
      (s.ksu.lcTo = none ∨ (∃ o ∈ s.ksu.ops, o.started = true) ∨ s.rd PWR_STAT_PF = 1 → exec (.lifecycleReset f) s = .next s) ∧
      (∀ k, s.ksu.lcTo = some k → (∀ o ∈ s.ksu.ops, o.started = false) → s.rd PWR_STAT_PF = 0 →
        ∃ t, exec (.lifecycleReset f) s = .next t ∧ t.rd HPT_STAT_SUPRDY = 1 ∧
          t = (({ s with ksu := { s.ksu with otp := s.ksu.otp.set (k - 1) 0xFFFFFFFF, lcTo := none } }).log 9 0x0C45 0 []).startUp 5
            none false f)) ∧
    -- R368
    (∀ (ws : List Word), (∀ k w, ws[k]? = some w → 24 ≤ ones w → k + 1 ≤ lcOf ws 1 0) ∧
      (lcOf ws 1 0 ≠ 0 → ∃ w, ws[lcOf ws 1 0 - 1]? = some w ∧ 24 ≤ ones w)) ∧
    -- R420, R421
    (let ended := s.rd LTU_STAT_STATE = 1 ∨ s.pwr.lockMs + s.rd PWR_CFG_LKWAIT ≤ s.ms;
      (s.pwr.lockWait = false ∨ s.awake = false ∨ s.hlt.supRestart = true ∨ ¬ ended ∨ s.pwr.levelTo ≠ none →
        exec .lockWaitEnd s = .next s) ∧
      (s.pwr.lockWait = true → s.awake = true → s.hlt.supRestart = false → ended → s.pwr.levelTo = none → ∃ t,
        exec .lockWaitEnd s = .next t ∧
          t = ((({ s with pwr := { s.pwr with lockWait := false } }).startImage.enableScheduler).updExchanged).updEnabled ∧
          (s.cxe.next = none → s.rd UPD_STAT_STATE = 0 → s.fio.chans = [] → s.fbe.ports = [] → s.net.subs = [] →
            t.rd LTU_SCHED_EN = 1 ∧ t.pwr.lockWait = false ∧ t.fio.started = true))) ∧
    -- R429, R430, R431
    (∀ (vin : Half) (f : FlushIn), (s.pwr.unpowered = true ∨ s.rd PWR_STAT_PF = 1 → ∃ t, exec (.pfAssert vin f) s = .next t ∧
        t.rd PWR_STAT_VIN = vin.toNat ∧ SameBut [PWR_STAT_VIN] s t ∧ t.rest = s.rest) ∧
      (s.pwr.unpowered = false → s.rd PWR_STAT_PF ≠ 1 → ∃ t, exec (.pfAssert vin f) s = .next t ∧ t.rd PWR_STAT_HOLD = 1 ∧
        t.rd PWR_FLUSH_DUR = min f.us 65535 ∧
        (s.rd MTR_STAT_RUN = 0 → s.rd CXE_STAT_SNAP_BUSY = 0 → s.cxe.acts = [] → s.rd PLK_STAT_ROLE = 0 → s.fio.chans = [] →
          t.rd PWR_STAT_PF = 1 ∧ t.rd PWR_EVT_PF = 1 ∧ t.rd HPT_IRQ_PF = 1 ∧ t.rd PWR_STAT_ENTRY = 0 ∧ t.rd PWR_STAT_FSTEP = 5 ∧
          t.rd FIO_STAT_PFSAFE = 1 ∧ t.rd KSU_STAT_JCLOSED = 1 ∧ counted s t PWR_FLUSH_COUNT ∧ t.grn.frozen = none ∧
          t.rd PWR_STAT_SLEEP = (if s.rd PWR_STAT_SLEEP = 3 then 3 else 0) ∧ t.pdir.points = s.pdir.points)) ∧
      (750 ≤ vin.toNat → exec (.supplyLoss vin) s = .next s) ∧
      (vin.toNat < 750 → fieldNumbers s → ∃ t, exec (.supplyLoss vin) s = .next t ∧ t.pwr.unpowered = true ∧ t.rd FIO_STAT_OUT_EN = 0 ∧
        t.rd PWR_STAT_PF = 1 ∧ t.rd PWR_STAT_VIN = vin.toNat ∧ (s.rd PLK_STAT_ROLE ≠ 0 → t.rd PLK_STAT_CTRL = 0) ∧
        (∀ x ∈ t.fio.chans, x.2.mode ∈ [2, 5, 6] → x.2.drive = none) ∧ t.pdir = s.pdir ∧ t.grn = s.grn)) ∧
    -- R422, R423
    (∀ (ten : Tenant) (lvl : Fin 4), let i := Instr.setlvl ten lvl
      let slow := ∃ p, s.cxe.prog = some p ∧ p.pdecl < lvl.val
      let lv := s.rd PWR_STAT_LVL
      let answers (code : Nat) : Prop := ∃ t, exec i s = .next t ∧ t.answer.code = code ∧ t.rd PWR_CRES_CODE = code ∧
        t.rd PWR_CRES_DONE = 1 ∧ SameBut [PWR_CRES_CODE, PWR_CRES_DONE] s t ∧ t.rest = s.rest
      (s.serveGate ≠ none → answers 0x0308) ∧
      (s.serveGate = none → (ten.val ≠ 0 → answers 0x0F02) ∧ (ten.val = 0 → slow → answers 0x0F01) ∧
        (ten.val = 0 → ¬ slow → (s.pwr.levelTo = none → lvl.val = lv → answers 0x0F00) ∧
          ∃ t, exec i s = .next t ∧ t.answer.code = 0x0F00 ∧ t.pdir = s.pdir ∧
            SameBut [PWR_CRES_CODE, PWR_CRES_DONE, PWR_STAT_LVL] s t ∧
            (s.pwr.levelTo ≠ none → t.pwr = { s.pwr with levelNext := some lvl.val } ∧ t.rd PWR_STAT_LVL = lv) ∧
            (s.pwr.levelTo = none → lvl.val ≠ lv → t.pwr = { s.pwr with levelTo := some lvl.val } ∧
              t.rd PWR_STAT_LVL = max lv lvl.val)))) ∧
    (s.pwr.levelTo = none → exec .levelChangeComplete s = .next s) ∧
    (∀ l < 4, s.pwr.levelTo = some l → ∃ t, exec .levelChangeComplete s = .next t ∧ t.rd PWR_EVT_LEVEL = 1 ∧ t.pdir = s.pdir ∧
      SameButLog [PWR_STAT_LVL, PWR_EVT_LEVEL] s t ∧ t.pwr.levelNext = none ∧
      (s.pwr.levelNext = none ∨ s.pwr.levelNext = some l → t.rd PWR_STAT_LVL = l ∧ t.pwr.levelTo = none) ∧
      (∀ m < 4, s.pwr.levelNext = some m → m ≠ l → t.rd PWR_STAT_LVL = max l m ∧ t.pwr.levelTo = some m)) ∧
    -- R425 to R428
    (∀ (ten : Tenant) (st : Fin 4), let i := Instr.sleepRequest ten st
      let answers (code : Nat) : Prop := ∃ t, exec i s = .next t ∧ t.answer.code = code ∧ t.rd PWR_CRES_CODE = code ∧
        SameBut [PWR_CRES_CODE, PWR_CRES_DONE] s t ∧ t.rest = s.rest
      let busy := s.rd PWR_STAT_ENTRY = 1 ∨ s.rd CXE_STAT_EXCH_PEND = 1 ∨ s.rd UPD_STAT_STATE ≠ 0 ∨ s.grn.frozen ≠ none
      (s.serveGate ≠ none → answers 0x0308) ∧
      (s.serveGate = none → (ten.val ≠ 0 → answers 0x0F02) ∧ (ten.val = 0 → (st.val = 0 → answers 0x0F05) ∧
        (st.val ≠ 0 → (s.rd PLK_STAT_ROLE ≠ 0 → answers 0x0F03) ∧ (s.rd PLK_STAT_ROLE = 0 → (busy → answers 0x0F04) ∧
          (¬ busy → ∃ t, exec i s = .next t ∧ t.answer.code = 0x0F00 ∧ t.rd PWR_STAT_ENTRY = 1 ∧
            t.pwr = { s.pwr with sleepTo := st.val, wakes := 0, during := false } ∧ t.pdir = s.pdir ∧
            SameBut [PWR_CRES_CODE, PWR_CRES_DONE, PWR_STAT_ENTRY] s t)))))) ∧
    (∀ f : FlushIn, (s.rd PWR_STAT_ENTRY ≠ 1 ∨ (∃ a ∈ s.cxe.acts, a.lane ≠ none) → exec (.sleepEntryComplete f) s = .next s) ∧
      (s.rd PWR_STAT_ENTRY = 1 → (∀ a ∈ s.cxe.acts, a.lane = none) → s.pwr.sleepTo < 4 → ∃ t,
        exec (.sleepEntryComplete f) s = .next t ∧ t.rd PWR_STAT_SLEEP = s.pwr.sleepTo ∧ t.rd PWR_STAT_ENTRY = 0 ∧
        t.rd PWR_EVT_SLEEP = 1 ∧ (2 ≤ s.pwr.sleepTo → t.rd HPT_STAT_SUPRDY = 0) ∧
        (s.pwr.sleepTo = 1 → t.cxe.acts = [] ∧ t.pwr = s.pwr ∧ t.pdir.points = s.pdir.points))) ∧
    (∀ n : Fin 5, let i := Instr.wakeEvent n
      (s.rd PWR_WAKE_EN_EN).testBit n.val = false ∨ (s.rd PWR_STAT_ENTRY ≠ 1 ∧ s.rd PWR_STAT_SLEEP = 0) → exec i s = .next s) ∧
    (∀ n : Fin 5, (s.rd PWR_WAKE_EN_EN).testBit n.val = true → s.rd PWR_WAKE_DURING < 32 →
      s.rd PWR_STAT_ENTRY = 1 ∨ s.rd PWR_STAT_SLEEP ≠ 0 → ∃ t, exec (.wakeEvent n) s = .next t ∧ t.pdir = s.pdir ∧
        SameBut [PWR_WAKE_DURING] s t ∧ (∀ k, t.pwr.wakes.testBit k = (s.pwr.wakes.testBit k || k == n.val)) ∧
        (s.rd PWR_STAT_ENTRY = 1 → t.pwr.during = true ∧
          ∀ k, (t.rd PWR_WAKE_DURING).testBit k = ((s.rd PWR_WAKE_DURING).testBit k || k == n.val)) ∧
        (s.rd PWR_STAT_ENTRY ≠ 1 → t.pwr.during = s.pwr.during ∧ t.regs = s.regs)) ∧
    (s.rd PWR_STAT_SLEEP = 0 ∨ s.pwr.wakes = 0 → exec .wakeComplete s = .next s) ∧
    (s.rd PWR_STAT_SLEEP ≠ 0 → s.pwr.wakes ≠ 0 → ∃ t, exec .wakeComplete s = .next t ∧
      (2 ≤ s.rd PWR_STAT_SLEEP → t.rd HPT_STAT_SUPRDY = 1 ∧ t.rd HPT_IRQ_SUPRDY = 1) ∧
      (s.rd PWR_STAT_SLEEP < 3 → s.fbe.ports = [] → s.fio.chans = [] → s.mtr.deferred = [] → t.rd PWR_STAT_SLEEP = 0 ∧
        t.rd PWR_WAKE_STATE = s.rd PWR_STAT_SLEEP ∧ t.rd PWR_WAKE_SRC = s.pwr.wakes % 32 ∧ t.rd PWR_EVT_WAKE = 1 ∧
        t.pwr.wakes = 0 ∧ t.ltu = s.ltu ∧ (∀ x ∈ t.cle.loops, x.2.first = true) ∧ t.pdir = s.pdir)) ∧
    (s.wakeLine.ltu.now = (s.ltu.retained / 65536 + (s.well.s3 * s.ltu.freq + 999999) / 1000000 + 1) * 65536 ∧
      s.wakeLine.rd LTU_STAT_STATE = 2 ∧ s.wakeLine.pdir = s.pdir)

/-- HLT (R20, R433 to R436): a module fault is declared by its first condition and clears with its last, the reset class restarts
the module; the watchdog restarts SUP, and a third restart within 60 s is a fault; the indicators and their ends of life. -/
def Obligations.HealthWatch : Prop :=
  ∀ (s : State),
    let calm := s.rd PLK_STAT_ROLE = 0 ∧ s.rd UPD_STAT_STATE ∉ [4, 5]
    let hot (t : State) (die : Half) : Prop := t.rd HLT_TEMP_NOW = die.toNat ∧
      sint16 (t.rd HLT_TEMP_MAX) = max (sint16 (s.rd HLT_TEMP_MAX)) (sint16 die.toNat)
    (∀ (c : Fin 4) (die : Half) (f : FlushIn) (found : Found), let i := Instr.moduleFault c die f found
      (s.powered = false → exec i s = .next s) ∧
      (s.powered = true → c.val ≠ 3 → calm →
        (s.hlt.conds = 0 → ∃ t, exec i s = .next t ∧ hot t die ∧ t.rd HLT_STAT_MFAULT = 1 ∧ t.rd HLT_STAT_FCAUSE = c.val + 1 ∧
          t.rd HLT_EVT_FAULT = 1 ∧ t.rd GRN_EVT_FLUSH = 1 ∧ t.hlt = { s.hlt with conds := 2 ^ (c.val + 1) } ∧ t.pdir = s.pdir ∧
          SameButLog [HLT_TEMP_NOW, HLT_TEMP_MAX, HLT_STAT_MFAULT, HLT_STAT_FCAUSE, HLT_EVT_FAULT] s t) ∧
        (s.hlt.conds ≠ 0 → ∃ t, exec i s = .next t ∧ hot t die ∧ SameBut [HLT_TEMP_NOW, HLT_TEMP_MAX] s t ∧
          (∀ k, t.hlt.conds.testBit k = (s.hlt.conds.testBit k || k == c.val + 1)) ∧ t.pdir = s.pdir)) ∧
      (s.powered = true → c.val = 3 → ∃ t, exec i s = .next t ∧ t.rd HPT_STAT_SUPRDY = 1 ∧
        t = (((s.dieIs die).faultRises 4).flushSteps f).startUp 4 none false found) ∧
      (let k := Instr.moduleFaultClear c die;
        (s.hlt.conds.testBit (c.val + 1) = false ∨ 2 ≤ c.val → ∃ t, exec k s = .next t ∧ hot t die ∧
          SameBut [HLT_TEMP_NOW, HLT_TEMP_MAX] s t ∧ t.rest = s.rest) ∧
        (c.val < 2 → s.hlt.conds = 2 ^ (c.val + 1) → ∃ t, exec k s = .next t ∧ hot t die ∧ t.rd HLT_STAT_MFAULT = 0 ∧
          t.rd HLT_STAT_FCAUSE = 0 ∧ t.hlt.conds = 0 ∧ t.pdir = s.pdir ∧
          SameButLog [HLT_TEMP_NOW, HLT_TEMP_MAX, HLT_STAT_MFAULT, HLT_STAT_FCAUSE] s t) ∧
        (c.val < 2 → s.hlt.conds.testBit (c.val + 1) = true → s.hlt.conds ≠ 2 ^ (c.val + 1) → ∃ t, exec k s = .next t ∧ hot t die ∧
          t.hlt.conds = s.hlt.conds - 2 ^ (c.val + 1) ∧ SameBut [HLT_TEMP_NOW, HLT_TEMP_MAX] s t))) ∧
    -- R434, R20
    (∃ t, exec .hltWdogKick s = .next t ∧ t = { s with hlt := { s.hlt with kick := s.ms } }) ∧
    (s.hlt.supRestart = true ∨ s.powered = false ∨ 2 ≤ s.rd PWR_STAT_SLEEP ∨ s.ms < s.hlt.kick + 250 →
      exec .supWatchdogExpiry s = .next s) ∧
    (s.hlt.supRestart = false → s.powered = true → s.rd PWR_STAT_SLEEP < 2 → s.hlt.kick + 250 ≤ s.ms → calm →
      let recent := s.hlt.restarts.filter fun t => decide (s.ms < t + 60000)
      ∃ t, exec .supWatchdogExpiry s = .next t ∧ t.hlt.supRestart = true ∧ t.hlt.restarts = s.ms :: recent ∧
        t.rd HPT_STAT_SUPRDY = 0 ∧ t.rd HLT_EVT_SUPRST = 1 ∧ counted s t HLT_WDOG_RESTARTS ∧ t.rd GRN_EVT_FLUSH = 1 ∧ t.pdir = s.pdir ∧
        (recent.length < 2 → t.rd HLT_STAT_MFAULT = s.rd HLT_STAT_MFAULT ∧ t.hlt.conds = s.hlt.conds) ∧
        (2 ≤ recent.length → s.hlt.conds = 0 → t.rd HLT_STAT_MFAULT = 1 ∧ t.rd HLT_STAT_FCAUSE = 3 ∧ t.hlt.conds = 8)) ∧
    (s.hlt.supRestart = false → exec .supRestartComplete s = .next s) ∧
    (s.hlt.supRestart = true → ∃ t, exec .supRestartComplete s = .next t ∧ t.rd HPT_STAT_SUPRDY = 1 ∧ t.rd HPT_IRQ_SUPRDY = 1 ∧
      t.hlt = { s.hlt with supRestart := false, kick := s.ms } ∧ SameBut [HPT_STAT_SUPRDY, HPT_IRQ_SUPRDY] s t ∧ t.pdir = s.pdir) ∧
    -- R435, R436
    (∀ (mid : List Nat) (new old : Nat), (10000 ≤ new → endOfLife (new :: mid) = 0) ∧ (new < 10000 → endOfLife [new] = 0xFFFF) ∧
      (new < 10000 → new ≤ old → endOfLife (new :: mid ++ [old]) = 0xFFFF) ∧
      (new < 10000 → old < new → let d := (10000 - new) * (mid.length + 1) / (new - old)
        endOfLife (new :: mid ++ [old]) = if 65534 < d then 0xFFFF else d)) ∧
    (∀ (loss erases writes drift : Nat) (die : Half), let i := Instr.indicatorUpdate loss erases writes drift die
      (s.powered = false → exec i s = .next s) ∧
      (s.powered = true → s.hlt.history.length = 5 → ∃ t top, exec i s = .next t ∧ hot t die ∧ t.pdir = s.pdir ∧
        (∀ n < 256, s.rd (FIO_CH_CNT_SW n) ≤ top) ∧ (∃ n < 256, s.rd (FIO_CH_CNT_SW n) = top ∧
          t.rd (HLT_IND_VAL_ARG 3) = n) ∧
        ∀ n < 5, let of_ (v limit : Nat) : Nat := min 65535 (v * 10000 / limit)
          let used := match n with
            | 0 => of_ loss 50000 | 1 => max (of_ erases 100000) (of_ (1280 - s.nand.spare) 1280) | 2 => of_ writes 1000000000000
            | 3 => of_ top (max 1 (s.rd HLT_SWLIM_LIM)) | _ => of_ drift 50000
          let past := s.hlt.history.getD n []
          let days := endOfLife ((used :: past).take 31)
          t.rd (HLT_IND_VAL_USED n) = used ∧ t.hlt.history.getD n [] = (used :: past).take 31 ∧ t.rd (HLT_IND_EOL_DAYS n) = days ∧
          (10000 ≤ used → s.rd (HLT_IND_VAL_USED n) < 10000 → t.rd HLT_EVT_EOL = 1) ∧
          (days < 365 → past = [] ∨ 365 ≤ s.rd (HLT_IND_EOL_DAYS n) → t.rd HLT_EVT_WEAR = 1)))

/-! ## Host port, command service and Mill (spec/16) -/

/-- The CRC-32C of a frame: over its address, most significant byte first, and its data (R440). -/
def spiCrc (addr : Nat) (data : List Byte) : Nat := crc32c ((leBytes 3 addr).reverse ++ data)

/-- `t` differs from `s` at most in the host port's part and in the fields `fs`. -/
def hostOnly (fs : List Fld) (s t : State) : Prop := SameBut fs s t ∧ { t.rest with hpt := s.hpt } = s.rest

/-- SPI frames: discarded when they fail, ignored and counted, lost in sleep, written and read in the host address space (R440,
R441, R449, R450). -/
def spiFrames : Prop :=
  ∀ (s : State) (op : Byte) (addr : BitVec 24),
    let page := s.rd HPT_BWPAGE_PAGE * 0x100000
    let a := addr.toNat
    (∀ (data : List Byte) (crc : Word), let i := Instr.spiWriteFrame op addr data crc
      let n := data.length
      let good := (op = 0x02 ∨ op = 0x82) ∧ a % 4 = 0 ∧ n ≤ 65536
      let up := s.powered = true ∧ s.rd PWR_STAT_SLEEP < 2
      (s.powered = false → exec i s = .next s) ∧
      (s.powered = true → 2 ≤ s.rd PWR_STAT_SLEEP → ∃ t, exec i s = .next t ∧ SameBut [PWR_WAKE_DURING] s t ∧ t.hpt = s.hpt ∧
        t.pdir = s.pdir ∧ ((s.rd PWR_WAKE_EN_EN).testBit 2 = true → t.pwr.wakes.testBit 2 = true)) ∧
      (up → ¬ good → ∃ t, exec i s = .next t ∧ counted s t HPT_ERRCNT_FRAME ∧ SameBut [HPT_ERRCNT_FRAME] s t ∧ t.rest = s.rest) ∧
      (up → good → n % 4 ≠ 0 ∨ crc.toNat ≠ spiCrc a data → ∃ t, exec i s = .next t ∧ counted s t HPT_ERRCNT_CRC ∧
        t.rd HPT_IRQ_CRCERR = 1 ∧ SameBut [HPT_ERRCNT_CRC, HPT_IRQ_CRCERR] s t ∧ t.rest = s.rest) ∧
      (up → good → n % 4 = 0 → crc.toNat = spiCrc a data →
        -- read-only and unmapped addresses
        ((0x40 ≤ a ∧ a + n ≤ 0x10000) ∨ (0x20000 ≤ a ∧ a + n ≤ 0x100000) ∨ 0x200000 ≤ a → exec i s = .next s) ∧
        -- the command buffer
        (0x10000 ≤ a → a + n ≤ 0x20000 → (s.rd HPT_STAT_PEND = 1 → exec i s = .next s) ∧
          (s.rd HPT_STAT_PEND ≠ 1 → swf 0 s.hpt.cmdBuf = true → ∃ t, exec i s = .next t ∧ hostOnly [] s t ∧
            { t.hpt with cmdBuf := s.hpt.cmdBuf } = s.hpt ∧ ∀ k, sget 0 t.hpt.cmdBuf k =
              if a - 0x10000 ≤ k ∧ k < a - 0x10000 + n then data.getD (k - (a - 0x10000)) 0 else sget 0 s.hpt.cmdBuf k)) ∧
        -- the aperture
        (∀ base size, s.hpt.host.bulk = some (base, size) → 0x100000 ≤ a → a + n ≤ 0x200000 → let x := page + (a - 0x100000)
          (x + n ≤ size → ∃ t, exec i s = .next t ∧ t.regs = s.regs ∧ { t.rest with mem := s.mem } = s.rest ∧
            ∀ m, t.byte m = if base + x ≤ m ∧ m < base + x + n then data.getD (m - (base + x)) 0 else s.byte m) ∧
          (size ≤ x → 0 < n → ∃ t, exec i s = .next t ∧ counted s t HPT_ERRCNT_BULK ∧ SameBut [HPT_ERRCNT_BULK] s t ∧
            t.rest = s.rest)) ∧
        (s.hpt.host.bulk = none → 0x100000 ≤ a → a + n ≤ 0x200000 → 0 < n → ∃ t, exec i s = .next t ∧
          counted s t HPT_ERRCNT_BULK ∧ SameBut [HPT_ERRCNT_BULK] s t ∧ t.rest = s.rest) ∧
        -- the registers
        (∀ w : Word, a < 0x40 → data = leBytes 4 w.toNat →
          exec i s = exec (.registerWrite (BitVec.ofNat 32 (0x400E0000 + a)) 4 w) s))) ∧
    (∀ n : Nat, let i := Instr.spiReadFrame op addr n
      let good := (op = 0x01 ∨ op = 0x81) ∧ a % 4 = 0 ∧ n ≤ 65536
      let up := s.powered = true ∧ s.rd PWR_STAT_SLEEP < 2
      let gives (t : State) (data : List Byte) : Prop :=
        let sent := data ++ leBytes 4 (spiCrc a data)
        t.answer.words = bytesWords sent sent.length
      (s.powered = false → exec i s = .next s) ∧
      (s.powered = true → 2 ≤ s.rd PWR_STAT_SLEEP → ∃ t bad, exec i s = .next t ∧ SameBut [PWR_WAKE_DURING] s t ∧ t.hpt = s.hpt ∧
        bad < 2 ^ 32 ∧ bad ≠ spiCrc a (List.replicate n 0xFF) ∧
        (let sent := List.replicate n 0xFF ++ leBytes 4 bad; t.answer.words = bytesWords sent sent.length) ∧
        ((s.rd PWR_WAKE_EN_EN).testBit 2 = true → t.pwr.wakes.testBit 2 = true)) ∧
      (up → ¬ good → ∃ t, exec i s = .next t ∧ counted s t HPT_ERRCNT_FRAME ∧ SameBut [HPT_ERRCNT_FRAME] s t ∧ t.rest = s.rest) ∧
      (up → good → n % 4 = 0 →
        ((0x40 ≤ a ∧ a + n ≤ 0x20000) ∨ (0x30000 ≤ a ∧ a + n ≤ 0x100000) ∨ 0x200000 ≤ a → ∃ t, exec i s = .next t ∧
          gives t (List.replicate n 0) ∧ SameBut [] s t ∧ t.rest = s.rest) ∧
        -- the result buffer: a result read, and a read of the record as it stands
        (a = 0x20000 → 0 < n →
          (∀ c r, s.hpt.host.box.cmd = some c → r = resultRec c.code c.seq 0x1001 0 [] → n ≤ 16 → ∃ t, exec i s = .next t ∧
            gives t (r.take n) ∧ SameBut [] s t ∧ t.rest = s.rest) ∧
          (s.hpt.host.box.cmd = none → s.hpt.host.box.held = none → n ≤ 16 → ∃ t, exec i s = .next t ∧
            gives t ((resultRec 0 0 0x1002 0 []).take n) ∧ SameBut [] s t ∧ t.rest = s.rest) ∧
          (∀ r, s.hpt.host.box.cmd = none → s.hpt.host.box.held = some r → n ≤ r.length → s.hpt.host.box.reads ≤ 255 →
            let count := min 255 (s.hpt.host.box.reads + 1)
            ∃ t, exec i s = .next t ∧ gives t ((r.set 3 (BitVec.ofNat 8 count)).take n) ∧ hostOnly [] s t ∧
              t.hpt.host.box = { s.hpt.host.box with reads := count })) ∧
        (∀ r, 0x20000 < a → s.hpt.host.box.cmd = none → s.hpt.host.box.held = some r → a - 0x20000 + n ≤ r.length →
          a + n ≤ 0x30000 → ∃ t, exec i s = .next t ∧ gives t (slice (r.set 3 (BitVec.ofNat 8 s.hpt.host.box.reads)) (a - 0x20000) n) ∧
            SameBut [] s t ∧ t.rest = s.rest) ∧
        (∀ base size, s.hpt.host.bulk = some (base, size) → 0x100000 ≤ a → a + n ≤ 0x200000 → let x := page + (a - 0x100000)
          (x + n ≤ size → ∃ t, exec i s = .next t ∧ gives t (s.bytes (base + x) n) ∧ SameBut [] s t ∧ t.rest = s.rest) ∧
          (size ≤ x → 0 < n → ∃ t, exec i s = .next t ∧ gives t (List.replicate n 0) ∧ counted s t HPT_ERRCNT_BULK ∧
            SameBut [HPT_ERRCNT_BULK] s t ∧ t.rest = s.rest)) ∧
        (n = 4 → a < 0x40 → ∃ t u, exec i s = .next t ∧ exec (.rcRegisterRead (BitVec.ofNat 32 (0x400E0000 + a)) 0) s = .next u ∧
          (∀ w, u.answer.words = [w] → gives t (leBytes 4 w.toNat)) ∧ t = { u with answer := t.answer })))

/-- A submission is rejected in the order of R444's table, or the command waits in the host's mailbox. -/
def doorbells : Prop :=
  ∀ (s : State) (len : BitVec 17),
    let n := len.toNat
    let bs := (List.range n).map fun k => sget 0 s.hpt.cmdBuf k
    let short := n < 16 ∨ 65536 < n ∨ n ≠ 16 + leAt bs 12 4
    let i := Instr.doorbell len
    let rejected (code reason : Nat) : Prop := ∃ t, exec i s = .next t ∧ t.rd HPT_LASTREJ_CODE = code ∧ t.rd HPT_LASTREJ_REASON = reason ∧
      SameBut [HPT_LASTREJ_CODE, HPT_LASTREJ_REASON] s t ∧ t.rest = s.rest
    let ready := s.rd HPT_STAT_SUPRDY = 1 ∧ s.hlt.supRestart = false
    (s.powered = false → exec i s = .next s) ∧ (s.powered = true → (short → rejected 0x1005 0) ∧ (¬ short →
      (s.rd HPT_STAT_PEND = 1 → rejected 0x0308 0xC2) ∧ (s.rd HPT_STAT_PEND ≠ 1 →
        (¬ ready → rejected 0x0308 0x45) ∧ (ready →
          (s.rd PWR_STAT_PF = 1 → rejected 0x0308 0xC1) ∧ (s.rd PWR_STAT_PF ≠ 1 → ∃ t, exec i s = .next t ∧
            t.rd HPT_STAT_PEND = 1 ∧ t.rd HPT_STAT_RES = 0 ∧ t.rd HPT_STAT_LSEQ = leAt bs 4 4 % 65536 ∧
            hostOnly [HPT_STAT_PEND, HPT_STAT_RES, HPT_STAT_LSEQ] s t ∧ t.hpt.service = s.hpt.service ∧ t.hpt.boxes = s.hpt.boxes ∧
            t.hpt.host.box = ⟨some ⟨bs, none⟩, none, s.ms, false, none, false, none, 0, s.ms⟩)))))

/-- A result becomes present: NOT_READY's end, the host's interrupt, and the answer to another requester unless NOT_READY has gone
out in its place after 50 ms (R445, R448). -/
def resultsPresent : Prop :=
  ∀ (s : State) (b : Box),
    let m := s.box b
    let framed (r : List Byte) : List Byte := leBytes 4 r.length ++ r ++ leBytes 4 (crc32c r)
    let kept (r : List Byte) : Mailbox := { m with cmd := none, begun := false, done := none, late := false, held := some r, reads := 0 }
    (m.cmd = none ∨ s.serving = false → exec (.commandResultPresent b) s = .next s) ∧
    (∀ c, m.cmd = some c → s.serving = true →
      (∀ r, m.done = some r → ∃ t, exec (.commandResultPresent b) s = .next t ∧ t.box b = kept r ∧ t.pdir = s.pdir ∧
        (∀ o, o ≠ b → t.box o = s.box o) ∧
        (b = .host → t.rd HPT_STAT_PEND = 0 ∧ t.rd HPT_STAT_RES = 1 ∧ t.rd HPT_IRQ_RESULT = 1 ∧
          hostOnly [HPT_STAT_PEND, HPT_STAT_RES, HPT_IRQ_RESULT] s t) ∧
        (b ≠ .host → m.late = true → hostOnly [] s t) ∧
        (b = .service → m.late = false → c.msg = none → s.hpt.usb = true → hostOnly [] s t ∧ t.hpt.usbOut = framed r) ∧
        (∀ src key x, b = .net src key → m.late = false → c.msg = some x → t = (s.setBox b fun m =>
          { m with cmd := none, begun := false, done := none, late := false, held := some r, reads := 0 }).respond x r)) ∧
      (m.done = none → m.begun = false → (cmdRows.find? fun r => r.code == c.code) = none → ∃ t,
        exec (.commandResultPresent b) s = .next t ∧ t.box b = kept (resultRec c.code c.seq 0x1004 0 [])) ∧
      (m.done = none → m.begun = true → c.code = 0x010C →
        (s.rd PWR_CRES_DONE = 0 → s.rd PWR_CRES_CODE < 65536 → exec (.commandResultPresent b) s = .next s) ∧
        (s.rd PWR_CRES_DONE = 1 → s.rd PWR_CRES_CODE < 65536 → s.rd PWR_CRES_CODE ≠ 0x0308 → ∃ t, exec (.commandResultPresent b) s = .next t ∧
          t.box b = kept (resultRec c.code c.seq (s.rd PWR_CRES_CODE % 65536) 0 (leBytes 4 (regWord s PWR_CRES_DONE.addr)))))) ∧
    (m.cmd = none ∨ b = .host ∨ m.late = true ∨ s.ms < m.since + 50 ∨ s.powered = false → exec (.mailboxTimeout b) s = .next s) ∧
    (∀ c, m.cmd = some c → b ≠ .host → m.late = false → m.since + 50 ≤ s.ms → s.powered = true →
      let r := resultRec c.code c.seq 0x1001 0 []
      ∃ t, exec (.mailboxTimeout b) s = .next t ∧ t.box b = { m with late := true } ∧ t.pdir = s.pdir ∧
        (b = .service → c.msg = none → s.hpt.usb = true → hostOnly [] s t ∧ t.hpt.usbOut = framed r) ∧
        (∀ x, c.msg = some x → t = (s.setBox b fun m => { m with late := true }).respond x r))

/-- Commands of the service port and of network requesters, RESULT, and the USB port (R317, R442, R448). -/
def serviceFrames : Prop :=
  ∀ (s : State),
    let framed (r : List Byte) : List Byte := leBytes 4 r.length ++ r ++ leBytes 4 (crc32c r)
    let m := s.hpt.service.box
    let new (c : HostCmd) (ten : Option Nat) : Mailbox := ⟨some c, ten, s.ms, false, none, false, none, 0, s.ms⟩
    let ready := s.rd HPT_STAT_SUPRDY = 1 ∧ s.hlt.supRestart = false
    let sends (i : Instr) (r : List Byte) : Prop := ∃ t, exec i s = .next t ∧ hostOnly [] s t ∧
      t.hpt = { s.hpt with usbOut := framed r }
    (∀ f : List Byte, s.hpt.usb = false ∨ s.powered = false ∨ s.rd PWR_STAT_PF = 1 ∨ 2 ≤ s.rd PWR_STAT_SLEEP →
      exec (.servicePortFrame f) s = .next s) ∧
    (∀ (r f : List Byte) (crc : Nat), let i := Instr.servicePortFrame f
      f = leBytes 4 r.length ++ r ++ leBytes 4 crc → crc < 2 ^ 32 → r.length < 2 ^ 32 → s.hpt.usb = true → s.powered = true →
      s.rd PWR_STAT_PF ≠ 1 → s.rd PWR_STAT_SLEEP < 2 →
      let c : HostCmd := ⟨r, none⟩
      let short := r.length < 16 ∨ 65536 < r.length ∨ r.length ≠ 16 + leAt r 12 4
      (crc ≠ crc32c r → exec i s = .next s) ∧
      (crc = crc32c r → (¬ ready → sends i (resultRec c.code c.seq 0x0308 0x45 [])) ∧ (ready →
        (short → sends i (resultRec c.code c.seq 0x1005 0 [])) ∧ (¬ short →
          (c.code = 1 → ∃ t, exec i s = .next t ∧ hostOnly [] s t ∧ t.hpt = { s.hpt with asks := s.hpt.asks ++ [c] }) ∧
          (c.code ≠ 1 → m.cmd ≠ none → sends i (resultRec c.code c.seq 0x0308 0xC2 [])) ∧
          (c.code ≠ 1 → m.cmd = none → ∃ t, exec i s = .next t ∧ hostOnly [] s t ∧
            t.hpt = { s.hpt with service := { s.hpt.service with box := new c none } }))))) ∧
    -- a COMMAND of a network requester
    (∀ (x : UptMsg) (r : List UptMsg), s.net.queue = x :: r → s.awake = true → x.hdr.type = 6 → x.hdr.resp = false →
      x.hdr.seg = 0 → x.hdr.last = true → ready → x.body.length = 16 + leAt x.body 12 4 → x.body.length ≤ 65536 →
      x.hdr.src < 65536 → x.hdr.key < 256 →
      let c : HostCmd := ⟨x.body, some x⟩
      let s0 : State := { s with net := { s.net with queue := r } }
      let box := Box.net (BitVec.ofNat 16 x.hdr.src) (BitVec.ofNat 8 x.hdr.key)
      let known := ∃ y ∈ s.hpt.boxes, y.1 = (x.hdr.src, x.hdr.key)
      (c.code = 1 → exec .uptCommand s = .next { s0 with hpt := { s.hpt with asks := s.hpt.asks ++ [c] } }) ∧
      (c.code ≠ 1 →
        ((known ∧ (s.box box).cmd = none) ∨ (¬ known ∧ s.hpt.boxes.length < 64) → ∃ t, exec .uptCommand s = .next t ∧
          t = { s0 with hpt := t.hpt } ∧ t.box box = new c (some x.hdr.ten) ∧ t.hpt.host = s.hpt.host ∧
          t.hpt.service = s.hpt.service ∧ ∀ o, o ≠ box → t.box o = s.box o) ∧
        ((s.box box).cmd ≠ none → ∃ u : State, counted s u NET_UPT_CNT_B_BUSY ∧ SameBut [NET_UPT_CNT_B_BUSY] s u ∧
          u.rest = s0.rest ∧ exec .uptCommand s = .next (u.sendResponse x (resultRec c.code c.seq 0x0308 0xC2 []))) ∧
        (¬ known → 64 ≤ s.hpt.boxes.length → (∀ y ∈ s.hpt.boxes, y.2.cmd ≠ none) → ∃ u : State, counted s u NET_UPT_CNT_B_BUSY ∧
          SameBut [NET_UPT_CNT_B_BUSY] s u ∧ u.rest = s0.rest ∧
          exec .uptCommand s = .next (u.sendResponse x (resultRec c.code c.seq 0x0308 0xC3 []))) ∧
        (∀ v ∈ s.hpt.boxes, ¬ known → 64 ≤ s.hpt.boxes.length → v.2.cmd = none → s.hpt.boxes.Pairwise (fun p q => p.1 ≠ q.1) →
          (∀ y ∈ s.hpt.boxes, y.2.cmd = none → y.1 ≠ v.1 → v.2.used < y.2.used) → ∃ t, exec .uptCommand s = .next t ∧
            t = { s0 with hpt := t.hpt } ∧ t.hpt.boxes = (s.hpt.boxes.filter fun y => y.1 ≠ v.1) ++
              [((x.hdr.src, x.hdr.key), new c (some x.hdr.ten))]))) ∧
    -- RESULT
    (∀ b : Box, let i := Instr.hpResult b
      (s.serving = false ∨ (s.hpt.asks.find? fun c => c.box == b) = none → exec i s = .next s) ∧
      (∀ c rest, s.serving = true → s.hpt.asks = c :: rest → c.box = b →
        let s1 : State := { s with hpt := { s.hpt with asks := rest } }
        let s2 : State := s1.setBox b fun m => { m.countRead with used := s.ms }
        (c.args ≠ [] → ∃ t, exec i s = .next t ∧ t = s1.answerCmd c (b == .service) (resultRec c.code c.seq 0x1005 0 [])) ∧
        (c.args = [] →
          (∀ p, (s.box b).cmd = some p → (s2.box b).reads = (s.box b).reads ∧ ∃ t, exec i s = .next t ∧
            t = s2.answerCmd c (b == .service) (resultRec p.code p.seq 0x1001 0 [])) ∧
          (∀ h, (s.box b).cmd = none → (s.box b).held = some h → let k := satInc 255 (s.box b).reads
            (s2.box b).reads = k ∧ exec i s = .next (s2.answerCmd c (b == .service) (h.set 3 (BitVec.ofNat 8 k)))) ∧
          ((s.box b).cmd = none → (s.box b).held = none → ∃ t, exec i s = .next t ∧
            t = s2.answerCmd c (b == .service) (resultRec c.code c.seq 0x1002 0 [])))) ∧
      (∀ (c : HostCmd) (r : List Byte), (∀ x, c.msg = some x → s.answerCmd c false r = s.respond x r) ∧
        (c.msg = none → s.hpt.usb = true → s.answerCmd c true r = { s with hpt := { s.hpt with usbOut := framed r } }))) ∧
    -- USB
    (s.powered = false → exec .usbConnect s = .next s) ∧
    (s.powered = true → exec .usbConnect s = .next { s with hpt := { s.hpt with usb := true } }) ∧
    (s.hpt.service.session = none → exec .usbDisconnect s = .next { s with hpt := { s.hpt with usb := false } }) ∧
    (∀ ten, s.hpt.service.session = some ten → ∃ t, exec .usbDisconnect s = .next t ∧ t.hpt = { s.hpt with
      usb := false, service := { s.hpt.service with session := none, bulk := none } } ∧ t.pdir = s.pdir)

/-- Frames and mailboxes of HPT and of the command service: SPI frames, DOORBELL, results, the service port, network commands and
RESULT (R317, R440 to R445, R448 to R450). -/
def Obligations.HostFrames : Prop := spiFrames ∧ doorbells ∧ resultsPresent ∧ serviceFrames

/-- A command waits in a mailbox, has not begun, has this code, and SUP serves commands. -/
def hostWaits (s : State) (b : Box) (c : HostCmd) (code : Nat) : Prop :=
  (s.box b).cmd = some c ∧ (s.box b).begun = false ∧ c.code = code ∧ s.serving = true

/-- No other mailbox awaits the result of a block request of this code. -/
def hostAlone (s : State) (b : Box) (code : Nat) : Prop :=
  ∀ o, o ≠ b → ¬ ((s.box o).begun = true ∧ (s.box o).done = none ∧ ∃ d, (s.box o).cmd = some d ∧ d.code = code)

/-- The state in which a mailbox's command has begun. -/
def hostBegun (s : State) (b : Box) : State := s.setBox b fun m => { m with begun := true }

/-- A command ends with a result; `u` is the state that its effect leaves. -/
def hostEnds (i : Instr) (s : State) (b : Box) (c : HostCmd) (u : State) (code reason : Nat) (data : List Byte) : Prop :=
  exec i s = .next (u.finishCmd b c code reason data)

/-- Argument word `k` of a command. -/
def hostArg (c : HostCmd) (k : Nat) : Nat := leAt c.args (4 * k) 4

/-- A block request as Tables 16-5 and 16-6 give it: command, code, argument bytes, registers that take the words after the first,
result registers, and where the operation lies in the first word with the last one the block knows. -/
structure BlockForm where
  cmd : Instr
  code : Nat
  len : Nat
  operands : List Nat
  results : List Nat
  lo : Nat
  bits : Nat
  top : Nat

/-- The block requests whose operation stands in their first word; a WRITE of an update has 4,096 bytes more. -/
def isBlockForm (b : Box) (bad : Option Nat) (f : BlockForm) : Prop := f ∈ [
  ⟨.blockForce b, 0x0101, 8, [PDIR_FVAL_VAL.addr], [PDIR_FRES_DONE.addr], 30, 2, 2⟩,
  ⟨.blockValueChange b, 0x0112, 68, (List.range 16).map fun n => (CXE_VCHG_DATA_DATA n).addr, [CXE_VCHG_RES_DONE.addr], 30, 2, 2⟩,
  ⟨.blockLoop b, 0x0103, 20, (List.range 4).map fun n => (CLE_CVAL_VAL n).addr, [CLE_CRES_DONE.addr], 28, 4, 5⟩,
  ⟨.blockPreset b, 0x0104, 12, [MTR_CVAL_LO_VAL_LO.addr, MTR_CVAL_HI_VAL_HI.addr], [MTR_CRES_DONE.addr], 28, 4, 1⟩,
  ⟨.blockFio b, 0x0105, 4, [], [FIO_CRES_DONE.addr], 28, 4, 1⟩, ⟨.blockFbe b, 0x0106, 4, [], [FBE_CRES_DONE.addr], 28, 4, 2⟩,
  ⟨.blockPlk b, 0x0108, 4, [], [PLK_CRES_DONE.addr], 28, 4, 2⟩,
  ⟨.blockGrn b bad, 0x010A, 8, [GRN_RSEQ_S.addr], [GRN_RRES_DONE.addr, GRN_RNEXT_NEXT.addr], 28, 4, 4⟩,
  ⟨.blockWell b, 0x010B, 20, [0x400B0030, 0x400B0034, 0x400B0038, 0x400B003C], [WELL_CRES_DONE.addr], 28, 4, 3⟩,
  ⟨.blockPwr b, 0x010C, 4, [], [PWR_CRES_DONE.addr], 28, 4, 2⟩,
  ⟨.blockUpd b, 0x0110, 8, [UPD_ARG_W.addr], [UPD_RES_DONE.addr, UPD_RES_DET_DETAIL.addr], 28, 4, 8⟩]

/-- The state in which the command has begun and its operand words stand in their registers. -/
def blockOperands (s : State) (b : Box) (c : HostCmd) (regs : List Nat) : State :=
  (regs.zipIdx 1).foldl (fun s x => s.writeReg x.1 (hostArg c x.2)) (hostBegun s b)

/-- Bytes of a buffer of registers. -/
def bufferBytes (s : State) (a n : Nat) : List Byte := ((List.range ((n + 3) / 4)).flatMap fun k => leBytes 4 (regWord s (a + 4 * k))).take n

/-- The data of a block request's result: its registers and output bytes (Table 16-6). -/
def blockData (u : State) (code : Nat) (regs : List Nat) : List Byte :=
  regs.flatMap (fun a => leBytes 4 (regWord u a)) ++
    (if code = 0x0109 then bufferBytes u (KSU_OBUF_W 0).addr (u.rd KSU_CRES_OUTLEN)
    else if code = 0x010A then bufferBytes u 0x400A1000 (32 * u.rd GRN_RRES_NREC) else [])

/-- The BUSY reason of a block's result. -/
def blockReason (u : State) (code w : Nat) : Nat :=
  if code = 0x0101 ∨ code = 0x0110 then bitsOf w 16 8
  else if w % 65536 = 0x0308 ∧ u.answer.code = 0x0308 then u.answer.reason else 0

/-- The command ends with the result that the block shows in state `u`, and waits where it shows none yet. -/
def blockEnds (i : Instr) (s : State) (b : Box) (c : HostCmd) (u : State) (regs : List Nat) : Prop :=
  let w := regWord u (regs.headD 0)
  exec i s = .next (if bitsOf w 31 1 = 1 then
    u.finishCmd b c (w % 65536) (blockReason u c.code w) (blockData u c.code regs) else u)

/-- The operations of the block requests, by code and operation, as the commands that the blocks themselves take: with the tenant of
the session in place of the one in the arguments. -/
def isBlockOp (b : Box) (c : HostCmd) (ten : Tenant) (bad : Option Nat) (code op : Nat) (k : Instr) : Prop :=
  let w := hostArg c 0
  let src := boxSource b
  let loop := Fin.ofNat 128 w
  (code, op, k) ∈ [(0x0112, 1, Instr.valueChangeData ten (Fin.ofNat 16 (bitsOf w 20 4)) (BitVec.ofNat 19 w)),
   (0x0112, 2, .valueChangePreset ten (BitVec.ofNat 12 w)), (0x0103, 1, .loopAuto ten loop),
   (0x0103, 2, .loopManual ten loop (bitsOf w 27 1 == 1)), (0x0103, 3, .loopManout ten loop), (0x0103, 4, .loopReset ten loop),
   (0x0103, 5, .loopCoef ten loop (Fin.ofNat 4 (bitsOf w 24 2))),
   (0x0104, 1, .meterPreset ten (Fin.ofNat 64 w) (Fin.ofNat 16 (bitsOf w 24 4))), (0x0105, 1, .fioReset ten (Fin.ofNat 256 w)),
   (0x0106, 1, .frameCancel ten (Fin.ofNat 4096 w)), (0x0106, 2, .busRecover ten (Fin.ofNat 4096 w)),
   (0x0108, 1, .pairRelease ten), (0x0108, 2, .pairResync ten), (0x010A, 1, .grnRead src ten (BitVec.ofNat 7 w) bad),
   (0x010A, 2, .grnFreeze src ten), (0x010A, 3, .grnThaw src ten), (0x010A, 4, .grnFlush ten), (0x010B, 1, .wellSet ten),
   (0x010B, 2, .wellArm ten (Fin.ofNat 4 w)), (0x010B, 3, .wellDisarm ten (Fin.ofNat 4 w)),
   (0x010C, 1, .setlvl ten (Fin.ofNat 4 (bitsOf w 26 2))), (0x010C, 2, .sleepRequest ten (Fin.ofNat 4 (bitsOf w 26 2))),
   (0x0110, 1, .updateOpen src ten), (0x0110, 3, .updateFinish src ten), (0x0110, 4, .updateInstall src ten),
   (0x0110, 5, .updateConfirm src ten), (0x0110, 6, .updateFallback src ten), (0x0110, 7, .updateAbort src ten),
   (0x0110, 8, .updateStatus src ten)]

/-- The key operations by their number in KSU_CMD. -/
def isKeyOp (c : HostCmd) (ten : Tenant) (op : Nat) (k : Instr) : Prop :=
  let w := hostArg c 0
  let slot : Byte := BitVec.ofNat 8 w
  let aux : Byte := BitVec.ofNat 8 (w / 256)
  (op, k) ∈ [(1, Instr.ksuGenerate ten slot), (2, .ksuImport ten slot aux), (3, .ksuDerive ten slot aux), (4, .ksuExport ten slot aux),
   (5, .ksuPubkey ten slot), (6, .ksuInvalidate ten slot), (7, .ksuReclaim ten slot), (8, .ksuAttest ten slot), (9, .ksuCert ten slot),
   (10, .ksuSign ten slot), (11, .ksuVerify ten slot), (12, .ksuEncrypt ten slot), (13, .ksuDecrypt ten slot), (14, .ksuMac ten slot),
   (15, .ksuMacv ten slot), (16, .ksuLcset ten false false), (17, .ksuNonce ten)]

/-- Block requests (R446, R447): refused without session or of another length; operands first, then the operation with the session's
tenant and the source; the block's result in its registers, when it shows one. That an operation which the block ignores is
answered with the registers as they stand, and that a request waits while another mailbox's is served, are the model's choices (log
entry 22). -/
def blockRequests : Prop :=
  ∀ (s : State) (b : Box) (c : HostCmd) (bad : Option Nat),
    let w := hostArg c 0
    let one (x : Instr × Nat × Nat) : Prop :=
      (∃ f, isBlockForm b bad f ∧ x = (f.cmd, f.code, if f.code = 0x0110 ∧ bitsOf w 28 4 = 2 then 4104 else f.len)) ∨
      x ∈ [(Instr.blockCxeCmd b, 0x0102, 4), (.blockBackup b, 0x011B, 8), (.blockKsu b, 0x0109, max 12 (12 + bitsOf (hostArg c 2) 16 12))]
    (∀ x, one x →
      ((s.box b).cmd = none ∨ (s.box b).begun = true ∨ s.serving = false → exec x.1 s = .next s) ∧
      ((s.box b).cmd = some c → c.code ≠ x.2.1 ∨ ¬ hostAlone s b x.2.1 → exec x.1 s = .next s) ∧
      (hostWaits s b c x.2.1 → hostAlone s b x.2.1 → (s.boxTen b = none → hostEnds x.1 s b c s 0x1003 0 []) ∧
        (s.boxTen b ≠ none → c.args.length ≠ x.2.2 → hostEnds x.1 s b c s 0x1005 0 []))) ∧
    (∀ ten : Tenant, s.boxTen b = some ten.val →
      (∀ f, isBlockForm b bad f → hostWaits s b c f.code → hostAlone s b f.code → c.args.length = f.len →
        let y := blockOperands s b c f.operands
        let op := bitsOf w f.lo f.bits
        (op = 0 ∨ f.top < op → let r := regWord y (f.results.headD 0)
          hostEnds f.cmd s b c y (r % 65536) (blockReason y c.code r) (blockData y c.code f.results)) ∧
        (∀ k, isBlockOp b c ten bad f.code op k → ∃ u, exec k y = .next u ∧ blockEnds f.cmd s b c u f.results) ∧
        -- force and release, through PDIR port 8 for the host and 10 for the others
        (f.code = 0x0101 → ∀ d h, h = bitsOf w 0 13 →
          (forceOpen s → tenantEnabled s ten.val → (s.point h).defn = some d → visAdmits d.vis ten.val d.owner →
            d.acc.testBit (accBit ten.val d.owner 2) = true → (∀ j ∈ s.pdir.jobs, j.handle ≠ h) → s.plk.forces = [] →
            (op = 1 → s.pdir.shadow = none → ∃ u, exec f.cmd s = .next u ∧ u.hpt = (hostBegun s b).hpt ∧
              (u.point h).forced = true ∧ (u.point h).ften = ten.val ∧
              (u.point h).fval = (if d.type = .bool then (if hostArg c 1 = 0 then 0 else 1) else BitVec.ofNat 32 (hostArg c 1))) ∧
            (op = 2 → (s.point h).forced = true → ∃ u, exec f.cmd s = .next u ∧ u.hpt = (hostBegun s b).hpt ∧
              (u.point h).forced = false) ∧
            (op = 2 → (s.point h).forced = false → ∃ u data, hostEnds f.cmd s b c u 0x0306 0 data ∧ u.pdir.points = s.pdir.points)))) ∧
      -- RESTART
      (hostWaits s b c 0x0102 → hostAlone s b 0x0102 → c.args.length = 4 →
        (bitsOf w 28 4 ≠ 1 → hostEnds (.blockCxeCmd b) s b c (hostBegun s b) 0x1004 0 []) ∧
        (bitsOf w 28 4 = 1 → ∃ u, exec (.cxeRestart ten) (hostBegun s b) = .next u ∧
          hostEnds (.blockCxeCmd b) s b c u u.answer.code u.answer.reason (leBytes 4 u.answer.code))) ∧
      -- backup memory
      (hostWaits s b c 0x011B → hostAlone s b 0x011B → c.args.length = 8 →
        (16 ≤ w → ∃ code reason, hostEnds (.blockBackup b) s b c (hostBegun s b) code reason (leBytes 4 (regWord s WELL_CRES_DONE.addr))) ∧
        (w < 16 → ∃ u, exec (.backupMemoryWrite ten (Fin.ofNat 16 w) (BitVec.ofNat 32 (hostArg c 1))) (hostBegun s b) = .next u ∧
          blockEnds (.blockBackup b) s b c u [WELL_CRES_DONE.addr])) ∧
      -- keys
      (let n := bitsOf (hostArg c 2) 16 12;
        hostWaits s b c 0x0109 → hostAlone s b 0x0109 → c.args.length = 12 + n →
        let y := (List.range (min 512 ((n + 3) / 4))).foldl (fun s k => s.writeReg (KSU_IBUF_W k).addr (leAt c.args (12 + 4 * k) 4))
          (blockOperands s b c [KSU_CARG0_ARG.addr, KSU_CARG1_INLEN.addr])
        (bitsOf w 27 5 = 0 ∨ 17 < bitsOf w 27 5 → let r := regWord y KSU_CRES_DONE.addr
          hostEnds (.blockKsu b) s b c y (r % 65536) (blockReason y c.code r) (blockData y c.code [KSU_CRES_DONE.addr])) ∧
        (∀ k, isKeyOp c ten (bitsOf w 27 5) k → ∃ u, exec k y = .next u ∧ blockEnds (.blockKsu b) s b c u [KSU_CRES_DONE.addr])) ∧
      -- a block of an update image
      (hostWaits s b c 0x0110 → hostAlone s b 0x0110 → c.args.length = 4104 → bitsOf w 28 4 = 2 →
        let y := (List.range 1024).foldl (fun s k => s.writeReg (0x40101000 + 4 * k) (leAt c.args (8 + 4 * k) 4))
          (blockOperands s b c [UPD_ARG_W.addr])
        ∃ u, exec (.updateWrite (boxSource b) ten (BitVec.ofNat 15 w)) y = .next u ∧
          blockEnds (.blockUpd b) s b c u [UPD_RES_DONE.addr, UPD_RES_DET_DETAIL.addr]))

/-- The commands of Table 16-5 but block requests: refusals in the order source, session, length, tenant (the order is the model's, log
entry 22); STATUS, SESSION, points, registers, images, reports and bulk windows. -/
def serviceCommands : Prop :=
  ∀ (s : State) (b : Box) (c : HostCmd),
    let x := hostBegun s b
    let arg (o n : Nat) : Nat := leAt c.args o n
    let len := c.args.length
    let list : List (Instr × Nat) := [(.hpStatus b, 0x0002), (.hpPread b, 0x0010), (.hpPwrite b, 0x0011), (.hpRegrd b, 0x0020),
      (.hpImage b, 0x0030), (.reportRead b, 0x0031), (.reportAck b, 0x0032)]
    -- finishCmd keeps the result for its mailbox
    (∀ code reason data, (s.box b).cmd = some c → let t := s.finishCmd b c code reason data
      t.box b = { s.box b with begun := true, done := some (resultRec c.code c.seq code reason data) } ∧
      (∀ o, o ≠ b → t.box o = s.box o) ∧ t = { s with hpt := t.hpt }) ∧
    (∀ i, i ∈ list →
      ((s.box b).cmd = none ∨ (s.box b).begun = true ∨ s.serving = false → exec i.1 s = .next s) ∧
      ((s.box b).cmd = some c → c.code ≠ i.2 → exec i.1 s = .next s) ∧
      (hostWaits s b c i.2 → i.2 ≠ 2 → s.boxTen b = none → hostEnds i.1 s b c s 0x1003 0 [])) ∧
    -- STATUS
    (hostWaits s b c 0x0002 → (len ≠ 0 → hostEnds (.hpStatus b) s b c s 0x1005 0 []) ∧
      (len = 0 → let regs := [LTU_STAT_STATE, PLK_STAT_ROLE, CXE_STAT_LOADED, UPD_STAT_STATE, PWR_STAT_LVL, HLT_STAT_MFAULT].flatMap (fun (f : Fld) =>
          leBytes 4 (regWord s f.addr));
        (b = .host → s.hpt.host.nonce.length = 16 → hostEnds (.hpStatus b) s b c x 0x1000 0 (regs ++ s.hpt.host.nonce)) ∧
        (b = .service → s.hpt.service.nonce.length = 16 → hostEnds (.hpStatus b) s b c x 0x1000 0 (regs ++ s.hpt.service.nonce)) ∧
        (b ≠ .host → b ≠ .service → ∃ (u : State) (nonce : List Byte), nonce.length = 16 ∧ hostEnds (.hpStatus b) s b c u 0x1000 0 (regs ++ nonce) ∧
          u = { x with free := u.free }))) ∧
    -- SESSION: the source's nonce is drawn anew whatever the outcome
    (∀ host : Bool, b = (if host then Box.host else .service) → let i := Instr.hpSession host
      let ends (u : State) (code : Nat) : Prop := hostEnds i s b c (u.drawNonce host) code 0 []
      ((u : State) → ((u.drawNonce host).portState host).nonce = openBytes u 16) ∧
      ((s.box b).cmd = none ∨ (s.box b).begun = true ∨ s.serving = false → exec i s = .next s) ∧
      (hostWaits s b c 0x0003 → (len ≠ 20 → ends x 0x1005) ∧ (len = 20 →
        (arg 0 1 = 0xFF → ∃ u, ends u 0x1000 ∧ (u.portState host).session = none ∧ u.pdir = s.pdir ∧
          ((s.portState host).session ≠ none → (u.portState host).bulk = none ∧ (host = true → u.rd HPT_STAT_SESS = 0))) ∧
        (arg 0 1 ≠ 0xFF →
          let proof (k : KeySlot) : Prop := fit 16 (Config.cmac k.material (fit 16 (s.portState host).nonce ++
            [if host then 1 else 3])) = slice c.args 4 16
          (∀ k, s.netKey (arg 0 1) = .ok k → proof k → k.tenant < 64 → ∃ u, ends u 0x1000 ∧
            (u.portState host).session = some k.tenant ∧ (u.portState host).bulk = none ∧ u.pdir = s.pdir ∧
            (host = true → u.rd HPT_STAT_SESS = 1 ∧ u.rd HPT_STAT_TEN = k.tenant)) ∧
          ((∀ k, s.netKey (arg 0 1) = .ok k → ¬ proof k) → ∃ u, ends u 0x1007 ∧
            (u.portState host).session = (s.portState host).session ∧ (u.portState host).bulk = (s.portState host).bulk ∧
            u.pdir = s.pdir))))) ∧
    -- PREAD, PWRITE
    (hostWaits s b c 0x0010 → ∀ ten, s.boxTen b = some ten →
      let n := arg 0 1
      let whole := 1 ≤ n ∧ n ≤ 64 ∧ len = 2 + 2 * n
      let h (k : Nat) : Nat := arg (2 + 2 * k) 2
      (len < 2 → hostEnds (.hpPread b) s b c s 0x1005 0 []) ∧ (2 ≤ len → ¬ whole → hostEnds (.hpPread b) s b c x 0x1000 0 [0x01, 0x0A, 0, 0]) ∧
      (whole → (∀ k < n, ∃ d, pointReadable s ten (h k % 8192) d) → hostEnds (.hpPread b) s b c x 0x1000 0
        ([0x00, 0x0A, 0, BitVec.ofNat 8 n] ++ (List.range n).flatMap fun k => let p := s.point (h k % 8192)
          [0, 0, 0, (p.elem 1).truncate 8] ++ leBytes 4 (p.elem (h k / 8192)).toNat ++ leBytes 4 (p.elem 2).toNat)) ∧
      (whole → n = 1 → tenantEnabled s ten → (s.point (h 0 % 8192)).defn = none → ∃ u, u.pdir = s.pdir ∧
        hostEnds (.hpPread b) s b c u 0x1000 0 [0x00, 0x0A, 0, 1, 0x01, 0x03, 0, 0, 0, 0, 0, 0, 0, 0, 0, 0])) ∧
    (hostWaits s b c 0x0011 → ∀ ten, s.boxTen b = some ten →
      let n := arg 0 1
      let whole := 1 ≤ n ∧ n ≤ 64 ∧ len = 4 + 8 * n
      (len < 4 → hostEnds (.hpPwrite b) s b c s 0x1005 0 []) ∧
      (4 ≤ len → ¬ whole → hostEnds (.hpPwrite b) s b c x 0x1000 0 [0x01, 0x0A, 0, 0]) ∧
      (whole → n = 1 → ∀ d, pointWritable s ten (arg 4 2) d → let v := BitVec.ofNat 32 (arg 8 4)
        (arg 6 1 = d.type.code → ∃ u, hostEnds (.hpPwrite b) s b c u 0x1000 0 [0x00, 0x0A, 0, 1, 0, 0, 0, 0] ∧ u.regs = s.regs ∧
          u.point (arg 4 2) = { s.point (arg 4 2) with
            value := if d.type = .bool then (if v = 0 then 0 else 1) else v
            qual := 0, ts := BitVec.ofNat 32 s.ltu.now, upd := (s.point (arg 4 2)).upd + 1 } ∧
          ∀ k, k ≠ arg 4 2 → u.point k = s.point k) ∧
        (arg 6 1 ≠ d.type.code → ∃ u, hostEnds (.hpPwrite b) s b c u 0x1000 0 [0x00, 0x0A, 0, 1, 0x04, 0x03, 0, 0] ∧
          u.pdir = s.pdir))) ∧
    -- REGRD
    (hostWaits s b c 0x0020 → ∀ ten, s.boxTen b = some ten → let a := arg 0 4
      let n := arg 4 4
      let i := Instr.hpRegrd b
      (len ≠ 8 → hostEnds i s b c s 0x1005 0 []) ∧ (len = 8 → ten ≠ 0 → hostEnds i s b c s 0x1006 0 []) ∧
      (len = 8 → ten = 0 → (n = 0 ∨ 256 < n → hostEnds i s b c x 0x1005 0 []) ∧
        (1 ≤ n → n ≤ 256 → a % 4 ≠ 0 → hostEnds i s b c x 0x1000 0 (List.replicate (4 * n) 0)) ∧
        (1 ≤ n → n ≤ 256 → a % 4 = 0 → 0x10000000 ≤ a → a + 4 * n ≤ 0x10040000 → ∃ u,
          hostEnds i s b c u 0x1000 0 (s.bytes a (4 * n)) ∧ u = { x with answer := u.answer }) ∧
        (n = 1 → a % 4 = 0 → inWindows a = true → s.latchingRead a = none → s.derivedWord a = none → ∃ u,
          hostEnds i s b c u 0x1000 0 (leBytes 4 (regWord s a)) ∧ (∀ f ∈ regFields a, f.acc = .rc → u.rd ⟨a, f.lo, f.width⟩ = 0) ∧
          u.rest = x.rest))) ∧
    -- IMAGE
    (hostWaits s b c 0x0030 → ∀ ten, s.boxTen b = some ten → let off := arg 0 4
      let i := Instr.hpImage b
      let submit := arg 4 4 % 2 = 1
      let bulk := arg 4 4 / 2 % 2 = 1
      let area := s.stagingOf b
      let stages (u : State) (bs : List Byte) : Prop := (∀ k, sget 0 (u.stagingOf b) k =
          if off ≤ k ∧ k < off + bs.length then bs.getD (k - off) 0 else sget 0 area k) ∧ u = { x with hpt := u.hpt } ∧
        ∀ o, u.box o = x.box o
      (len < 8 → hostEnds i s b c s 0x1005 0 []) ∧ (8 ≤ len → ten ≠ 0 → hostEnds i s b c s 0x1006 0 []) ∧
      (8 ≤ len → ten = 0 → swf 0 area = true →
        (bulk → len ≠ 16 ∨ s.bulkOf b = none → hostEnds i s b c x 0x1005 0 []) ∧
        (∀ base size, bulk → len = 16 → s.bulkOf b = some (base, size) →
          (size < arg 8 4 + arg 12 4 → hostEnds i s b c x 0x1005 0 []) ∧
          (¬ submit → arg 8 4 + arg 12 4 ≤ size → off + arg 12 4 ≤ 0x400000 → ∃ u, hostEnds i s b c u 0x1000 0 [] ∧
            stages u (s.bytes (base + arg 8 4) (arg 12 4)))) ∧
        (¬ bulk → let bs := c.args.drop 8
          (0x400000 < off + bs.length → hostEnds i s b c x 0x1005 0 []) ∧
          (off + bs.length ≤ 0x400000 → ∃ u, stages u bs ∧ (¬ submit → hostEnds i s b c u 0x1000 0 []) ∧
            (submit → (∀ r, u.supGate = some r → hostEnds i s b c u 0x0308 r []) ∧
              (u.supGate = none → s.rd PLK_STAT_TWIN_SYNCED = 0 →
                let image := (List.range (off + bs.length)).map fun k => sget 0 (u.stagingOf b) k
                let r := (u.submit image).2
                hostEnds i s b c (u.submit image).1 0x1000 0 (leBytes 2 r.code ++ leBytes 1 r.sect ++ leBytes 1 r.task ++
                  leBytes 4 r.offset ++ leBytes 4 r.a ++ leBytes 4 r.b))))))) ∧
    -- reports
    (hostWaits s b c 0x0031 → ∀ ten, s.boxTen b = some ten → let i := Instr.reportRead b
      let found := s.mtr.store.filter fun r => r.tenant == arg 0 1 && !r.acked && decide (arg 4 4 ≤ r.seq)
      let room := min 65520 (arg 8 4)
      (len ≠ 12 → hostEnds i s b c s 0x1005 0 []) ∧
      (len = 12 → (ten ≠ 0 → ten ≠ arg 0 1 → hostEnds i s b c x 0x1006 0 []) ∧
        (ten = 0 ∨ ten = arg 0 1 → ((found.flatMap fun r => r.bytes).length ≤ room →
            hostEnds i s b c x 0x1000 0 (found.flatMap fun r => r.bytes)) ∧
          ∃ first rest, found = first ++ rest ∧ (first.flatMap fun r => r.bytes).length ≤ room ∧
            (∀ r, rest.head? = some r → room < (first.flatMap fun r => r.bytes).length + r.bytes.length) ∧
            hostEnds i s b c x 0x1000 0 (first.flatMap fun r => r.bytes)))) ∧
    (hostWaits s b c 0x0032 → ∀ ten, s.boxTen b = some ten → let i := Instr.reportAck b
      let hit (r : StoredReport) : Bool := r.tenant == arg 0 1 && !r.acked && decide (r.seq ≤ arg 4 4)
      (len ≠ 8 → hostEnds i s b c s 0x1005 0 []) ∧
      (len = 8 → (ten ≠ 0 → ten ≠ arg 0 1 → hostEnds i s b c x 0x1006 0 []) ∧
        (ten = 0 ∨ ten = arg 0 1 → ∃ u, hostEnds i s b c u 0x1000 0 (leBytes 4 (s.mtr.store.filter hit).length) ∧
          u = { x with mtr := { s.mtr with store := s.mtr.store.map fun r => if hit r then { r with acked := true } else r } }))) ∧
    -- bulk windows
    (∀ host : Bool, b = (if host then Box.host else .service) →
      let p := s.portState host
      (∀ i, i ∈ [(Instr.bulkOpen host, 0x0040), (.bulkClose host, 0x0041)] →
        ((s.box b).cmd = none ∨ (s.box b).begun = true ∨ s.serving = false → exec i.1 s = .next s) ∧
        (hostWaits s b c i.2 → s.boxTen b = none → hostEnds i.1 s b c s 0x1003 0 [])) ∧
      (hostWaits s b c 0x0040 → s.boxTen b ≠ none → let i := Instr.bulkOpen host
        let n := arg 0 4
        let legal := 1 ≤ n ∧ n ≤ 0x1000000 ∧ n % 65536 = 0
        (len ≠ 4 → hostEnds i s b c s 0x1005 0 []) ∧
        (len = 4 → (p.bulk ≠ none ∨ ¬ legal → hostEnds i s b c x 0x1008 0 []) ∧
          (p.bulk = none → legal → ∃ u base, hostEnds i s b c u 0x1000 0 (leBytes 4 base) ∧ 0x80000000 ≤ base ∧ base + n ≤ 0x90000000 ∧
            u.portState host = { x.portState host with bulk := some (base, n) } ∧ u.portState (!host) = x.portState (!host) ∧
            u = { x with hpt := u.hpt, free := u.free }))) ∧
      (hostWaits s b c 0x0041 → s.boxTen b ≠ none → let i := Instr.bulkClose host
        (len ≠ 0 → hostEnds i s b c s 0x1005 0 []) ∧
        (len = 0 → ∃ u, hostEnds i s b c u 0x1000 0 [] ∧ u.portState host = { x.portState host with bulk := none } ∧
          u.portState (!host) = x.portState (!host) ∧ u = { x with hpt := u.hpt })))

/-- The commands that a mailbox carries out (R230, R317, R442, R446, R447, R449): those of Table 16-5 and the block requests of Table
16-6. -/
def Obligations.HostCommands : Prop := serviceCommands ∧ blockRequests

/-- The channel halts with a code, which stands in STATUS of the descriptor at `a` (R453, R455). -/
def millHalts (s t : State) (n a code : Nat) : Prop :=
  t.rd (MILL_CH_STAT_STATE n) = 3 ∧ t.rd (MILL_CH_STAT_CODE n) = code ∧ t.rd MILL_STAT_BUSY = 0 ∧ t.mill.running = none ∧
  (t.rd MILL_EVT_ERR).testBit n = true ∧ t.rd (MILL_CH_CUR_ADDR n) = s.rd (MILL_CH_CUR_ADDR n) ∧ t.word (a + 0x14) = BitVec.ofNat 32 code

/-- A range lies in SUP RAM, which every channel may read and write. -/
def inSupRam (a n : Nat) : Prop := 0x10000000 ≤ a ∧ a + n ≤ 0x10040000

/-- Two ranges have no byte in common. -/
def apartFrom (a n b m : Nat) : Prop := a + n ≤ b ∨ b + m ≤ a

/-- Mill (R451 to R455): START, the lowest pending channel, a descriptor's checks in their order, its bytes and its end, and bus errors
of each kind. A descriptor is one command here, the model's choice (log entry 23). -/
def Obligations.MillChains : Prop :=
  ∀ (s : State),
    (∀ (ch : Fin 16) (desc : BitVec 27), let n := ch.val
      let st := s.rd (MILL_CH_STAT_STATE n)
      (st ∉ [0, 3] ∨ s.rd (MILL_CH_CFG_EN n) ≠ 1 → exec (.millStart ch desc) s = .next s) ∧
      (st ∈ [0, 3] → s.rd (MILL_CH_CFG_EN n) = 1 → ∃ t, exec (.millStart ch desc) s = .next t ∧ t.rd (MILL_CH_STAT_STATE n) = 1 ∧
        t.rd (MILL_CH_CUR_ADDR n) = 32 * desc.toNat ∧ t.rd (MILL_CH_BYTES_BYTES n) = 0 ∧ (t.rd MILL_STAT_PEND).testBit n = true ∧
        (∀ k, k ≠ n → s.rd MILL_STAT_PEND < 65536 → (t.rd MILL_STAT_PEND).testBit k = (s.rd MILL_STAT_PEND).testBit k) ∧
        SameBut [MILL_CH_STAT_STATE n, MILL_CH_CUR_ADDR n, MILL_CH_BYTES_BYTES n, MILL_STAT_PEND] s t ∧ t.rest = s.rest)) ∧
    (let pend (k : Nat) : Bool := (s.rd MILL_STAT_PEND).testBit k;
      (s.powered = false ∨ s.mill.running ≠ none ∨ (∀ k < 16, pend k = false) → exec .millChannelStart s = .next s) ∧
      (∀ n < 16, s.powered = true → s.mill.running = none → s.rd MILL_STAT_PEND < 65536 → pend n = true → (∀ k < n, pend k = false) →
        ∃ t, exec .millChannelStart s = .next t ∧ t.mill.running = some n ∧ t.rd (MILL_CH_STAT_STATE n) = 2 ∧ t.rd MILL_STAT_BUSY = 1 ∧
          t.rd MILL_STAT_ACT = n ∧ (t.rd MILL_STAT_PEND).testBit n = false ∧
          (∀ k, k ≠ n → (t.rd MILL_STAT_PEND).testBit k = pend k) ∧
          SameBut [MILL_CH_STAT_STATE n, MILL_STAT_BUSY, MILL_STAT_ACT, MILL_STAT_PEND] s t ∧ t.pdir = s.pdir ∧ t.hpt = s.hpt)) ∧
    (s.mill.running = none ∨ s.powered = false → exec .descriptorEnd s = .next s ∧
      ∀ err ecc, exec (.millBusError err ecc) s = .next s) ∧
    (∀ ch : Fin 16, s.mill.running = some ch.val → s.powered = true →
      let n := ch.val
      let a := s.rd (MILL_CH_CUR_ADDR n)
      let field (k : Nat) : Nat := (s.word (a + 4 * k)).toNat
      let next := field 0
      let src := field 1
      let dst := field 2
      let count := field 3 % 2 ^ 24
      let sinc : Bool := (field 4).testBit 0
      let dinc : Bool := (field 4).testBit 1
      let irq : Bool := (field 4).testBit 2
      let wide := sinc = true ∧ dinc = true
      let span (inc : Bool) : Nat := if inc then count else 4
      let placed := a % 32 = 0 ∧ inSupRam a 32
      let reserved := 2 ^ 24 ≤ field 3 ∨ 8 ≤ field 4
      let skew := ¬ wide ∧ (src % 4 ≠ 0 ∨ dst % 4 ≠ 0 ∨ count % 4 ≠ 0)
      let refuses (code : Nat) : Prop := ∃ t, exec .descriptorEnd s = .next t ∧ millHalts s t n a code ∧
        t.rd (MILL_CH_CNT_CNT n) = count ∧ ∀ m, (m < a + 0x14 ∨ a + 0x18 ≤ m) → t.byte m = s.byte m
      -- the checks
      (a % 32 ≠ 0 ∨ (∀ r ∈ mapRegions, a < r.1 ∨ r.2 < a) → ∃ t, exec .descriptorEnd s = .next t ∧ t.rd (MILL_CH_STAT_STATE n) = 3 ∧
        t.rd (MILL_CH_STAT_CODE n) = 0x1014 ∧ (t.rd MILL_EVT_ERR).testBit n = true ∧ t.mill.running = none ∧
        ∀ m, (m < a + 0x14 ∨ a + 0x18 ≤ m) → t.byte m = s.byte m) ∧
      (placed → (count = 0 → refuses 0x1011) ∧ (count ≠ 0 → (reserved → refuses 0x1014) ∧ (¬ reserved → (skew → refuses 0x1013) ∧
        (¬ skew → (s.admitsAccess (.mill ch) .read src (span sinc) = false ∨ s.admitsAccess (.mill ch) .write dst (span dinc) = false →
          refuses 0x1012) ∧
        -- the bytes
        (inSupRam src (span sinc) → inSupRam dst (span dinc) → apartFrom src (span sinc) dst (span dinc) → apartFrom a 32 dst (span dinc) →
          (∃ t, exec .descriptorEnd s = .next t ∧ t.word (a + 0x14) = 0x1010 ∧ t.word (a + 0x18) = 0 ∧
            t.rd (MILL_CH_CNT_CNT n) = 0 ∧ t.rd (MILL_CH_STAT_CODE n) = 0x1010 ∧
            t.rd (MILL_CH_BYTES_BYTES n) = (s.rd (MILL_CH_BYTES_BYTES n) + count) % 2 ^ 32 ∧
            ((irq = true ∨ next = 0) → (t.rd MILL_EVT_DONE).testBit n = true) ∧
            (next = 0 → t.rd (MILL_CH_STAT_STATE n) = 0 ∧ t.rd MILL_STAT_BUSY = 0 ∧ t.mill.running = none) ∧
            (next ≠ 0 → t.rd (MILL_CH_CUR_ADDR n) = next ∧ t.mill.running = some n ∧
              t.rd (MILL_CH_STAT_STATE n) = s.rd (MILL_CH_STAT_STATE n)) ∧
            (sinc = true → dinc = true → ∀ k < count, t.byte (dst + k) = s.byte (src + k)) ∧
            (sinc = true → dinc = false → t.word dst = s.word (src + count - 4)) ∧
            (sinc = false → dinc = true → ∀ k < count / 4, t.word (dst + 4 * k) = s.word src) ∧
            (sinc = false → dinc = false → t.word dst = s.word src) ∧
            (∀ m, (m < dst ∨ dst + span dinc ≤ m) → (m < a + 0x14 ∨ a + 0x1C ≤ m) → t.byte m = s.byte m) ∧ t.pdir = s.pdir) ∧
          -- bus errors
          (let w (k : Nat) : Nat := if wide then min count (8 * k - dst % 8) else 4 * k;
            let writes := if wide then (dst % 8 + count + 7) / 8 else count / 4
            let failed (t : State) (ecc : Bool) (code issued : Nat) : Prop := millHalts s t n a code ∧
              t.rd (MILL_CH_CNT_CNT n) = count - w issued ∧ (t.word (a + 0x18)).toNat = count - w issued ∧
              (if ecc then counted s t HLT_ERR_A_UNCORR else counted s t HLT_ERR_A_FABRIC) ∧ t.pdir = s.pdir ∧
              ∀ m, (m < dst ∨ dst + span dinc ≤ m) → (m < a + 0x14 ∨ a + 0x1C ≤ m) → t.byte m = s.byte m
            ∀ (ecc : Bool),
            (∀ (beat issued : Nat) (out : Fin 5),
              (issued ≤ writes → beat < issued → issued ≤ beat + out.val → out.val ≤ issued → ∃ t,
                exec (.millBusError (.write beat issued out) ecc) s = .next t ∧
                failed t ecc (if beat + 1 = writes ∧ out.val = 1 then 0x1016 else 0x1015) issued ∧
                (wide → ∀ k < w (issued - out.val), t.byte (dst + k) = s.byte (src + k))) ∧
              (writes < issued ∨ issued ≤ beat ∨ beat + out.val < issued ∨ issued < out.val →
                exec (.millBusError (.write beat issued out) ecc) s = .next s)) ∧
            (∀ (beat issued : Nat) (out : Fin 5), let reads := if wide then (src % 8 + count + 7) / 8 else count / 4
              let used := if ¬ wide then issued else if w issued = 0 then 0 else (src % 8 + w issued + 7) / 8
              (beat < reads → issued ≤ writes → used ≤ beat → out.val ≤ issued → ∃ t,
                exec (.millBusError (.read beat issued out) ecc) s = .next t ∧ failed t ecc 0x1015 issued ∧
                (wide → ∀ k < w (issued - out.val), t.byte (dst + k) = s.byte (src + k))) ∧
              (reads ≤ beat ∨ writes < issued ∨ beat < used ∨ issued < out.val →
                exec (.millBusError (.read beat issued out) ecc) s = .next s)) ∧
            (∃ t, exec (.millBusError .writeBack ecc) s = .next t ∧ t.rd (MILL_CH_STAT_STATE n) = 3 ∧
              t.rd (MILL_CH_STAT_CODE n) = 0x1014 ∧ (t.rd MILL_EVT_ERR).testBit n = true ∧ t.mill.running = none ∧
              t.rd (MILL_CH_CNT_CNT n) = 0 ∧ (wide → ∀ k < count, t.byte (dst + k) = s.byte (src + k))))))))) ∧
      (placed → ∀ ecc, ∃ t, exec (.millBusError .fetch ecc) s = .next t ∧ millHalts s t n a 0x1015 ∧
        t.word (a + 0x18) = BitVec.ofNat 32 (t.rd (MILL_CH_CNT_CNT n)) ∧
        ∀ m, (m < a + 0x14 ∨ a + 0x1C ≤ m) → t.byte m = s.byte m))
end

