-- ==== Sys2Proof/Laws/Sparse.lean ====
section
/-! SUPPORT. Sparse tables: reading after writing, and the canonical form that every write keeps. -/

namespace Sys2Proof.Machine

variable {β : Type}

@[simp] theorem sget_nil (d : β) (a : Nat) : sget d [] a = d := rfl

theorem sget_sdel_same (d : β) (m : List (Nat × β)) (a : Nat) : sget d (sdel m a) a = d := by
  induction m with
  | nil => rfl
  | cons p t ih =>
    obtain ⟨k, v⟩ := p
    by_cases h : a = k
    · simp [sdel, h]; rw [← h]; exact ih
    · simp [sdel, h, sget, ih]

theorem sget_sdel_other (d : β) (m : List (Nat × β)) {a b : Nat} (h : b ≠ a) : sget d (sdel m a) b = sget d m b := by
  induction m with
  | nil => rfl
  | cons p t ih =>
    obtain ⟨k, v⟩ := p
    by_cases hk : a = k
    · subst hk; simp [sdel, sget, h, ih]
    · by_cases hb : b = k
      · simp [sdel, hk, sget, hb]
      · simp [sdel, hk, sget, hb, ih]

theorem sget_sdelIf (d : β) (p : Nat → Bool) (m : List (Nat × β)) (a : Nat) :
    sget d (sdelIf p m) a = if p a = true then d else sget d m a := by
  induction m with
  | nil => simp [sdelIf]
  | cons q t ih =>
    obtain ⟨k, v⟩ := q
    by_cases hk : p k = true
    · by_cases ha : a = k
      · subst ha; simp [sdelIf, hk, ih]
      · simp [sdelIf, hk, ih, sget, ha]
    · by_cases ha : a = k
      · subst ha; simp [sdelIf, hk, sget]
      · simp [sdelIf, hk, ih, sget, ha]

theorem sdelIf_sub (p : Nat → Bool) (m : List (Nat × β)) : ∀ q ∈ sdelIf p m, q ∈ m := by
  induction m with
  | nil => simp [sdelIf]
  | cons r t ih =>
    obtain ⟨k, v⟩ := r
    intro q hq
    by_cases hk : p k = true
    · simp only [sdelIf, hk, if_true] at hq; exact List.mem_cons_of_mem _ (ih q hq)
    · simp [sdelIf, hk] at hq
      rcases hq with rfl | hq
      · simp
      · exact List.mem_cons_of_mem _ (ih q hq)

theorem sget_sins_same (d : β) (m : List (Nat × β)) (a : Nat) (v : β) (h : sget d m a = d) (hn : ∀ p ∈ m, p.1 ≠ a) :
    sget d (sins m a v) a = v := by
  induction m with
  | nil => simp [sins, sget]
  | cons p t ih =>
    obtain ⟨k, w⟩ := p
    have hk : k ≠ a := hn (k, w) (by simp)
    have ht : ∀ p ∈ t, p.1 ≠ a := fun p hp => hn p (by simp [hp])
    have hs : sget d t a = d := by simpa [sget, Ne.symm hk] using h
    by_cases hl : a < k
    · simp [sins, hl, sget]
    · simp [sins, hl, sget, Ne.symm hk, ih hs ht]

theorem sget_sins_other (d : β) (m : List (Nat × β)) {a b : Nat} (v : β) (h : b ≠ a) :
    sget d (sins m a v) b = sget d m b := by
  induction m with
  | nil => simp [sins, sget, h]
  | cons p t ih =>
    obtain ⟨k, w⟩ := p
    by_cases hl : a < k
    · simp [sins, hl, sget, h]
    · by_cases hb : b = k
      · simp [sins, hl, sget, hb]
      · simp [sins, hl, sget, hb, ih]

theorem sdel_keys (m : List (Nat × β)) (a : Nat) : ∀ p ∈ sdel m a, p.1 ≠ a := by
  induction m with
  | nil => simp [sdel]
  | cons q t ih =>
    obtain ⟨k, v⟩ := q
    by_cases hk : a = k
    · simp only [sdel, hk, if_true]; exact hk ▸ ih
    · intro p hp
      simp [sdel, hk] at hp
      rcases hp with rfl | hp
      · exact fun h => hk h.symm
      · exact ih p hp

variable [DecidableEq β]

/-- A value read where it was written. -/
@[simp] theorem sget_sput_same (d : β) (m : List (Nat × β)) (a : Nat) (v : β) : sget d (sput d m a v) a = v := by
  unfold sput
  split
  · next h => rw [sget_sdel_same, h]
  · exact sget_sins_same d _ a v (sget_sdel_same d m a) (sdel_keys m a)

/-- A write leaves every other key alone. -/
theorem sget_sput_other (d : β) (m : List (Nat × β)) {a b : Nat} (v : β) (h : b ≠ a) :
    sget d (sput d m a v) b = sget d m b := by
  unfold sput
  split
  · exact sget_sdel_other d m h
  · rw [sget_sins_other d _ v h, sget_sdel_other d m h]

omit [DecidableEq β] in
theorem sabove_sdel {a b : Nat} (m : List (Nat × β)) (hs : ∀ p ∈ m, b < p.1) : sabove b (sdel m a) = true := by
  induction m with
  | nil => rfl
  | cons p t ih =>
    obtain ⟨k, v⟩ := p
    by_cases hk : a = k
    · simpa [sdel, hk] using hk ▸ ih (fun p hp => hs p (by simp [hp]))
    · simp [sdel, hk, sabove]; exact hs (k, v) (by simp)

/-- In canonical form every key of the rest lies above the first. -/
theorem swf_above {d : β} {k : Nat} {v : β} {t : List (Nat × β)} (h : swf d ((k, v) :: t) = true) : ∀ p ∈ t, k < p.1 := by
  induction t generalizing k v with
  | nil => simp
  | cons q t ih =>
    obtain ⟨j, w⟩ := q
    simp only [swf, sabove, Bool.and_eq_true, decide_eq_true_eq] at h
    obtain ⟨⟨hk, -⟩, h2⟩ := h
    intro p hp
    simp at hp
    rcases hp with rfl | hp
    · exact hk
    · have : swf d ((j, w) :: t) = true := by simp only [swf, Bool.and_eq_true, decide_eq_true_eq]; exact h2
      exact Nat.lt_trans hk (ih this p hp)

theorem swf_sdel {d : β} {m : List (Nat × β)} (a : Nat) (h : swf d m = true) : swf d (sdel m a) = true := by
  induction m with
  | nil => rfl
  | cons p t ih =>
    obtain ⟨k, v⟩ := p
    have ht : swf d t = true := by simp only [swf, Bool.and_eq_true] at h; exact h.2
    have hv : v ≠ d := by simp only [swf, Bool.and_eq_true, decide_eq_true_eq] at h; exact h.1.2
    by_cases hk : a = k
    · simpa [sdel, hk] using hk ▸ ih ht
    · simp only [sdel, hk, if_false, swf, Bool.and_eq_true, decide_eq_true_eq]
      exact ⟨⟨sabove_sdel t (swf_above h), hv⟩, ih ht⟩

theorem swf_sdelIf {d : β} (p : Nat → Bool) {m : List (Nat × β)} (h : swf d m = true) : swf d (sdelIf p m) = true := by
  induction m with
  | nil => rfl
  | cons q t ih =>
    obtain ⟨k, v⟩ := q
    have ht : swf d t = true := by simp only [swf, Bool.and_eq_true] at h; exact h.2
    have hv : v ≠ d := by simp only [swf, Bool.and_eq_true, decide_eq_true_eq] at h; exact h.1.2
    by_cases hk : p k = true
    · simpa [sdelIf, hk] using ih ht
    · have ha : sabove k (sdelIf p t) = true := by
        have hs : ∀ x ∈ sdelIf p t, k < x.1 := fun x hx => swf_above h x (sdelIf_sub p t x hx)
        cases hc : sdelIf p t with
        | nil => rfl
        | cons y r => simpa [sabove] using hs y (by simp [hc])
      simp [sdelIf, hk, swf, ha, hv, ih ht]

omit [DecidableEq β] in
theorem sabove_sins {a k : Nat} {v : β} (m : List (Nat × β)) (ha : k < a) (hs : sabove k m = true) :
    sabove k (sins m a v) = true := by
  cases m with
  | nil => simpa [sins, sabove] using ha
  | cons p t =>
    obtain ⟨j, w⟩ := p
    by_cases hl : a < j
    · simpa [sins, hl, sabove] using ha
    · simpa [sins, hl, sabove] using hs

theorem swf_sins {d : β} {m : List (Nat × β)} (a : Nat) {v : β} (hv : v ≠ d) (hn : ∀ p ∈ m, p.1 ≠ a) (h : swf d m = true) :
    swf d (sins m a v) = true := by
  induction m with
  | nil => simpa [sins, swf, sabove] using hv
  | cons p t ih =>
    obtain ⟨k, w⟩ := p
    have hk : k ≠ a := hn (k, w) (by simp)
    have h' := h
    simp only [swf, Bool.and_eq_true, decide_eq_true_eq] at h'
    obtain ⟨⟨hs, hw⟩, ht⟩ := h'
    by_cases hl : a < k
    · simp only [sins, hl, if_true, swf, sabove, Bool.and_eq_true, decide_eq_true_eq]
      exact ⟨⟨trivial, hv⟩, ⟨hs, hw⟩, ht⟩
    · simp only [sins, hl, if_false, swf, Bool.and_eq_true, decide_eq_true_eq]
      exact ⟨⟨sabove_sins t (by omega) hs, hw⟩, ih (fun p hp => hn p (by simp [hp])) ht⟩

/-- A write keeps the canonical form. -/
theorem swf_sput {d : β} {m : List (Nat × β)} (a : Nat) (v : β) (h : swf d m = true) : swf d (sput d m a v) = true := by
  unfold sput
  split
  · exact swf_sdel a h
  · next hv => exact swf_sins a hv (sdel_keys m a) (swf_sdel a h)

end Sys2Proof.Machine
end

