-- ==== Sys2Proof/Laws/State.lean ====
section
/-! SUPPORT. What each elementary update of the state does to each field, to register fields and to bytes. -/

namespace Sys2Proof.Machine

/-! `wr` -/
@[simp] theorem State.wr_mem (s : State) (f : Fld) (v : Nat) : (s.wr f v).mem = s.mem := rfl
@[simp] theorem State.wr_ltu (s : State) (f : Fld) (v : Nat) : (s.wr f v).ltu = s.ltu := rfl
@[simp] theorem State.wr_pdir (s : State) (f : Fld) (v : Nat) : (s.wr f v).pdir = s.pdir := rfl
@[simp] theorem State.wr_grn (s : State) (f : Fld) (v : Nat) : (s.wr f v).grn = s.grn := rfl
@[simp] theorem State.wr_well (s : State) (f : Fld) (v : Nat) : (s.wr f v).well = s.well := rfl
@[simp] theorem State.wr_cxe (s : State) (f : Fld) (v : Nat) : (s.wr f v).cxe = s.cxe := rfl
@[simp] theorem State.wr_cle (s : State) (f : Fld) (v : Nat) : (s.wr f v).cle = s.cle := rfl
@[simp] theorem State.wr_mtr (s : State) (f : Fld) (v : Nat) : (s.wr f v).mtr = s.mtr := rfl
@[simp] theorem State.wr_fio (s : State) (f : Fld) (v : Nat) : (s.wr f v).fio = s.fio := rfl
@[simp] theorem State.wr_fbe (s : State) (f : Fld) (v : Nat) : (s.wr f v).fbe = s.fbe := rfl
@[simp] theorem State.wr_net (s : State) (f : Fld) (v : Nat) : (s.wr f v).net = s.net := rfl
@[simp] theorem State.wr_plk (s : State) (f : Fld) (v : Nat) : (s.wr f v).plk = s.plk := rfl
@[simp] theorem State.wr_ksu (s : State) (f : Fld) (v : Nat) : (s.wr f v).ksu = s.ksu := rfl
@[simp] theorem State.wr_pwr (s : State) (f : Fld) (v : Nat) : (s.wr f v).pwr = s.pwr := rfl
@[simp] theorem State.wr_nand (s : State) (f : Fld) (v : Nat) : (s.wr f v).nand = s.nand := rfl
@[simp] theorem State.wr_hlt (s : State) (f : Fld) (v : Nat) : (s.wr f v).hlt = s.hlt := rfl
@[simp] theorem State.wr_cfg (s : State) (f : Fld) (v : Nat) : (s.wr f v).cfg = s.cfg := rfl
@[simp] theorem State.wr_upd (s : State) (f : Fld) (v : Nat) : (s.wr f v).upd = s.upd := rfl
@[simp] theorem State.wr_hpt (s : State) (f : Fld) (v : Nat) : (s.wr f v).hpt = s.hpt := rfl
@[simp] theorem State.wr_mill (s : State) (f : Fld) (v : Nat) : (s.wr f v).mill = s.mill := rfl
@[simp] theorem State.wr_ms (s : State) (f : Fld) (v : Nat) : (s.wr f v).ms = s.ms := rfl
@[simp] theorem State.wr_answer (s : State) (f : Fld) (v : Nat) : (s.wr f v).answer = s.answer := rfl
@[simp] theorem State.wr_announced (s : State) (f : Fld) (v : Nat) : (s.wr f v).announced = s.announced := rfl
@[simp] theorem State.wr_free (s : State) (f : Fld) (v : Nat) : (s.wr f v).free = s.free := rfl
@[simp] theorem State.wr_pending (s : State) (f : Fld) (v : Nat) : (s.wr f v).pending = s.pending := rfl
@[simp] theorem State.wr_byte (s : State) (f : Fld) (v : Nat) (x : Nat) : (s.wr f v).byte x = s.byte x := rfl
/-! `setByte` -/
@[simp] theorem State.setByte_regs (s : State) (a : Nat) (b : Byte) : (s.setByte a b).regs = s.regs := rfl
@[simp] theorem State.setByte_ltu (s : State) (a : Nat) (b : Byte) : (s.setByte a b).ltu = s.ltu := rfl
@[simp] theorem State.setByte_pdir (s : State) (a : Nat) (b : Byte) : (s.setByte a b).pdir = s.pdir := rfl
@[simp] theorem State.setByte_grn (s : State) (a : Nat) (b : Byte) : (s.setByte a b).grn = s.grn := rfl
@[simp] theorem State.setByte_well (s : State) (a : Nat) (b : Byte) : (s.setByte a b).well = s.well := rfl
@[simp] theorem State.setByte_cxe (s : State) (a : Nat) (b : Byte) : (s.setByte a b).cxe = s.cxe := rfl
@[simp] theorem State.setByte_cle (s : State) (a : Nat) (b : Byte) : (s.setByte a b).cle = s.cle := rfl
@[simp] theorem State.setByte_mtr (s : State) (a : Nat) (b : Byte) : (s.setByte a b).mtr = s.mtr := rfl
@[simp] theorem State.setByte_fio (s : State) (a : Nat) (b : Byte) : (s.setByte a b).fio = s.fio := rfl
@[simp] theorem State.setByte_fbe (s : State) (a : Nat) (b : Byte) : (s.setByte a b).fbe = s.fbe := rfl
@[simp] theorem State.setByte_net (s : State) (a : Nat) (b : Byte) : (s.setByte a b).net = s.net := rfl
@[simp] theorem State.setByte_plk (s : State) (a : Nat) (b : Byte) : (s.setByte a b).plk = s.plk := rfl
@[simp] theorem State.setByte_ksu (s : State) (a : Nat) (b : Byte) : (s.setByte a b).ksu = s.ksu := rfl
@[simp] theorem State.setByte_pwr (s : State) (a : Nat) (b : Byte) : (s.setByte a b).pwr = s.pwr := rfl
@[simp] theorem State.setByte_nand (s : State) (a : Nat) (b : Byte) : (s.setByte a b).nand = s.nand := rfl
@[simp] theorem State.setByte_hlt (s : State) (a : Nat) (b : Byte) : (s.setByte a b).hlt = s.hlt := rfl
@[simp] theorem State.setByte_cfg (s : State) (a : Nat) (b : Byte) : (s.setByte a b).cfg = s.cfg := rfl
@[simp] theorem State.setByte_upd (s : State) (a : Nat) (b : Byte) : (s.setByte a b).upd = s.upd := rfl
@[simp] theorem State.setByte_hpt (s : State) (a : Nat) (b : Byte) : (s.setByte a b).hpt = s.hpt := rfl
@[simp] theorem State.setByte_mill (s : State) (a : Nat) (b : Byte) : (s.setByte a b).mill = s.mill := rfl
@[simp] theorem State.setByte_ms (s : State) (a : Nat) (b : Byte) : (s.setByte a b).ms = s.ms := rfl
@[simp] theorem State.setByte_answer (s : State) (a : Nat) (b : Byte) : (s.setByte a b).answer = s.answer := rfl
@[simp] theorem State.setByte_announced (s : State) (a : Nat) (b : Byte) : (s.setByte a b).announced = s.announced := rfl
@[simp] theorem State.setByte_free (s : State) (a : Nat) (b : Byte) : (s.setByte a b).free = s.free := rfl
@[simp] theorem State.setByte_pending (s : State) (a : Nat) (b : Byte) : (s.setByte a b).pending = s.pending := rfl
@[simp] theorem State.setByte_rd (s : State) (a : Nat) (b : Byte) (g : Fld) : (s.setByte a b).rd g = s.rd g := rfl
/-! `answerWord` -/
@[simp] theorem State.answerWord_regs (s : State) (w : Nat) : (s.answerWord w).regs = s.regs := rfl
@[simp] theorem State.answerWord_mem (s : State) (w : Nat) : (s.answerWord w).mem = s.mem := rfl
@[simp] theorem State.answerWord_ltu (s : State) (w : Nat) : (s.answerWord w).ltu = s.ltu := rfl
@[simp] theorem State.answerWord_pdir (s : State) (w : Nat) : (s.answerWord w).pdir = s.pdir := rfl
@[simp] theorem State.answerWord_grn (s : State) (w : Nat) : (s.answerWord w).grn = s.grn := rfl
@[simp] theorem State.answerWord_well (s : State) (w : Nat) : (s.answerWord w).well = s.well := rfl
@[simp] theorem State.answerWord_cxe (s : State) (w : Nat) : (s.answerWord w).cxe = s.cxe := rfl
@[simp] theorem State.answerWord_cle (s : State) (w : Nat) : (s.answerWord w).cle = s.cle := rfl
@[simp] theorem State.answerWord_mtr (s : State) (w : Nat) : (s.answerWord w).mtr = s.mtr := rfl
@[simp] theorem State.answerWord_fio (s : State) (w : Nat) : (s.answerWord w).fio = s.fio := rfl
@[simp] theorem State.answerWord_fbe (s : State) (w : Nat) : (s.answerWord w).fbe = s.fbe := rfl
@[simp] theorem State.answerWord_net (s : State) (w : Nat) : (s.answerWord w).net = s.net := rfl
@[simp] theorem State.answerWord_plk (s : State) (w : Nat) : (s.answerWord w).plk = s.plk := rfl
@[simp] theorem State.answerWord_ksu (s : State) (w : Nat) : (s.answerWord w).ksu = s.ksu := rfl
@[simp] theorem State.answerWord_pwr (s : State) (w : Nat) : (s.answerWord w).pwr = s.pwr := rfl
@[simp] theorem State.answerWord_nand (s : State) (w : Nat) : (s.answerWord w).nand = s.nand := rfl
@[simp] theorem State.answerWord_hlt (s : State) (w : Nat) : (s.answerWord w).hlt = s.hlt := rfl
@[simp] theorem State.answerWord_cfg (s : State) (w : Nat) : (s.answerWord w).cfg = s.cfg := rfl
@[simp] theorem State.answerWord_upd (s : State) (w : Nat) : (s.answerWord w).upd = s.upd := rfl
@[simp] theorem State.answerWord_hpt (s : State) (w : Nat) : (s.answerWord w).hpt = s.hpt := rfl
@[simp] theorem State.answerWord_mill (s : State) (w : Nat) : (s.answerWord w).mill = s.mill := rfl
@[simp] theorem State.answerWord_ms (s : State) (w : Nat) : (s.answerWord w).ms = s.ms := rfl
@[simp] theorem State.answerWord_announced (s : State) (w : Nat) : (s.answerWord w).announced = s.announced := rfl
@[simp] theorem State.answerWord_free (s : State) (w : Nat) : (s.answerWord w).free = s.free := rfl
@[simp] theorem State.answerWord_pending (s : State) (w : Nat) : (s.answerWord w).pending = s.pending := rfl
@[simp] theorem State.answerWord_rd (s : State) (w : Nat) (g : Fld) : (s.answerWord w).rd g = s.rd g := rfl
@[simp] theorem State.answerWord_byte (s : State) (w : Nat) (x : Nat) : (s.answerWord w).byte x = s.byte x := rfl
/-! `reply` -/
@[simp] theorem State.reply_regs (s : State) (c r : Nat) (ws : List Word) : (s.reply c r ws).regs = s.regs := rfl
@[simp] theorem State.reply_mem (s : State) (c r : Nat) (ws : List Word) : (s.reply c r ws).mem = s.mem := rfl
@[simp] theorem State.reply_ltu (s : State) (c r : Nat) (ws : List Word) : (s.reply c r ws).ltu = s.ltu := rfl
@[simp] theorem State.reply_pdir (s : State) (c r : Nat) (ws : List Word) : (s.reply c r ws).pdir = s.pdir := rfl
@[simp] theorem State.reply_grn (s : State) (c r : Nat) (ws : List Word) : (s.reply c r ws).grn = s.grn := rfl
@[simp] theorem State.reply_well (s : State) (c r : Nat) (ws : List Word) : (s.reply c r ws).well = s.well := rfl
@[simp] theorem State.reply_cxe (s : State) (c r : Nat) (ws : List Word) : (s.reply c r ws).cxe = s.cxe := rfl
@[simp] theorem State.reply_cle (s : State) (c r : Nat) (ws : List Word) : (s.reply c r ws).cle = s.cle := rfl
@[simp] theorem State.reply_mtr (s : State) (c r : Nat) (ws : List Word) : (s.reply c r ws).mtr = s.mtr := rfl
@[simp] theorem State.reply_fio (s : State) (c r : Nat) (ws : List Word) : (s.reply c r ws).fio = s.fio := rfl
@[simp] theorem State.reply_fbe (s : State) (c r : Nat) (ws : List Word) : (s.reply c r ws).fbe = s.fbe := rfl
@[simp] theorem State.reply_net (s : State) (c r : Nat) (ws : List Word) : (s.reply c r ws).net = s.net := rfl
@[simp] theorem State.reply_plk (s : State) (c r : Nat) (ws : List Word) : (s.reply c r ws).plk = s.plk := rfl
@[simp] theorem State.reply_ksu (s : State) (c r : Nat) (ws : List Word) : (s.reply c r ws).ksu = s.ksu := rfl
@[simp] theorem State.reply_pwr (s : State) (c r : Nat) (ws : List Word) : (s.reply c r ws).pwr = s.pwr := rfl
@[simp] theorem State.reply_nand (s : State) (c r : Nat) (ws : List Word) : (s.reply c r ws).nand = s.nand := rfl
@[simp] theorem State.reply_hlt (s : State) (c r : Nat) (ws : List Word) : (s.reply c r ws).hlt = s.hlt := rfl
@[simp] theorem State.reply_cfg (s : State) (c r : Nat) (ws : List Word) : (s.reply c r ws).cfg = s.cfg := rfl
@[simp] theorem State.reply_upd (s : State) (c r : Nat) (ws : List Word) : (s.reply c r ws).upd = s.upd := rfl
@[simp] theorem State.reply_hpt (s : State) (c r : Nat) (ws : List Word) : (s.reply c r ws).hpt = s.hpt := rfl
@[simp] theorem State.reply_mill (s : State) (c r : Nat) (ws : List Word) : (s.reply c r ws).mill = s.mill := rfl
@[simp] theorem State.reply_ms (s : State) (c r : Nat) (ws : List Word) : (s.reply c r ws).ms = s.ms := rfl
@[simp] theorem State.reply_announced (s : State) (c r : Nat) (ws : List Word) : (s.reply c r ws).announced = s.announced := rfl
@[simp] theorem State.reply_free (s : State) (c r : Nat) (ws : List Word) : (s.reply c r ws).free = s.free := rfl
@[simp] theorem State.reply_pending (s : State) (c r : Nat) (ws : List Word) : (s.reply c r ws).pending = s.pending := rfl
@[simp] theorem State.reply_rd (s : State) (c r : Nat) (ws : List Word) (g : Fld) : (s.reply c r ws).rd g = s.rd g := rfl
@[simp] theorem State.reply_byte (s : State) (c r : Nat) (ws : List Word) (x : Nat) : (s.reply c r ws).byte x = s.byte x := rfl
/-! `tookOpens` -/
@[simp] theorem State.tookOpens_regs (s : State) (n : Nat) : (s.tookOpens n).regs = s.regs := rfl
@[simp] theorem State.tookOpens_mem (s : State) (n : Nat) : (s.tookOpens n).mem = s.mem := rfl
@[simp] theorem State.tookOpens_ltu (s : State) (n : Nat) : (s.tookOpens n).ltu = s.ltu := rfl
@[simp] theorem State.tookOpens_pdir (s : State) (n : Nat) : (s.tookOpens n).pdir = s.pdir := rfl
@[simp] theorem State.tookOpens_grn (s : State) (n : Nat) : (s.tookOpens n).grn = s.grn := rfl
@[simp] theorem State.tookOpens_well (s : State) (n : Nat) : (s.tookOpens n).well = s.well := rfl
@[simp] theorem State.tookOpens_cxe (s : State) (n : Nat) : (s.tookOpens n).cxe = s.cxe := rfl
@[simp] theorem State.tookOpens_cle (s : State) (n : Nat) : (s.tookOpens n).cle = s.cle := rfl
@[simp] theorem State.tookOpens_mtr (s : State) (n : Nat) : (s.tookOpens n).mtr = s.mtr := rfl
@[simp] theorem State.tookOpens_fio (s : State) (n : Nat) : (s.tookOpens n).fio = s.fio := rfl
@[simp] theorem State.tookOpens_fbe (s : State) (n : Nat) : (s.tookOpens n).fbe = s.fbe := rfl
@[simp] theorem State.tookOpens_net (s : State) (n : Nat) : (s.tookOpens n).net = s.net := rfl
@[simp] theorem State.tookOpens_plk (s : State) (n : Nat) : (s.tookOpens n).plk = s.plk := rfl
@[simp] theorem State.tookOpens_ksu (s : State) (n : Nat) : (s.tookOpens n).ksu = s.ksu := rfl
@[simp] theorem State.tookOpens_pwr (s : State) (n : Nat) : (s.tookOpens n).pwr = s.pwr := rfl
@[simp] theorem State.tookOpens_nand (s : State) (n : Nat) : (s.tookOpens n).nand = s.nand := rfl
@[simp] theorem State.tookOpens_hlt (s : State) (n : Nat) : (s.tookOpens n).hlt = s.hlt := rfl
@[simp] theorem State.tookOpens_cfg (s : State) (n : Nat) : (s.tookOpens n).cfg = s.cfg := rfl
@[simp] theorem State.tookOpens_upd (s : State) (n : Nat) : (s.tookOpens n).upd = s.upd := rfl
@[simp] theorem State.tookOpens_hpt (s : State) (n : Nat) : (s.tookOpens n).hpt = s.hpt := rfl
@[simp] theorem State.tookOpens_mill (s : State) (n : Nat) : (s.tookOpens n).mill = s.mill := rfl
@[simp] theorem State.tookOpens_ms (s : State) (n : Nat) : (s.tookOpens n).ms = s.ms := rfl
@[simp] theorem State.tookOpens_answer (s : State) (n : Nat) : (s.tookOpens n).answer = s.answer := rfl
@[simp] theorem State.tookOpens_announced (s : State) (n : Nat) : (s.tookOpens n).announced = s.announced := rfl
@[simp] theorem State.tookOpens_pending (s : State) (n : Nat) : (s.tookOpens n).pending = s.pending := rfl
@[simp] theorem State.tookOpens_rd (s : State) (n : Nat) (g : Fld) : (s.tookOpens n).rd g = s.rd g := rfl
@[simp] theorem State.tookOpens_byte (s : State) (n : Nat) (x : Nat) : (s.tookOpens n).byte x = s.byte x := rfl
/-! `tookOpen` -/
@[simp] theorem State.tookOpen_regs (s : State) : (s.tookOpen).regs = s.regs := rfl
@[simp] theorem State.tookOpen_mem (s : State) : (s.tookOpen).mem = s.mem := rfl
@[simp] theorem State.tookOpen_ltu (s : State) : (s.tookOpen).ltu = s.ltu := rfl
@[simp] theorem State.tookOpen_pdir (s : State) : (s.tookOpen).pdir = s.pdir := rfl
@[simp] theorem State.tookOpen_grn (s : State) : (s.tookOpen).grn = s.grn := rfl
@[simp] theorem State.tookOpen_well (s : State) : (s.tookOpen).well = s.well := rfl
@[simp] theorem State.tookOpen_cxe (s : State) : (s.tookOpen).cxe = s.cxe := rfl
@[simp] theorem State.tookOpen_cle (s : State) : (s.tookOpen).cle = s.cle := rfl
@[simp] theorem State.tookOpen_mtr (s : State) : (s.tookOpen).mtr = s.mtr := rfl
@[simp] theorem State.tookOpen_fio (s : State) : (s.tookOpen).fio = s.fio := rfl
@[simp] theorem State.tookOpen_fbe (s : State) : (s.tookOpen).fbe = s.fbe := rfl
@[simp] theorem State.tookOpen_net (s : State) : (s.tookOpen).net = s.net := rfl
@[simp] theorem State.tookOpen_plk (s : State) : (s.tookOpen).plk = s.plk := rfl
@[simp] theorem State.tookOpen_ksu (s : State) : (s.tookOpen).ksu = s.ksu := rfl
@[simp] theorem State.tookOpen_pwr (s : State) : (s.tookOpen).pwr = s.pwr := rfl
@[simp] theorem State.tookOpen_nand (s : State) : (s.tookOpen).nand = s.nand := rfl
@[simp] theorem State.tookOpen_hlt (s : State) : (s.tookOpen).hlt = s.hlt := rfl
@[simp] theorem State.tookOpen_cfg (s : State) : (s.tookOpen).cfg = s.cfg := rfl
@[simp] theorem State.tookOpen_upd (s : State) : (s.tookOpen).upd = s.upd := rfl
@[simp] theorem State.tookOpen_hpt (s : State) : (s.tookOpen).hpt = s.hpt := rfl
@[simp] theorem State.tookOpen_mill (s : State) : (s.tookOpen).mill = s.mill := rfl
@[simp] theorem State.tookOpen_ms (s : State) : (s.tookOpen).ms = s.ms := rfl
@[simp] theorem State.tookOpen_answer (s : State) : (s.tookOpen).answer = s.answer := rfl
@[simp] theorem State.tookOpen_announced (s : State) : (s.tookOpen).announced = s.announced := rfl
@[simp] theorem State.tookOpen_pending (s : State) : (s.tookOpen).pending = s.pending := rfl
@[simp] theorem State.tookOpen_rd (s : State) (g : Fld) : (s.tookOpen).rd g = s.rd g := rfl
@[simp] theorem State.tookOpen_byte (s : State) (x : Nat) : (s.tookOpen).byte x = s.byte x := rfl
/-! `onLtu` -/
@[simp] theorem State.onLtu_regs (s : State) (f : LtuPart → LtuPart) : (s.onLtu f).regs = s.regs := rfl
@[simp] theorem State.onLtu_mem (s : State) (f : LtuPart → LtuPart) : (s.onLtu f).mem = s.mem := rfl
@[simp] theorem State.onLtu_pdir (s : State) (f : LtuPart → LtuPart) : (s.onLtu f).pdir = s.pdir := rfl
@[simp] theorem State.onLtu_grn (s : State) (f : LtuPart → LtuPart) : (s.onLtu f).grn = s.grn := rfl
@[simp] theorem State.onLtu_well (s : State) (f : LtuPart → LtuPart) : (s.onLtu f).well = s.well := rfl
@[simp] theorem State.onLtu_cxe (s : State) (f : LtuPart → LtuPart) : (s.onLtu f).cxe = s.cxe := rfl
@[simp] theorem State.onLtu_cle (s : State) (f : LtuPart → LtuPart) : (s.onLtu f).cle = s.cle := rfl
@[simp] theorem State.onLtu_mtr (s : State) (f : LtuPart → LtuPart) : (s.onLtu f).mtr = s.mtr := rfl
@[simp] theorem State.onLtu_fio (s : State) (f : LtuPart → LtuPart) : (s.onLtu f).fio = s.fio := rfl
@[simp] theorem State.onLtu_fbe (s : State) (f : LtuPart → LtuPart) : (s.onLtu f).fbe = s.fbe := rfl
@[simp] theorem State.onLtu_net (s : State) (f : LtuPart → LtuPart) : (s.onLtu f).net = s.net := rfl
@[simp] theorem State.onLtu_plk (s : State) (f : LtuPart → LtuPart) : (s.onLtu f).plk = s.plk := rfl
@[simp] theorem State.onLtu_ksu (s : State) (f : LtuPart → LtuPart) : (s.onLtu f).ksu = s.ksu := rfl
@[simp] theorem State.onLtu_pwr (s : State) (f : LtuPart → LtuPart) : (s.onLtu f).pwr = s.pwr := rfl
@[simp] theorem State.onLtu_nand (s : State) (f : LtuPart → LtuPart) : (s.onLtu f).nand = s.nand := rfl
@[simp] theorem State.onLtu_hlt (s : State) (f : LtuPart → LtuPart) : (s.onLtu f).hlt = s.hlt := rfl
@[simp] theorem State.onLtu_cfg (s : State) (f : LtuPart → LtuPart) : (s.onLtu f).cfg = s.cfg := rfl
@[simp] theorem State.onLtu_upd (s : State) (f : LtuPart → LtuPart) : (s.onLtu f).upd = s.upd := rfl
@[simp] theorem State.onLtu_hpt (s : State) (f : LtuPart → LtuPart) : (s.onLtu f).hpt = s.hpt := rfl
@[simp] theorem State.onLtu_mill (s : State) (f : LtuPart → LtuPart) : (s.onLtu f).mill = s.mill := rfl
@[simp] theorem State.onLtu_ms (s : State) (f : LtuPart → LtuPart) : (s.onLtu f).ms = s.ms := rfl
@[simp] theorem State.onLtu_answer (s : State) (f : LtuPart → LtuPart) : (s.onLtu f).answer = s.answer := rfl
@[simp] theorem State.onLtu_announced (s : State) (f : LtuPart → LtuPart) : (s.onLtu f).announced = s.announced := rfl
@[simp] theorem State.onLtu_free (s : State) (f : LtuPart → LtuPart) : (s.onLtu f).free = s.free := rfl
@[simp] theorem State.onLtu_pending (s : State) (f : LtuPart → LtuPart) : (s.onLtu f).pending = s.pending := rfl
@[simp] theorem State.onLtu_self (s : State) (f : LtuPart → LtuPart) : (s.onLtu f).ltu = f s.ltu := rfl
@[simp] theorem State.onLtu_rd (s : State) (f : LtuPart → LtuPart) (g : Fld) : (s.onLtu f).rd g = s.rd g := rfl
@[simp] theorem State.onLtu_byte (s : State) (f : LtuPart → LtuPart) (x : Nat) : (s.onLtu f).byte x = s.byte x := rfl
/-! `onPdir` -/
@[simp] theorem State.onPdir_regs (s : State) (f : PdirPart → PdirPart) : (s.onPdir f).regs = s.regs := rfl
@[simp] theorem State.onPdir_mem (s : State) (f : PdirPart → PdirPart) : (s.onPdir f).mem = s.mem := rfl
@[simp] theorem State.onPdir_ltu (s : State) (f : PdirPart → PdirPart) : (s.onPdir f).ltu = s.ltu := rfl
@[simp] theorem State.onPdir_grn (s : State) (f : PdirPart → PdirPart) : (s.onPdir f).grn = s.grn := rfl
@[simp] theorem State.onPdir_well (s : State) (f : PdirPart → PdirPart) : (s.onPdir f).well = s.well := rfl
@[simp] theorem State.onPdir_cxe (s : State) (f : PdirPart → PdirPart) : (s.onPdir f).cxe = s.cxe := rfl
@[simp] theorem State.onPdir_cle (s : State) (f : PdirPart → PdirPart) : (s.onPdir f).cle = s.cle := rfl
@[simp] theorem State.onPdir_mtr (s : State) (f : PdirPart → PdirPart) : (s.onPdir f).mtr = s.mtr := rfl
@[simp] theorem State.onPdir_fio (s : State) (f : PdirPart → PdirPart) : (s.onPdir f).fio = s.fio := rfl
@[simp] theorem State.onPdir_fbe (s : State) (f : PdirPart → PdirPart) : (s.onPdir f).fbe = s.fbe := rfl
@[simp] theorem State.onPdir_net (s : State) (f : PdirPart → PdirPart) : (s.onPdir f).net = s.net := rfl
@[simp] theorem State.onPdir_plk (s : State) (f : PdirPart → PdirPart) : (s.onPdir f).plk = s.plk := rfl
@[simp] theorem State.onPdir_ksu (s : State) (f : PdirPart → PdirPart) : (s.onPdir f).ksu = s.ksu := rfl
@[simp] theorem State.onPdir_pwr (s : State) (f : PdirPart → PdirPart) : (s.onPdir f).pwr = s.pwr := rfl
@[simp] theorem State.onPdir_nand (s : State) (f : PdirPart → PdirPart) : (s.onPdir f).nand = s.nand := rfl
@[simp] theorem State.onPdir_hlt (s : State) (f : PdirPart → PdirPart) : (s.onPdir f).hlt = s.hlt := rfl
@[simp] theorem State.onPdir_cfg (s : State) (f : PdirPart → PdirPart) : (s.onPdir f).cfg = s.cfg := rfl
@[simp] theorem State.onPdir_upd (s : State) (f : PdirPart → PdirPart) : (s.onPdir f).upd = s.upd := rfl
@[simp] theorem State.onPdir_hpt (s : State) (f : PdirPart → PdirPart) : (s.onPdir f).hpt = s.hpt := rfl
@[simp] theorem State.onPdir_mill (s : State) (f : PdirPart → PdirPart) : (s.onPdir f).mill = s.mill := rfl
@[simp] theorem State.onPdir_ms (s : State) (f : PdirPart → PdirPart) : (s.onPdir f).ms = s.ms := rfl
@[simp] theorem State.onPdir_answer (s : State) (f : PdirPart → PdirPart) : (s.onPdir f).answer = s.answer := rfl
@[simp] theorem State.onPdir_announced (s : State) (f : PdirPart → PdirPart) : (s.onPdir f).announced = s.announced := rfl
@[simp] theorem State.onPdir_free (s : State) (f : PdirPart → PdirPart) : (s.onPdir f).free = s.free := rfl
@[simp] theorem State.onPdir_pending (s : State) (f : PdirPart → PdirPart) : (s.onPdir f).pending = s.pending := rfl
@[simp] theorem State.onPdir_self (s : State) (f : PdirPart → PdirPart) : (s.onPdir f).pdir = f s.pdir := rfl
@[simp] theorem State.onPdir_rd (s : State) (f : PdirPart → PdirPart) (g : Fld) : (s.onPdir f).rd g = s.rd g := rfl
@[simp] theorem State.onPdir_byte (s : State) (f : PdirPart → PdirPart) (x : Nat) : (s.onPdir f).byte x = s.byte x := rfl
/-! `onGrn` -/
@[simp] theorem State.onGrn_regs (s : State) (f : GrnPart → GrnPart) : (s.onGrn f).regs = s.regs := rfl
@[simp] theorem State.onGrn_mem (s : State) (f : GrnPart → GrnPart) : (s.onGrn f).mem = s.mem := rfl
@[simp] theorem State.onGrn_ltu (s : State) (f : GrnPart → GrnPart) : (s.onGrn f).ltu = s.ltu := rfl
@[simp] theorem State.onGrn_pdir (s : State) (f : GrnPart → GrnPart) : (s.onGrn f).pdir = s.pdir := rfl
@[simp] theorem State.onGrn_well (s : State) (f : GrnPart → GrnPart) : (s.onGrn f).well = s.well := rfl
@[simp] theorem State.onGrn_cxe (s : State) (f : GrnPart → GrnPart) : (s.onGrn f).cxe = s.cxe := rfl
@[simp] theorem State.onGrn_cle (s : State) (f : GrnPart → GrnPart) : (s.onGrn f).cle = s.cle := rfl
@[simp] theorem State.onGrn_mtr (s : State) (f : GrnPart → GrnPart) : (s.onGrn f).mtr = s.mtr := rfl
@[simp] theorem State.onGrn_fio (s : State) (f : GrnPart → GrnPart) : (s.onGrn f).fio = s.fio := rfl
@[simp] theorem State.onGrn_fbe (s : State) (f : GrnPart → GrnPart) : (s.onGrn f).fbe = s.fbe := rfl
@[simp] theorem State.onGrn_net (s : State) (f : GrnPart → GrnPart) : (s.onGrn f).net = s.net := rfl
@[simp] theorem State.onGrn_plk (s : State) (f : GrnPart → GrnPart) : (s.onGrn f).plk = s.plk := rfl
@[simp] theorem State.onGrn_ksu (s : State) (f : GrnPart → GrnPart) : (s.onGrn f).ksu = s.ksu := rfl
@[simp] theorem State.onGrn_pwr (s : State) (f : GrnPart → GrnPart) : (s.onGrn f).pwr = s.pwr := rfl
@[simp] theorem State.onGrn_nand (s : State) (f : GrnPart → GrnPart) : (s.onGrn f).nand = s.nand := rfl
@[simp] theorem State.onGrn_hlt (s : State) (f : GrnPart → GrnPart) : (s.onGrn f).hlt = s.hlt := rfl
@[simp] theorem State.onGrn_cfg (s : State) (f : GrnPart → GrnPart) : (s.onGrn f).cfg = s.cfg := rfl
@[simp] theorem State.onGrn_upd (s : State) (f : GrnPart → GrnPart) : (s.onGrn f).upd = s.upd := rfl
@[simp] theorem State.onGrn_hpt (s : State) (f : GrnPart → GrnPart) : (s.onGrn f).hpt = s.hpt := rfl
@[simp] theorem State.onGrn_mill (s : State) (f : GrnPart → GrnPart) : (s.onGrn f).mill = s.mill := rfl
@[simp] theorem State.onGrn_ms (s : State) (f : GrnPart → GrnPart) : (s.onGrn f).ms = s.ms := rfl
@[simp] theorem State.onGrn_answer (s : State) (f : GrnPart → GrnPart) : (s.onGrn f).answer = s.answer := rfl
@[simp] theorem State.onGrn_announced (s : State) (f : GrnPart → GrnPart) : (s.onGrn f).announced = s.announced := rfl
@[simp] theorem State.onGrn_free (s : State) (f : GrnPart → GrnPart) : (s.onGrn f).free = s.free := rfl
@[simp] theorem State.onGrn_pending (s : State) (f : GrnPart → GrnPart) : (s.onGrn f).pending = s.pending := rfl
@[simp] theorem State.onGrn_self (s : State) (f : GrnPart → GrnPart) : (s.onGrn f).grn = f s.grn := rfl
@[simp] theorem State.onGrn_rd (s : State) (f : GrnPart → GrnPart) (g : Fld) : (s.onGrn f).rd g = s.rd g := rfl
@[simp] theorem State.onGrn_byte (s : State) (f : GrnPart → GrnPart) (x : Nat) : (s.onGrn f).byte x = s.byte x := rfl
/-! `onWell` -/
@[simp] theorem State.onWell_regs (s : State) (f : WellPart → WellPart) : (s.onWell f).regs = s.regs := rfl
@[simp] theorem State.onWell_mem (s : State) (f : WellPart → WellPart) : (s.onWell f).mem = s.mem := rfl
@[simp] theorem State.onWell_ltu (s : State) (f : WellPart → WellPart) : (s.onWell f).ltu = s.ltu := rfl
@[simp] theorem State.onWell_pdir (s : State) (f : WellPart → WellPart) : (s.onWell f).pdir = s.pdir := rfl
@[simp] theorem State.onWell_grn (s : State) (f : WellPart → WellPart) : (s.onWell f).grn = s.grn := rfl
@[simp] theorem State.onWell_cxe (s : State) (f : WellPart → WellPart) : (s.onWell f).cxe = s.cxe := rfl
@[simp] theorem State.onWell_cle (s : State) (f : WellPart → WellPart) : (s.onWell f).cle = s.cle := rfl
@[simp] theorem State.onWell_mtr (s : State) (f : WellPart → WellPart) : (s.onWell f).mtr = s.mtr := rfl
@[simp] theorem State.onWell_fio (s : State) (f : WellPart → WellPart) : (s.onWell f).fio = s.fio := rfl
@[simp] theorem State.onWell_fbe (s : State) (f : WellPart → WellPart) : (s.onWell f).fbe = s.fbe := rfl
@[simp] theorem State.onWell_net (s : State) (f : WellPart → WellPart) : (s.onWell f).net = s.net := rfl
@[simp] theorem State.onWell_plk (s : State) (f : WellPart → WellPart) : (s.onWell f).plk = s.plk := rfl
@[simp] theorem State.onWell_ksu (s : State) (f : WellPart → WellPart) : (s.onWell f).ksu = s.ksu := rfl
@[simp] theorem State.onWell_pwr (s : State) (f : WellPart → WellPart) : (s.onWell f).pwr = s.pwr := rfl
@[simp] theorem State.onWell_nand (s : State) (f : WellPart → WellPart) : (s.onWell f).nand = s.nand := rfl
@[simp] theorem State.onWell_hlt (s : State) (f : WellPart → WellPart) : (s.onWell f).hlt = s.hlt := rfl
@[simp] theorem State.onWell_cfg (s : State) (f : WellPart → WellPart) : (s.onWell f).cfg = s.cfg := rfl
@[simp] theorem State.onWell_upd (s : State) (f : WellPart → WellPart) : (s.onWell f).upd = s.upd := rfl
@[simp] theorem State.onWell_hpt (s : State) (f : WellPart → WellPart) : (s.onWell f).hpt = s.hpt := rfl
@[simp] theorem State.onWell_mill (s : State) (f : WellPart → WellPart) : (s.onWell f).mill = s.mill := rfl
@[simp] theorem State.onWell_ms (s : State) (f : WellPart → WellPart) : (s.onWell f).ms = s.ms := rfl
@[simp] theorem State.onWell_answer (s : State) (f : WellPart → WellPart) : (s.onWell f).answer = s.answer := rfl
@[simp] theorem State.onWell_announced (s : State) (f : WellPart → WellPart) : (s.onWell f).announced = s.announced := rfl
@[simp] theorem State.onWell_free (s : State) (f : WellPart → WellPart) : (s.onWell f).free = s.free := rfl
@[simp] theorem State.onWell_pending (s : State) (f : WellPart → WellPart) : (s.onWell f).pending = s.pending := rfl
@[simp] theorem State.onWell_self (s : State) (f : WellPart → WellPart) : (s.onWell f).well = f s.well := rfl
@[simp] theorem State.onWell_rd (s : State) (f : WellPart → WellPart) (g : Fld) : (s.onWell f).rd g = s.rd g := rfl
@[simp] theorem State.onWell_byte (s : State) (f : WellPart → WellPart) (x : Nat) : (s.onWell f).byte x = s.byte x := rfl
/-! `onCxe` -/
@[simp] theorem State.onCxe_regs (s : State) (f : CxePart → CxePart) : (s.onCxe f).regs = s.regs := rfl
@[simp] theorem State.onCxe_mem (s : State) (f : CxePart → CxePart) : (s.onCxe f).mem = s.mem := rfl
@[simp] theorem State.onCxe_ltu (s : State) (f : CxePart → CxePart) : (s.onCxe f).ltu = s.ltu := rfl
@[simp] theorem State.onCxe_pdir (s : State) (f : CxePart → CxePart) : (s.onCxe f).pdir = s.pdir := rfl
@[simp] theorem State.onCxe_grn (s : State) (f : CxePart → CxePart) : (s.onCxe f).grn = s.grn := rfl
@[simp] theorem State.onCxe_well (s : State) (f : CxePart → CxePart) : (s.onCxe f).well = s.well := rfl
@[simp] theorem State.onCxe_cle (s : State) (f : CxePart → CxePart) : (s.onCxe f).cle = s.cle := rfl
@[simp] theorem State.onCxe_mtr (s : State) (f : CxePart → CxePart) : (s.onCxe f).mtr = s.mtr := rfl
@[simp] theorem State.onCxe_fio (s : State) (f : CxePart → CxePart) : (s.onCxe f).fio = s.fio := rfl
@[simp] theorem State.onCxe_fbe (s : State) (f : CxePart → CxePart) : (s.onCxe f).fbe = s.fbe := rfl
@[simp] theorem State.onCxe_net (s : State) (f : CxePart → CxePart) : (s.onCxe f).net = s.net := rfl
@[simp] theorem State.onCxe_plk (s : State) (f : CxePart → CxePart) : (s.onCxe f).plk = s.plk := rfl
@[simp] theorem State.onCxe_ksu (s : State) (f : CxePart → CxePart) : (s.onCxe f).ksu = s.ksu := rfl
@[simp] theorem State.onCxe_pwr (s : State) (f : CxePart → CxePart) : (s.onCxe f).pwr = s.pwr := rfl
@[simp] theorem State.onCxe_nand (s : State) (f : CxePart → CxePart) : (s.onCxe f).nand = s.nand := rfl
@[simp] theorem State.onCxe_hlt (s : State) (f : CxePart → CxePart) : (s.onCxe f).hlt = s.hlt := rfl
@[simp] theorem State.onCxe_cfg (s : State) (f : CxePart → CxePart) : (s.onCxe f).cfg = s.cfg := rfl
@[simp] theorem State.onCxe_upd (s : State) (f : CxePart → CxePart) : (s.onCxe f).upd = s.upd := rfl
@[simp] theorem State.onCxe_hpt (s : State) (f : CxePart → CxePart) : (s.onCxe f).hpt = s.hpt := rfl
@[simp] theorem State.onCxe_mill (s : State) (f : CxePart → CxePart) : (s.onCxe f).mill = s.mill := rfl
@[simp] theorem State.onCxe_ms (s : State) (f : CxePart → CxePart) : (s.onCxe f).ms = s.ms := rfl
@[simp] theorem State.onCxe_answer (s : State) (f : CxePart → CxePart) : (s.onCxe f).answer = s.answer := rfl
@[simp] theorem State.onCxe_announced (s : State) (f : CxePart → CxePart) : (s.onCxe f).announced = s.announced := rfl
@[simp] theorem State.onCxe_free (s : State) (f : CxePart → CxePart) : (s.onCxe f).free = s.free := rfl
@[simp] theorem State.onCxe_pending (s : State) (f : CxePart → CxePart) : (s.onCxe f).pending = s.pending := rfl
@[simp] theorem State.onCxe_self (s : State) (f : CxePart → CxePart) : (s.onCxe f).cxe = f s.cxe := rfl
@[simp] theorem State.onCxe_rd (s : State) (f : CxePart → CxePart) (g : Fld) : (s.onCxe f).rd g = s.rd g := rfl
@[simp] theorem State.onCxe_byte (s : State) (f : CxePart → CxePart) (x : Nat) : (s.onCxe f).byte x = s.byte x := rfl
/-! `onCle` -/
@[simp] theorem State.onCle_regs (s : State) (f : ClePart → ClePart) : (s.onCle f).regs = s.regs := rfl
@[simp] theorem State.onCle_mem (s : State) (f : ClePart → ClePart) : (s.onCle f).mem = s.mem := rfl
@[simp] theorem State.onCle_ltu (s : State) (f : ClePart → ClePart) : (s.onCle f).ltu = s.ltu := rfl
@[simp] theorem State.onCle_pdir (s : State) (f : ClePart → ClePart) : (s.onCle f).pdir = s.pdir := rfl
@[simp] theorem State.onCle_grn (s : State) (f : ClePart → ClePart) : (s.onCle f).grn = s.grn := rfl
@[simp] theorem State.onCle_well (s : State) (f : ClePart → ClePart) : (s.onCle f).well = s.well := rfl
@[simp] theorem State.onCle_cxe (s : State) (f : ClePart → ClePart) : (s.onCle f).cxe = s.cxe := rfl
@[simp] theorem State.onCle_mtr (s : State) (f : ClePart → ClePart) : (s.onCle f).mtr = s.mtr := rfl
@[simp] theorem State.onCle_fio (s : State) (f : ClePart → ClePart) : (s.onCle f).fio = s.fio := rfl
@[simp] theorem State.onCle_fbe (s : State) (f : ClePart → ClePart) : (s.onCle f).fbe = s.fbe := rfl
@[simp] theorem State.onCle_net (s : State) (f : ClePart → ClePart) : (s.onCle f).net = s.net := rfl
@[simp] theorem State.onCle_plk (s : State) (f : ClePart → ClePart) : (s.onCle f).plk = s.plk := rfl
@[simp] theorem State.onCle_ksu (s : State) (f : ClePart → ClePart) : (s.onCle f).ksu = s.ksu := rfl
@[simp] theorem State.onCle_pwr (s : State) (f : ClePart → ClePart) : (s.onCle f).pwr = s.pwr := rfl
@[simp] theorem State.onCle_nand (s : State) (f : ClePart → ClePart) : (s.onCle f).nand = s.nand := rfl
@[simp] theorem State.onCle_hlt (s : State) (f : ClePart → ClePart) : (s.onCle f).hlt = s.hlt := rfl
@[simp] theorem State.onCle_cfg (s : State) (f : ClePart → ClePart) : (s.onCle f).cfg = s.cfg := rfl
@[simp] theorem State.onCle_upd (s : State) (f : ClePart → ClePart) : (s.onCle f).upd = s.upd := rfl
@[simp] theorem State.onCle_hpt (s : State) (f : ClePart → ClePart) : (s.onCle f).hpt = s.hpt := rfl
@[simp] theorem State.onCle_mill (s : State) (f : ClePart → ClePart) : (s.onCle f).mill = s.mill := rfl
@[simp] theorem State.onCle_ms (s : State) (f : ClePart → ClePart) : (s.onCle f).ms = s.ms := rfl
@[simp] theorem State.onCle_answer (s : State) (f : ClePart → ClePart) : (s.onCle f).answer = s.answer := rfl
@[simp] theorem State.onCle_announced (s : State) (f : ClePart → ClePart) : (s.onCle f).announced = s.announced := rfl
@[simp] theorem State.onCle_free (s : State) (f : ClePart → ClePart) : (s.onCle f).free = s.free := rfl
@[simp] theorem State.onCle_pending (s : State) (f : ClePart → ClePart) : (s.onCle f).pending = s.pending := rfl
@[simp] theorem State.onCle_self (s : State) (f : ClePart → ClePart) : (s.onCle f).cle = f s.cle := rfl
@[simp] theorem State.onCle_rd (s : State) (f : ClePart → ClePart) (g : Fld) : (s.onCle f).rd g = s.rd g := rfl
@[simp] theorem State.onCle_byte (s : State) (f : ClePart → ClePart) (x : Nat) : (s.onCle f).byte x = s.byte x := rfl
/-! `onMtr` -/
@[simp] theorem State.onMtr_regs (s : State) (f : MtrPart → MtrPart) : (s.onMtr f).regs = s.regs := rfl
@[simp] theorem State.onMtr_mem (s : State) (f : MtrPart → MtrPart) : (s.onMtr f).mem = s.mem := rfl
@[simp] theorem State.onMtr_ltu (s : State) (f : MtrPart → MtrPart) : (s.onMtr f).ltu = s.ltu := rfl
@[simp] theorem State.onMtr_pdir (s : State) (f : MtrPart → MtrPart) : (s.onMtr f).pdir = s.pdir := rfl
@[simp] theorem State.onMtr_grn (s : State) (f : MtrPart → MtrPart) : (s.onMtr f).grn = s.grn := rfl
@[simp] theorem State.onMtr_well (s : State) (f : MtrPart → MtrPart) : (s.onMtr f).well = s.well := rfl
@[simp] theorem State.onMtr_cxe (s : State) (f : MtrPart → MtrPart) : (s.onMtr f).cxe = s.cxe := rfl
@[simp] theorem State.onMtr_cle (s : State) (f : MtrPart → MtrPart) : (s.onMtr f).cle = s.cle := rfl
@[simp] theorem State.onMtr_fio (s : State) (f : MtrPart → MtrPart) : (s.onMtr f).fio = s.fio := rfl
@[simp] theorem State.onMtr_fbe (s : State) (f : MtrPart → MtrPart) : (s.onMtr f).fbe = s.fbe := rfl
@[simp] theorem State.onMtr_net (s : State) (f : MtrPart → MtrPart) : (s.onMtr f).net = s.net := rfl
@[simp] theorem State.onMtr_plk (s : State) (f : MtrPart → MtrPart) : (s.onMtr f).plk = s.plk := rfl
@[simp] theorem State.onMtr_ksu (s : State) (f : MtrPart → MtrPart) : (s.onMtr f).ksu = s.ksu := rfl
@[simp] theorem State.onMtr_pwr (s : State) (f : MtrPart → MtrPart) : (s.onMtr f).pwr = s.pwr := rfl
@[simp] theorem State.onMtr_nand (s : State) (f : MtrPart → MtrPart) : (s.onMtr f).nand = s.nand := rfl
@[simp] theorem State.onMtr_hlt (s : State) (f : MtrPart → MtrPart) : (s.onMtr f).hlt = s.hlt := rfl
@[simp] theorem State.onMtr_cfg (s : State) (f : MtrPart → MtrPart) : (s.onMtr f).cfg = s.cfg := rfl
@[simp] theorem State.onMtr_upd (s : State) (f : MtrPart → MtrPart) : (s.onMtr f).upd = s.upd := rfl
@[simp] theorem State.onMtr_hpt (s : State) (f : MtrPart → MtrPart) : (s.onMtr f).hpt = s.hpt := rfl
@[simp] theorem State.onMtr_mill (s : State) (f : MtrPart → MtrPart) : (s.onMtr f).mill = s.mill := rfl
@[simp] theorem State.onMtr_ms (s : State) (f : MtrPart → MtrPart) : (s.onMtr f).ms = s.ms := rfl
@[simp] theorem State.onMtr_answer (s : State) (f : MtrPart → MtrPart) : (s.onMtr f).answer = s.answer := rfl
@[simp] theorem State.onMtr_announced (s : State) (f : MtrPart → MtrPart) : (s.onMtr f).announced = s.announced := rfl
@[simp] theorem State.onMtr_free (s : State) (f : MtrPart → MtrPart) : (s.onMtr f).free = s.free := rfl
@[simp] theorem State.onMtr_pending (s : State) (f : MtrPart → MtrPart) : (s.onMtr f).pending = s.pending := rfl
@[simp] theorem State.onMtr_self (s : State) (f : MtrPart → MtrPart) : (s.onMtr f).mtr = f s.mtr := rfl
@[simp] theorem State.onMtr_rd (s : State) (f : MtrPart → MtrPart) (g : Fld) : (s.onMtr f).rd g = s.rd g := rfl
@[simp] theorem State.onMtr_byte (s : State) (f : MtrPart → MtrPart) (x : Nat) : (s.onMtr f).byte x = s.byte x := rfl
/-! `onFio` -/
@[simp] theorem State.onFio_regs (s : State) (f : FioPart → FioPart) : (s.onFio f).regs = s.regs := rfl
@[simp] theorem State.onFio_mem (s : State) (f : FioPart → FioPart) : (s.onFio f).mem = s.mem := rfl
@[simp] theorem State.onFio_ltu (s : State) (f : FioPart → FioPart) : (s.onFio f).ltu = s.ltu := rfl
@[simp] theorem State.onFio_pdir (s : State) (f : FioPart → FioPart) : (s.onFio f).pdir = s.pdir := rfl
@[simp] theorem State.onFio_grn (s : State) (f : FioPart → FioPart) : (s.onFio f).grn = s.grn := rfl
@[simp] theorem State.onFio_well (s : State) (f : FioPart → FioPart) : (s.onFio f).well = s.well := rfl
@[simp] theorem State.onFio_cxe (s : State) (f : FioPart → FioPart) : (s.onFio f).cxe = s.cxe := rfl
@[simp] theorem State.onFio_cle (s : State) (f : FioPart → FioPart) : (s.onFio f).cle = s.cle := rfl
@[simp] theorem State.onFio_mtr (s : State) (f : FioPart → FioPart) : (s.onFio f).mtr = s.mtr := rfl
@[simp] theorem State.onFio_fbe (s : State) (f : FioPart → FioPart) : (s.onFio f).fbe = s.fbe := rfl
@[simp] theorem State.onFio_net (s : State) (f : FioPart → FioPart) : (s.onFio f).net = s.net := rfl
@[simp] theorem State.onFio_plk (s : State) (f : FioPart → FioPart) : (s.onFio f).plk = s.plk := rfl
@[simp] theorem State.onFio_ksu (s : State) (f : FioPart → FioPart) : (s.onFio f).ksu = s.ksu := rfl
@[simp] theorem State.onFio_pwr (s : State) (f : FioPart → FioPart) : (s.onFio f).pwr = s.pwr := rfl
@[simp] theorem State.onFio_nand (s : State) (f : FioPart → FioPart) : (s.onFio f).nand = s.nand := rfl
@[simp] theorem State.onFio_hlt (s : State) (f : FioPart → FioPart) : (s.onFio f).hlt = s.hlt := rfl
@[simp] theorem State.onFio_cfg (s : State) (f : FioPart → FioPart) : (s.onFio f).cfg = s.cfg := rfl
@[simp] theorem State.onFio_upd (s : State) (f : FioPart → FioPart) : (s.onFio f).upd = s.upd := rfl
@[simp] theorem State.onFio_hpt (s : State) (f : FioPart → FioPart) : (s.onFio f).hpt = s.hpt := rfl
@[simp] theorem State.onFio_mill (s : State) (f : FioPart → FioPart) : (s.onFio f).mill = s.mill := rfl
@[simp] theorem State.onFio_ms (s : State) (f : FioPart → FioPart) : (s.onFio f).ms = s.ms := rfl
@[simp] theorem State.onFio_answer (s : State) (f : FioPart → FioPart) : (s.onFio f).answer = s.answer := rfl
@[simp] theorem State.onFio_announced (s : State) (f : FioPart → FioPart) : (s.onFio f).announced = s.announced := rfl
@[simp] theorem State.onFio_free (s : State) (f : FioPart → FioPart) : (s.onFio f).free = s.free := rfl
@[simp] theorem State.onFio_pending (s : State) (f : FioPart → FioPart) : (s.onFio f).pending = s.pending := rfl
@[simp] theorem State.onFio_self (s : State) (f : FioPart → FioPart) : (s.onFio f).fio = f s.fio := rfl
@[simp] theorem State.onFio_rd (s : State) (f : FioPart → FioPart) (g : Fld) : (s.onFio f).rd g = s.rd g := rfl
@[simp] theorem State.onFio_byte (s : State) (f : FioPart → FioPart) (x : Nat) : (s.onFio f).byte x = s.byte x := rfl
/-! `onFbe` -/
@[simp] theorem State.onFbe_regs (s : State) (f : FbePart → FbePart) : (s.onFbe f).regs = s.regs := rfl
@[simp] theorem State.onFbe_mem (s : State) (f : FbePart → FbePart) : (s.onFbe f).mem = s.mem := rfl
@[simp] theorem State.onFbe_ltu (s : State) (f : FbePart → FbePart) : (s.onFbe f).ltu = s.ltu := rfl
@[simp] theorem State.onFbe_pdir (s : State) (f : FbePart → FbePart) : (s.onFbe f).pdir = s.pdir := rfl
@[simp] theorem State.onFbe_grn (s : State) (f : FbePart → FbePart) : (s.onFbe f).grn = s.grn := rfl
@[simp] theorem State.onFbe_well (s : State) (f : FbePart → FbePart) : (s.onFbe f).well = s.well := rfl
@[simp] theorem State.onFbe_cxe (s : State) (f : FbePart → FbePart) : (s.onFbe f).cxe = s.cxe := rfl
@[simp] theorem State.onFbe_cle (s : State) (f : FbePart → FbePart) : (s.onFbe f).cle = s.cle := rfl
@[simp] theorem State.onFbe_mtr (s : State) (f : FbePart → FbePart) : (s.onFbe f).mtr = s.mtr := rfl
@[simp] theorem State.onFbe_fio (s : State) (f : FbePart → FbePart) : (s.onFbe f).fio = s.fio := rfl
@[simp] theorem State.onFbe_net (s : State) (f : FbePart → FbePart) : (s.onFbe f).net = s.net := rfl
@[simp] theorem State.onFbe_plk (s : State) (f : FbePart → FbePart) : (s.onFbe f).plk = s.plk := rfl
@[simp] theorem State.onFbe_ksu (s : State) (f : FbePart → FbePart) : (s.onFbe f).ksu = s.ksu := rfl
@[simp] theorem State.onFbe_pwr (s : State) (f : FbePart → FbePart) : (s.onFbe f).pwr = s.pwr := rfl
@[simp] theorem State.onFbe_nand (s : State) (f : FbePart → FbePart) : (s.onFbe f).nand = s.nand := rfl
@[simp] theorem State.onFbe_hlt (s : State) (f : FbePart → FbePart) : (s.onFbe f).hlt = s.hlt := rfl
@[simp] theorem State.onFbe_cfg (s : State) (f : FbePart → FbePart) : (s.onFbe f).cfg = s.cfg := rfl
@[simp] theorem State.onFbe_upd (s : State) (f : FbePart → FbePart) : (s.onFbe f).upd = s.upd := rfl
@[simp] theorem State.onFbe_hpt (s : State) (f : FbePart → FbePart) : (s.onFbe f).hpt = s.hpt := rfl
@[simp] theorem State.onFbe_mill (s : State) (f : FbePart → FbePart) : (s.onFbe f).mill = s.mill := rfl
@[simp] theorem State.onFbe_ms (s : State) (f : FbePart → FbePart) : (s.onFbe f).ms = s.ms := rfl
@[simp] theorem State.onFbe_answer (s : State) (f : FbePart → FbePart) : (s.onFbe f).answer = s.answer := rfl
@[simp] theorem State.onFbe_announced (s : State) (f : FbePart → FbePart) : (s.onFbe f).announced = s.announced := rfl
@[simp] theorem State.onFbe_free (s : State) (f : FbePart → FbePart) : (s.onFbe f).free = s.free := rfl
@[simp] theorem State.onFbe_pending (s : State) (f : FbePart → FbePart) : (s.onFbe f).pending = s.pending := rfl
@[simp] theorem State.onFbe_self (s : State) (f : FbePart → FbePart) : (s.onFbe f).fbe = f s.fbe := rfl
@[simp] theorem State.onFbe_rd (s : State) (f : FbePart → FbePart) (g : Fld) : (s.onFbe f).rd g = s.rd g := rfl
@[simp] theorem State.onFbe_byte (s : State) (f : FbePart → FbePart) (x : Nat) : (s.onFbe f).byte x = s.byte x := rfl
/-! `onNet` -/
@[simp] theorem State.onNet_regs (s : State) (f : NetPart → NetPart) : (s.onNet f).regs = s.regs := rfl
@[simp] theorem State.onNet_mem (s : State) (f : NetPart → NetPart) : (s.onNet f).mem = s.mem := rfl
@[simp] theorem State.onNet_ltu (s : State) (f : NetPart → NetPart) : (s.onNet f).ltu = s.ltu := rfl
@[simp] theorem State.onNet_pdir (s : State) (f : NetPart → NetPart) : (s.onNet f).pdir = s.pdir := rfl
@[simp] theorem State.onNet_grn (s : State) (f : NetPart → NetPart) : (s.onNet f).grn = s.grn := rfl
@[simp] theorem State.onNet_well (s : State) (f : NetPart → NetPart) : (s.onNet f).well = s.well := rfl
@[simp] theorem State.onNet_cxe (s : State) (f : NetPart → NetPart) : (s.onNet f).cxe = s.cxe := rfl
@[simp] theorem State.onNet_cle (s : State) (f : NetPart → NetPart) : (s.onNet f).cle = s.cle := rfl
@[simp] theorem State.onNet_mtr (s : State) (f : NetPart → NetPart) : (s.onNet f).mtr = s.mtr := rfl
@[simp] theorem State.onNet_fio (s : State) (f : NetPart → NetPart) : (s.onNet f).fio = s.fio := rfl
@[simp] theorem State.onNet_fbe (s : State) (f : NetPart → NetPart) : (s.onNet f).fbe = s.fbe := rfl
@[simp] theorem State.onNet_plk (s : State) (f : NetPart → NetPart) : (s.onNet f).plk = s.plk := rfl
@[simp] theorem State.onNet_ksu (s : State) (f : NetPart → NetPart) : (s.onNet f).ksu = s.ksu := rfl
@[simp] theorem State.onNet_pwr (s : State) (f : NetPart → NetPart) : (s.onNet f).pwr = s.pwr := rfl
@[simp] theorem State.onNet_nand (s : State) (f : NetPart → NetPart) : (s.onNet f).nand = s.nand := rfl
@[simp] theorem State.onNet_hlt (s : State) (f : NetPart → NetPart) : (s.onNet f).hlt = s.hlt := rfl
@[simp] theorem State.onNet_cfg (s : State) (f : NetPart → NetPart) : (s.onNet f).cfg = s.cfg := rfl
@[simp] theorem State.onNet_upd (s : State) (f : NetPart → NetPart) : (s.onNet f).upd = s.upd := rfl
@[simp] theorem State.onNet_hpt (s : State) (f : NetPart → NetPart) : (s.onNet f).hpt = s.hpt := rfl
@[simp] theorem State.onNet_mill (s : State) (f : NetPart → NetPart) : (s.onNet f).mill = s.mill := rfl
@[simp] theorem State.onNet_ms (s : State) (f : NetPart → NetPart) : (s.onNet f).ms = s.ms := rfl
@[simp] theorem State.onNet_answer (s : State) (f : NetPart → NetPart) : (s.onNet f).answer = s.answer := rfl
@[simp] theorem State.onNet_announced (s : State) (f : NetPart → NetPart) : (s.onNet f).announced = s.announced := rfl
@[simp] theorem State.onNet_free (s : State) (f : NetPart → NetPart) : (s.onNet f).free = s.free := rfl
@[simp] theorem State.onNet_pending (s : State) (f : NetPart → NetPart) : (s.onNet f).pending = s.pending := rfl
@[simp] theorem State.onNet_self (s : State) (f : NetPart → NetPart) : (s.onNet f).net = f s.net := rfl
@[simp] theorem State.onNet_rd (s : State) (f : NetPart → NetPart) (g : Fld) : (s.onNet f).rd g = s.rd g := rfl
@[simp] theorem State.onNet_byte (s : State) (f : NetPart → NetPart) (x : Nat) : (s.onNet f).byte x = s.byte x := rfl
/-! `onPlk` -/
@[simp] theorem State.onPlk_regs (s : State) (f : PlkPart → PlkPart) : (s.onPlk f).regs = s.regs := rfl
@[simp] theorem State.onPlk_mem (s : State) (f : PlkPart → PlkPart) : (s.onPlk f).mem = s.mem := rfl
@[simp] theorem State.onPlk_ltu (s : State) (f : PlkPart → PlkPart) : (s.onPlk f).ltu = s.ltu := rfl
@[simp] theorem State.onPlk_pdir (s : State) (f : PlkPart → PlkPart) : (s.onPlk f).pdir = s.pdir := rfl
@[simp] theorem State.onPlk_grn (s : State) (f : PlkPart → PlkPart) : (s.onPlk f).grn = s.grn := rfl
@[simp] theorem State.onPlk_well (s : State) (f : PlkPart → PlkPart) : (s.onPlk f).well = s.well := rfl
@[simp] theorem State.onPlk_cxe (s : State) (f : PlkPart → PlkPart) : (s.onPlk f).cxe = s.cxe := rfl
@[simp] theorem State.onPlk_cle (s : State) (f : PlkPart → PlkPart) : (s.onPlk f).cle = s.cle := rfl
@[simp] theorem State.onPlk_mtr (s : State) (f : PlkPart → PlkPart) : (s.onPlk f).mtr = s.mtr := rfl
@[simp] theorem State.onPlk_fio (s : State) (f : PlkPart → PlkPart) : (s.onPlk f).fio = s.fio := rfl
@[simp] theorem State.onPlk_fbe (s : State) (f : PlkPart → PlkPart) : (s.onPlk f).fbe = s.fbe := rfl
@[simp] theorem State.onPlk_net (s : State) (f : PlkPart → PlkPart) : (s.onPlk f).net = s.net := rfl
@[simp] theorem State.onPlk_ksu (s : State) (f : PlkPart → PlkPart) : (s.onPlk f).ksu = s.ksu := rfl
@[simp] theorem State.onPlk_pwr (s : State) (f : PlkPart → PlkPart) : (s.onPlk f).pwr = s.pwr := rfl
@[simp] theorem State.onPlk_nand (s : State) (f : PlkPart → PlkPart) : (s.onPlk f).nand = s.nand := rfl
@[simp] theorem State.onPlk_hlt (s : State) (f : PlkPart → PlkPart) : (s.onPlk f).hlt = s.hlt := rfl
@[simp] theorem State.onPlk_cfg (s : State) (f : PlkPart → PlkPart) : (s.onPlk f).cfg = s.cfg := rfl
@[simp] theorem State.onPlk_upd (s : State) (f : PlkPart → PlkPart) : (s.onPlk f).upd = s.upd := rfl
@[simp] theorem State.onPlk_hpt (s : State) (f : PlkPart → PlkPart) : (s.onPlk f).hpt = s.hpt := rfl
@[simp] theorem State.onPlk_mill (s : State) (f : PlkPart → PlkPart) : (s.onPlk f).mill = s.mill := rfl
@[simp] theorem State.onPlk_ms (s : State) (f : PlkPart → PlkPart) : (s.onPlk f).ms = s.ms := rfl
@[simp] theorem State.onPlk_answer (s : State) (f : PlkPart → PlkPart) : (s.onPlk f).answer = s.answer := rfl
@[simp] theorem State.onPlk_announced (s : State) (f : PlkPart → PlkPart) : (s.onPlk f).announced = s.announced := rfl
@[simp] theorem State.onPlk_free (s : State) (f : PlkPart → PlkPart) : (s.onPlk f).free = s.free := rfl
@[simp] theorem State.onPlk_pending (s : State) (f : PlkPart → PlkPart) : (s.onPlk f).pending = s.pending := rfl
@[simp] theorem State.onPlk_self (s : State) (f : PlkPart → PlkPart) : (s.onPlk f).plk = f s.plk := rfl
@[simp] theorem State.onPlk_rd (s : State) (f : PlkPart → PlkPart) (g : Fld) : (s.onPlk f).rd g = s.rd g := rfl
@[simp] theorem State.onPlk_byte (s : State) (f : PlkPart → PlkPart) (x : Nat) : (s.onPlk f).byte x = s.byte x := rfl
/-! `onKsu` -/
@[simp] theorem State.onKsu_regs (s : State) (f : KsuPart → KsuPart) : (s.onKsu f).regs = s.regs := rfl
@[simp] theorem State.onKsu_mem (s : State) (f : KsuPart → KsuPart) : (s.onKsu f).mem = s.mem := rfl
@[simp] theorem State.onKsu_ltu (s : State) (f : KsuPart → KsuPart) : (s.onKsu f).ltu = s.ltu := rfl
@[simp] theorem State.onKsu_pdir (s : State) (f : KsuPart → KsuPart) : (s.onKsu f).pdir = s.pdir := rfl
@[simp] theorem State.onKsu_grn (s : State) (f : KsuPart → KsuPart) : (s.onKsu f).grn = s.grn := rfl
@[simp] theorem State.onKsu_well (s : State) (f : KsuPart → KsuPart) : (s.onKsu f).well = s.well := rfl
@[simp] theorem State.onKsu_cxe (s : State) (f : KsuPart → KsuPart) : (s.onKsu f).cxe = s.cxe := rfl
@[simp] theorem State.onKsu_cle (s : State) (f : KsuPart → KsuPart) : (s.onKsu f).cle = s.cle := rfl
@[simp] theorem State.onKsu_mtr (s : State) (f : KsuPart → KsuPart) : (s.onKsu f).mtr = s.mtr := rfl
@[simp] theorem State.onKsu_fio (s : State) (f : KsuPart → KsuPart) : (s.onKsu f).fio = s.fio := rfl
@[simp] theorem State.onKsu_fbe (s : State) (f : KsuPart → KsuPart) : (s.onKsu f).fbe = s.fbe := rfl
@[simp] theorem State.onKsu_net (s : State) (f : KsuPart → KsuPart) : (s.onKsu f).net = s.net := rfl
@[simp] theorem State.onKsu_plk (s : State) (f : KsuPart → KsuPart) : (s.onKsu f).plk = s.plk := rfl
@[simp] theorem State.onKsu_pwr (s : State) (f : KsuPart → KsuPart) : (s.onKsu f).pwr = s.pwr := rfl
@[simp] theorem State.onKsu_nand (s : State) (f : KsuPart → KsuPart) : (s.onKsu f).nand = s.nand := rfl
@[simp] theorem State.onKsu_hlt (s : State) (f : KsuPart → KsuPart) : (s.onKsu f).hlt = s.hlt := rfl
@[simp] theorem State.onKsu_cfg (s : State) (f : KsuPart → KsuPart) : (s.onKsu f).cfg = s.cfg := rfl
@[simp] theorem State.onKsu_upd (s : State) (f : KsuPart → KsuPart) : (s.onKsu f).upd = s.upd := rfl
@[simp] theorem State.onKsu_hpt (s : State) (f : KsuPart → KsuPart) : (s.onKsu f).hpt = s.hpt := rfl
@[simp] theorem State.onKsu_mill (s : State) (f : KsuPart → KsuPart) : (s.onKsu f).mill = s.mill := rfl
@[simp] theorem State.onKsu_ms (s : State) (f : KsuPart → KsuPart) : (s.onKsu f).ms = s.ms := rfl
@[simp] theorem State.onKsu_answer (s : State) (f : KsuPart → KsuPart) : (s.onKsu f).answer = s.answer := rfl
@[simp] theorem State.onKsu_announced (s : State) (f : KsuPart → KsuPart) : (s.onKsu f).announced = s.announced := rfl
@[simp] theorem State.onKsu_free (s : State) (f : KsuPart → KsuPart) : (s.onKsu f).free = s.free := rfl
@[simp] theorem State.onKsu_pending (s : State) (f : KsuPart → KsuPart) : (s.onKsu f).pending = s.pending := rfl
@[simp] theorem State.onKsu_self (s : State) (f : KsuPart → KsuPart) : (s.onKsu f).ksu = f s.ksu := rfl
@[simp] theorem State.onKsu_rd (s : State) (f : KsuPart → KsuPart) (g : Fld) : (s.onKsu f).rd g = s.rd g := rfl
@[simp] theorem State.onKsu_byte (s : State) (f : KsuPart → KsuPart) (x : Nat) : (s.onKsu f).byte x = s.byte x := rfl
/-! `onPwr` -/
@[simp] theorem State.onPwr_regs (s : State) (f : PwrPart → PwrPart) : (s.onPwr f).regs = s.regs := rfl
@[simp] theorem State.onPwr_mem (s : State) (f : PwrPart → PwrPart) : (s.onPwr f).mem = s.mem := rfl
@[simp] theorem State.onPwr_ltu (s : State) (f : PwrPart → PwrPart) : (s.onPwr f).ltu = s.ltu := rfl
@[simp] theorem State.onPwr_pdir (s : State) (f : PwrPart → PwrPart) : (s.onPwr f).pdir = s.pdir := rfl
@[simp] theorem State.onPwr_grn (s : State) (f : PwrPart → PwrPart) : (s.onPwr f).grn = s.grn := rfl
@[simp] theorem State.onPwr_well (s : State) (f : PwrPart → PwrPart) : (s.onPwr f).well = s.well := rfl
@[simp] theorem State.onPwr_cxe (s : State) (f : PwrPart → PwrPart) : (s.onPwr f).cxe = s.cxe := rfl
@[simp] theorem State.onPwr_cle (s : State) (f : PwrPart → PwrPart) : (s.onPwr f).cle = s.cle := rfl
@[simp] theorem State.onPwr_mtr (s : State) (f : PwrPart → PwrPart) : (s.onPwr f).mtr = s.mtr := rfl
@[simp] theorem State.onPwr_fio (s : State) (f : PwrPart → PwrPart) : (s.onPwr f).fio = s.fio := rfl
@[simp] theorem State.onPwr_fbe (s : State) (f : PwrPart → PwrPart) : (s.onPwr f).fbe = s.fbe := rfl
@[simp] theorem State.onPwr_net (s : State) (f : PwrPart → PwrPart) : (s.onPwr f).net = s.net := rfl
@[simp] theorem State.onPwr_plk (s : State) (f : PwrPart → PwrPart) : (s.onPwr f).plk = s.plk := rfl
@[simp] theorem State.onPwr_ksu (s : State) (f : PwrPart → PwrPart) : (s.onPwr f).ksu = s.ksu := rfl
@[simp] theorem State.onPwr_nand (s : State) (f : PwrPart → PwrPart) : (s.onPwr f).nand = s.nand := rfl
@[simp] theorem State.onPwr_hlt (s : State) (f : PwrPart → PwrPart) : (s.onPwr f).hlt = s.hlt := rfl
@[simp] theorem State.onPwr_cfg (s : State) (f : PwrPart → PwrPart) : (s.onPwr f).cfg = s.cfg := rfl
@[simp] theorem State.onPwr_upd (s : State) (f : PwrPart → PwrPart) : (s.onPwr f).upd = s.upd := rfl
@[simp] theorem State.onPwr_hpt (s : State) (f : PwrPart → PwrPart) : (s.onPwr f).hpt = s.hpt := rfl
@[simp] theorem State.onPwr_mill (s : State) (f : PwrPart → PwrPart) : (s.onPwr f).mill = s.mill := rfl
@[simp] theorem State.onPwr_ms (s : State) (f : PwrPart → PwrPart) : (s.onPwr f).ms = s.ms := rfl
@[simp] theorem State.onPwr_answer (s : State) (f : PwrPart → PwrPart) : (s.onPwr f).answer = s.answer := rfl
@[simp] theorem State.onPwr_announced (s : State) (f : PwrPart → PwrPart) : (s.onPwr f).announced = s.announced := rfl
@[simp] theorem State.onPwr_free (s : State) (f : PwrPart → PwrPart) : (s.onPwr f).free = s.free := rfl
@[simp] theorem State.onPwr_pending (s : State) (f : PwrPart → PwrPart) : (s.onPwr f).pending = s.pending := rfl
@[simp] theorem State.onPwr_self (s : State) (f : PwrPart → PwrPart) : (s.onPwr f).pwr = f s.pwr := rfl
@[simp] theorem State.onPwr_rd (s : State) (f : PwrPart → PwrPart) (g : Fld) : (s.onPwr f).rd g = s.rd g := rfl
@[simp] theorem State.onPwr_byte (s : State) (f : PwrPart → PwrPart) (x : Nat) : (s.onPwr f).byte x = s.byte x := rfl
/-! `onHlt` -/
@[simp] theorem State.onHlt_regs (s : State) (f : HltPart → HltPart) : (s.onHlt f).regs = s.regs := rfl
@[simp] theorem State.onHlt_mem (s : State) (f : HltPart → HltPart) : (s.onHlt f).mem = s.mem := rfl
@[simp] theorem State.onHlt_ltu (s : State) (f : HltPart → HltPart) : (s.onHlt f).ltu = s.ltu := rfl
@[simp] theorem State.onHlt_pdir (s : State) (f : HltPart → HltPart) : (s.onHlt f).pdir = s.pdir := rfl
@[simp] theorem State.onHlt_grn (s : State) (f : HltPart → HltPart) : (s.onHlt f).grn = s.grn := rfl
@[simp] theorem State.onHlt_well (s : State) (f : HltPart → HltPart) : (s.onHlt f).well = s.well := rfl
@[simp] theorem State.onHlt_cxe (s : State) (f : HltPart → HltPart) : (s.onHlt f).cxe = s.cxe := rfl
@[simp] theorem State.onHlt_cle (s : State) (f : HltPart → HltPart) : (s.onHlt f).cle = s.cle := rfl
@[simp] theorem State.onHlt_mtr (s : State) (f : HltPart → HltPart) : (s.onHlt f).mtr = s.mtr := rfl
@[simp] theorem State.onHlt_fio (s : State) (f : HltPart → HltPart) : (s.onHlt f).fio = s.fio := rfl
@[simp] theorem State.onHlt_fbe (s : State) (f : HltPart → HltPart) : (s.onHlt f).fbe = s.fbe := rfl
@[simp] theorem State.onHlt_net (s : State) (f : HltPart → HltPart) : (s.onHlt f).net = s.net := rfl
@[simp] theorem State.onHlt_plk (s : State) (f : HltPart → HltPart) : (s.onHlt f).plk = s.plk := rfl
@[simp] theorem State.onHlt_ksu (s : State) (f : HltPart → HltPart) : (s.onHlt f).ksu = s.ksu := rfl
@[simp] theorem State.onHlt_pwr (s : State) (f : HltPart → HltPart) : (s.onHlt f).pwr = s.pwr := rfl
@[simp] theorem State.onHlt_nand (s : State) (f : HltPart → HltPart) : (s.onHlt f).nand = s.nand := rfl
@[simp] theorem State.onHlt_cfg (s : State) (f : HltPart → HltPart) : (s.onHlt f).cfg = s.cfg := rfl
@[simp] theorem State.onHlt_upd (s : State) (f : HltPart → HltPart) : (s.onHlt f).upd = s.upd := rfl
@[simp] theorem State.onHlt_hpt (s : State) (f : HltPart → HltPart) : (s.onHlt f).hpt = s.hpt := rfl
@[simp] theorem State.onHlt_mill (s : State) (f : HltPart → HltPart) : (s.onHlt f).mill = s.mill := rfl
@[simp] theorem State.onHlt_ms (s : State) (f : HltPart → HltPart) : (s.onHlt f).ms = s.ms := rfl
@[simp] theorem State.onHlt_answer (s : State) (f : HltPart → HltPart) : (s.onHlt f).answer = s.answer := rfl
@[simp] theorem State.onHlt_announced (s : State) (f : HltPart → HltPart) : (s.onHlt f).announced = s.announced := rfl
@[simp] theorem State.onHlt_free (s : State) (f : HltPart → HltPart) : (s.onHlt f).free = s.free := rfl
@[simp] theorem State.onHlt_pending (s : State) (f : HltPart → HltPart) : (s.onHlt f).pending = s.pending := rfl
@[simp] theorem State.onHlt_self (s : State) (f : HltPart → HltPart) : (s.onHlt f).hlt = f s.hlt := rfl
@[simp] theorem State.onHlt_rd (s : State) (f : HltPart → HltPart) (g : Fld) : (s.onHlt f).rd g = s.rd g := rfl
@[simp] theorem State.onHlt_byte (s : State) (f : HltPart → HltPart) (x : Nat) : (s.onHlt f).byte x = s.byte x := rfl
/-! `onUpd` -/
@[simp] theorem State.onUpd_regs (s : State) (f : UpdPart → UpdPart) : (s.onUpd f).regs = s.regs := rfl
@[simp] theorem State.onUpd_mem (s : State) (f : UpdPart → UpdPart) : (s.onUpd f).mem = s.mem := rfl
@[simp] theorem State.onUpd_ltu (s : State) (f : UpdPart → UpdPart) : (s.onUpd f).ltu = s.ltu := rfl
@[simp] theorem State.onUpd_pdir (s : State) (f : UpdPart → UpdPart) : (s.onUpd f).pdir = s.pdir := rfl
@[simp] theorem State.onUpd_grn (s : State) (f : UpdPart → UpdPart) : (s.onUpd f).grn = s.grn := rfl
@[simp] theorem State.onUpd_well (s : State) (f : UpdPart → UpdPart) : (s.onUpd f).well = s.well := rfl
@[simp] theorem State.onUpd_cxe (s : State) (f : UpdPart → UpdPart) : (s.onUpd f).cxe = s.cxe := rfl
@[simp] theorem State.onUpd_cle (s : State) (f : UpdPart → UpdPart) : (s.onUpd f).cle = s.cle := rfl
@[simp] theorem State.onUpd_mtr (s : State) (f : UpdPart → UpdPart) : (s.onUpd f).mtr = s.mtr := rfl
@[simp] theorem State.onUpd_fio (s : State) (f : UpdPart → UpdPart) : (s.onUpd f).fio = s.fio := rfl
@[simp] theorem State.onUpd_fbe (s : State) (f : UpdPart → UpdPart) : (s.onUpd f).fbe = s.fbe := rfl
@[simp] theorem State.onUpd_net (s : State) (f : UpdPart → UpdPart) : (s.onUpd f).net = s.net := rfl
@[simp] theorem State.onUpd_plk (s : State) (f : UpdPart → UpdPart) : (s.onUpd f).plk = s.plk := rfl
@[simp] theorem State.onUpd_ksu (s : State) (f : UpdPart → UpdPart) : (s.onUpd f).ksu = s.ksu := rfl
@[simp] theorem State.onUpd_pwr (s : State) (f : UpdPart → UpdPart) : (s.onUpd f).pwr = s.pwr := rfl
@[simp] theorem State.onUpd_nand (s : State) (f : UpdPart → UpdPart) : (s.onUpd f).nand = s.nand := rfl
@[simp] theorem State.onUpd_hlt (s : State) (f : UpdPart → UpdPart) : (s.onUpd f).hlt = s.hlt := rfl
@[simp] theorem State.onUpd_cfg (s : State) (f : UpdPart → UpdPart) : (s.onUpd f).cfg = s.cfg := rfl
@[simp] theorem State.onUpd_hpt (s : State) (f : UpdPart → UpdPart) : (s.onUpd f).hpt = s.hpt := rfl
@[simp] theorem State.onUpd_mill (s : State) (f : UpdPart → UpdPart) : (s.onUpd f).mill = s.mill := rfl
@[simp] theorem State.onUpd_ms (s : State) (f : UpdPart → UpdPart) : (s.onUpd f).ms = s.ms := rfl
@[simp] theorem State.onUpd_answer (s : State) (f : UpdPart → UpdPart) : (s.onUpd f).answer = s.answer := rfl
@[simp] theorem State.onUpd_announced (s : State) (f : UpdPart → UpdPart) : (s.onUpd f).announced = s.announced := rfl
@[simp] theorem State.onUpd_free (s : State) (f : UpdPart → UpdPart) : (s.onUpd f).free = s.free := rfl
@[simp] theorem State.onUpd_pending (s : State) (f : UpdPart → UpdPart) : (s.onUpd f).pending = s.pending := rfl
@[simp] theorem State.onUpd_self (s : State) (f : UpdPart → UpdPart) : (s.onUpd f).upd = f s.upd := rfl
@[simp] theorem State.onUpd_rd (s : State) (f : UpdPart → UpdPart) (g : Fld) : (s.onUpd f).rd g = s.rd g := rfl
@[simp] theorem State.onUpd_byte (s : State) (f : UpdPart → UpdPart) (x : Nat) : (s.onUpd f).byte x = s.byte x := rfl
/-! `onHpt` -/
@[simp] theorem State.onHpt_regs (s : State) (f : HptPart → HptPart) : (s.onHpt f).regs = s.regs := rfl
@[simp] theorem State.onHpt_mem (s : State) (f : HptPart → HptPart) : (s.onHpt f).mem = s.mem := rfl
@[simp] theorem State.onHpt_ltu (s : State) (f : HptPart → HptPart) : (s.onHpt f).ltu = s.ltu := rfl
@[simp] theorem State.onHpt_pdir (s : State) (f : HptPart → HptPart) : (s.onHpt f).pdir = s.pdir := rfl
@[simp] theorem State.onHpt_grn (s : State) (f : HptPart → HptPart) : (s.onHpt f).grn = s.grn := rfl
@[simp] theorem State.onHpt_well (s : State) (f : HptPart → HptPart) : (s.onHpt f).well = s.well := rfl
@[simp] theorem State.onHpt_cxe (s : State) (f : HptPart → HptPart) : (s.onHpt f).cxe = s.cxe := rfl
@[simp] theorem State.onHpt_cle (s : State) (f : HptPart → HptPart) : (s.onHpt f).cle = s.cle := rfl
@[simp] theorem State.onHpt_mtr (s : State) (f : HptPart → HptPart) : (s.onHpt f).mtr = s.mtr := rfl
@[simp] theorem State.onHpt_fio (s : State) (f : HptPart → HptPart) : (s.onHpt f).fio = s.fio := rfl
@[simp] theorem State.onHpt_fbe (s : State) (f : HptPart → HptPart) : (s.onHpt f).fbe = s.fbe := rfl
@[simp] theorem State.onHpt_net (s : State) (f : HptPart → HptPart) : (s.onHpt f).net = s.net := rfl
@[simp] theorem State.onHpt_plk (s : State) (f : HptPart → HptPart) : (s.onHpt f).plk = s.plk := rfl
@[simp] theorem State.onHpt_ksu (s : State) (f : HptPart → HptPart) : (s.onHpt f).ksu = s.ksu := rfl
@[simp] theorem State.onHpt_pwr (s : State) (f : HptPart → HptPart) : (s.onHpt f).pwr = s.pwr := rfl
@[simp] theorem State.onHpt_nand (s : State) (f : HptPart → HptPart) : (s.onHpt f).nand = s.nand := rfl
@[simp] theorem State.onHpt_hlt (s : State) (f : HptPart → HptPart) : (s.onHpt f).hlt = s.hlt := rfl
@[simp] theorem State.onHpt_cfg (s : State) (f : HptPart → HptPart) : (s.onHpt f).cfg = s.cfg := rfl
@[simp] theorem State.onHpt_upd (s : State) (f : HptPart → HptPart) : (s.onHpt f).upd = s.upd := rfl
@[simp] theorem State.onHpt_mill (s : State) (f : HptPart → HptPart) : (s.onHpt f).mill = s.mill := rfl
@[simp] theorem State.onHpt_ms (s : State) (f : HptPart → HptPart) : (s.onHpt f).ms = s.ms := rfl
@[simp] theorem State.onHpt_answer (s : State) (f : HptPart → HptPart) : (s.onHpt f).answer = s.answer := rfl
@[simp] theorem State.onHpt_announced (s : State) (f : HptPart → HptPart) : (s.onHpt f).announced = s.announced := rfl
@[simp] theorem State.onHpt_free (s : State) (f : HptPart → HptPart) : (s.onHpt f).free = s.free := rfl
@[simp] theorem State.onHpt_pending (s : State) (f : HptPart → HptPart) : (s.onHpt f).pending = s.pending := rfl
@[simp] theorem State.onHpt_self (s : State) (f : HptPart → HptPart) : (s.onHpt f).hpt = f s.hpt := rfl
@[simp] theorem State.onHpt_rd (s : State) (f : HptPart → HptPart) (g : Fld) : (s.onHpt f).rd g = s.rd g := rfl
@[simp] theorem State.onHpt_byte (s : State) (f : HptPart → HptPart) (x : Nat) : (s.onHpt f).byte x = s.byte x := rfl

/-- A register field reads as written, cut to its width. -/
@[simp] theorem State.rd_wr_same (s : State) (f : Fld) (v : Nat) : (s.wr f v).rd f = v % 2 ^ f.width := by simp [State.rd, State.wr]

/-- Another field reads as before. -/
theorem State.rd_wr_other (s : State) {f g : Fld} (v : Nat) (h : g.key ≠ f.key) : (s.wr f v).rd g = s.rd g :=
  sget_sput_other 0 s.regs _ h

/-- A byte reads as stored. -/
@[simp] theorem State.byte_setByte_same (s : State) (a : Nat) (b : Byte) : (s.setByte a b).byte a = b := by simp [State.byte, State.setByte]

/-- Another byte reads as before. -/
theorem State.byte_setByte_other (s : State) {a x : Nat} (b : Byte) (h : x ≠ a) : (s.setByte a b).byte x = s.byte x :=
  sget_sput_other 0 s.mem b h

/-- A one-bit field set or cleared is a field written. -/
@[simp] theorem State.raise_eq (s : State) (f : Fld) : s.raise f = s.wr f 1 := rfl
@[simp] theorem State.lower_eq (s : State) (f : Fld) : s.lower f = s.wr f 0 := rfl

theorem State.wr_tidy {s : State} (f : Fld) (v : Nat) (h : s.tidy) : (s.wr f v).tidy := ⟨swf_sput _ _ h.1, h.2⟩
theorem State.rd_clearWords (s : State) (addr n : Nat) (f : Fld) : (s.clearWords addr n).rd f =
    if (decide (addr * 32 ≤ f.key) && decide (f.key < (addr + 4 * n) * 32) && f.key % 128 == 0) = true then 0 else s.rd f :=
  sget_sdelIf _ _ _ _
theorem State.clearWords_byte (s : State) (addr n a : Nat) : (s.clearWords addr n).byte a = s.byte a := rfl
theorem State.clearWords_rest (s : State) (addr n : Nat) : (s.clearWords addr n).rest = s.rest := rfl
theorem State.clearWords_tidy {s : State} (addr n : Nat) (h : s.tidy) : (s.clearWords addr n).tidy := ⟨swf_sdelIf _ h.1, h.2⟩
theorem State.setByte_tidy {s : State} (a : Nat) (b : Byte) (h : s.tidy) : (s.setByte a b).tidy := ⟨h.1, swf_sput _ _ h.2.1, h.2.2⟩
theorem State.answerWord_tidy {s : State} (w : Nat) (h : s.tidy) : (s.answerWord w).tidy := h
theorem State.reply_tidy {s : State} (c r : Nat) (ws : List Word) (h : s.tidy) : (s.reply c r ws).tidy := h
theorem State.tookOpens_tidy {s : State} (n : Nat) (h : s.tidy) : (s.tookOpens n).tidy := h
theorem State.tookOpen_tidy {s : State} (h : s.tidy) : (s.tookOpen).tidy := h
theorem State.onLtu_tidy {s : State} (f : LtuPart → LtuPart) (h : s.tidy) : (s.onLtu f).tidy := h
theorem State.onGrn_tidy {s : State} (f : GrnPart → GrnPart) (h : s.tidy) : (s.onGrn f).tidy := h
theorem State.onWell_tidy {s : State} (f : WellPart → WellPart) (h : s.tidy) : (s.onWell f).tidy := h
theorem State.onCxe_tidy {s : State} (f : CxePart → CxePart) (h : s.tidy) : (s.onCxe f).tidy := h
theorem State.onCle_tidy {s : State} (f : ClePart → ClePart) (h : s.tidy) : (s.onCle f).tidy := h
theorem State.onMtr_tidy {s : State} (f : MtrPart → MtrPart) (h : s.tidy) : (s.onMtr f).tidy := h
theorem State.onFio_tidy {s : State} (f : FioPart → FioPart) (h : s.tidy) : (s.onFio f).tidy := h
theorem State.onFbe_tidy {s : State} (f : FbePart → FbePart) (h : s.tidy) : (s.onFbe f).tidy := h
theorem State.onNet_tidy {s : State} (f : NetPart → NetPart) (h : s.tidy) : (s.onNet f).tidy := h
theorem State.onPlk_tidy {s : State} (f : PlkPart → PlkPart) (h : s.tidy) : (s.onPlk f).tidy := h
theorem State.onKsu_tidy {s : State} (f : KsuPart → KsuPart) (h : s.tidy) : (s.onKsu f).tidy := h
theorem State.onPwr_tidy {s : State} (f : PwrPart → PwrPart) (h : s.tidy) : (s.onPwr f).tidy := h
theorem State.onHlt_tidy {s : State} (f : HltPart → HltPart) (h : s.tidy) : (s.onHlt f).tidy := h
theorem State.onUpd_tidy {s : State} (f : UpdPart → UpdPart) (h : s.tidy) : (s.onUpd f).tidy := h
theorem State.onHpt_tidy {s : State} (f : HptPart → HptPart) (h : s.tidy) : (s.onHpt f).tidy := h

theorem State.setPoint_tidy {s : State} (n : Nat) (p : Point) (h : s.tidy) : (s.setPoint n p).tidy := ⟨h.1, h.2.1, swf_sput _ _ h.2.2⟩

/-- Stored bytes keep the canonical form. -/
theorem State.setBytes_tidy {s : State} (a : Nat) (bs : List Byte) (h : s.tidy) : (s.setBytes a bs).tidy := by
  induction bs generalizing s a with
  | nil => exact h
  | cons b t ih => exact ih (a + 1) (State.setByte_tidy a b h)

end Sys2Proof.Machine
end

