-- ==== Sys2Proof/Laws/Log.lean ====
section
/-! SUPPORT. What reporting an event to Granary changes: Granary's own part and register fields, and the pair link that mirrors
the record. -/

namespace Sys2Proof.Machine

/-- `OnlyRecord`, with the canonical form kept; closed under what Granary does. -/
structure RecStep (s t : State) : Prop where
  same : t = { s with regs := t.regs, grn := t.grn, plk := t.plk }
  rd : ∀ f : Fld, ¬ f.ofGrn → t.rd f = s.rd f
  tidy : s.tidy → t.tidy

theorem RecStep.only {s t : State} (h : RecStep s t) : OnlyRecord s t := ⟨h.same, h.rd⟩

theorem RecStep.refl (s : State) : RecStep s s := ⟨rfl, fun _ _ => rfl, id⟩

theorem RecStep.trans {s t u : State} (h : RecStep s t) (k : RecStep t u) : RecStep s u := by
  refine ⟨?_, fun f hf => (k.rd f hf).trans (h.rd f hf), fun x => k.tidy (h.tidy x)⟩
  rw [k.same, h.same]

theorem RecStep.byte {s t : State} (h : RecStep s t) (a : Nat) : t.byte a = s.byte a := by rw [h.same]; rfl

variable {s t : State}

theorem RecStep.wr {f : Fld} (v : Nat) (hf : f.ofGrn) (h : RecStep s t) : RecStep s (t.wr f v) :=
  h.trans ⟨rfl, fun g hg => State.rd_wr_other t v fun e => hg (by unfold Fld.ofGrn; rw [e]; exact hf), State.wr_tidy f v⟩

theorem RecStep.onPlk (f : PlkPart → PlkPart) (h : RecStep s t) : RecStep s (t.onPlk f) :=
  h.trans ⟨rfl, fun _ _ => rfl, id⟩

theorem RecStep.onGrn (f : GrnPart → GrnPart) (h : RecStep s t) : RecStep s (t.onGrn f) :=
  h.trans ⟨rfl, fun _ _ => rfl, id⟩

theorem RecStep.sendLink (f : LinkFrame) (h : RecStep s t) : RecStep s (t.sendLink f) := by
  unfold State.sendLink
  split
  · exact (h.onPlk _).onPlk _
  · exact h

theorem RecStep.mirror (f : LinkFrame) (h : RecStep s t) : RecStep s (t.mirror f) := by
  unfold State.mirror
  split
  · exact h.sendLink f
  · exact h

theorem RecStep.grnCounts (h : RecStep s t) : RecStep s t.grnCounts :=
  (h.wr _ (by unfold Fld.ofGrn; decide)).wr _ (by unfold Fld.ofGrn; decide)

theorem RecStep.enter (r : Rec) (h : RecStep s t) : RecStep s (t.enter r) :=
  (((h.onGrn _).wr _ (by unfold Fld.ofGrn; decide)).grnCounts).mirror _

theorem RecStep.lose (lt k : Nat) (h : RecStep s t) : RecStep s (t.lose lt k) :=
  ((h.onGrn _).wr _ (by unfold Fld.ofGrn; decide)).wr _ (by unfold Fld.ofGrn; decide)

theorem RecStep.lostRecord (h : RecStep s t) : RecStep s t.lostRecord := by
  unfold State.lostRecord
  split
  · exact h
  · exact (h.onGrn _).enter _

theorem RecStep.drain (h : RecStep s t) : RecStep s t.drain := by
  unfold State.drain
  dsimp only
  split
  · exact (h.onGrn _).grnCounts
  · exact (h.onGrn _).lostRecord.grnCounts

theorem RecStep.take (r : Rec) (h : RecStep s t) : RecStep s (t.take r) := by
  unfold State.take
  repeat' split
  · exact h.onGrn _
  · exact h.lose _ _
  · exact (h.enter r).drain
  · exact h.enter r

/-- Reporting an event changes Granary and the link alone. -/
theorem State.logAt_only (s : State) (src code ten lt : Nat) (items : List Item) : RecStep s (s.logAt src code ten lt items) :=
  (RecStep.refl s).take _

/-- The same for an event reported now. -/
theorem State.log_only (s : State) (src code ten : Nat) (items : List Item) : RecStep s (s.log src code ten items) :=
  (RecStep.refl s).take _

/-- A flush changes Granary and the link alone. -/
theorem State.flush_only (s : State) : RecStep s s.flush := (RecStep.refl s).drain.wr _ (by unfold Fld.ofGrn; decide)

/-- A field outside Granary's window reads as before an event. -/
theorem State.log_rd (s : State) (src code ten : Nat) (items : List Item) {f : Fld} (h : ¬ f.ofGrn) :
    (s.log src code ten items).rd f = s.rd f := (s.log_only src code ten items).rd f h

end Sys2Proof.Machine
end

