-- ==== Sys2Proof/Tests/Slice0.lean ====
section
/-! SUPPORT. Tests: witnesses that meet the hypotheses of the statements together, each with one step on a small state, and one
ill-formed command for each check of WellFormed. Expected values come from the spec's tables and worked examples. -/

namespace Sys2Proof.Tests

open Sys2Proof.Machine

set_option Elab.async false

/-- A step answers a next state with a property. -/
def after (o : Host.Outcome State Fault Refusal) (p : State → Bool) : Bool := match o with | .next t => p t | _ => false

/-- Fields set one after the other. -/
def withF (s : State) (l : List (Fld × Nat)) : State := l.foldl (fun s x => s.wr x.1 x.2) s

/-! ## Queue, registers, address space -/

theorem test_reset_inv : State.reset.tidy := by unfold State.tidy; decide
theorem test_step_runs_front : after (step { State.reset with pending := [.hltWdogKick, .mainsLossTimeout] })
    (fun t => t.pending == [.mainsLossTimeout]) = true := by decide
theorem test_step_idles : after (step State.reset) (fun t => t.ms == 1 && t.rd CXE_MSCNT_MS == 1) = true := by decide
theorem test_decode_no_bits : decodeTableWord 32 0xC1100400 = none := by decide

/-- LTU_LOG-free registers: HPT_IRQEN takes its four bits. -/
theorem wit_register_write : (0x400E0008#32).toNat % 4 = 0 ∧ inWindows (0x400E0008#32).toNat = true ∧
    State.reset.specialWrite (0x400E0008#32).toNat (0xFF#32).toNat = none ∧
    after (exec (.registerWrite 0x400E0008 4 0xFF) State.reset) (fun t => t.rd HPT_IRQEN_EN == 15) = true := by decide
theorem wit_w1c_setting_wins : (0x400E0004#32).toNat % 4 = 0 ∧ State.reset.specialWrite (0x400E0004#32).toNat 12 = none ∧
    after (exec (.w1cRegisterWrite 0x400E0004 12 4) (withF State.reset [(HPT_IRQ_PF, 1), (HPT_IRQ_CRCERR, 1)]))
      (fun t => t.rd HPT_IRQ_PF == 0 && t.rd HPT_IRQ_CRCERR == 1) = true := by decide
theorem wit_rc_read : State.reset.latchingRead (0x400E0018#32).toNat = none ∧ State.reset.derivedWord (0x400E0018#32).toNat = none ∧
    after (exec (.rcRegisterRead 0x400E0018 (2 ^ 16)) (withF State.reset [(HPT_ERRCNT_CRC, 5), (HPT_ERRCNT_BULK, 7)]))
      (fun t => t.answer.words == [0x00050007#32] && t.rd HPT_ERRCNT_CRC == 1 && t.rd HPT_ERRCNT_BULK == 0) = true := by decide
theorem wit_other_width : ((2 : Nat) ≠ 4 ∨ (0x400E0008#32).toNat % 4 ≠ 0) ∧ (0x400E0009#32).toNat % 4 ≠ 0 ∧
    after (exec (.rcRegisterRead 0x400E001A 0) State.reset) (fun t => t.answer.words == [0#32]) = true ∧
    after (exec (.fabricAccess .sup 0 .read 0x400E0008 8 0 .clean) State.reset) (fun t => t.answer.words == [0#32, 0#32]) = true := by decide +kernel
/-- The first addresses above and below a region, and ROM for Mill. -/
theorem wit_fabric_refused : (∀ r ∈ mapRegions, (0x00040000#32).toNat < r.1 ∨ r.2 < (0x00040000#32).toNat) ∧
    (∀ r ∈ mapRegions, (0x0FFFFFFF#32).toNat < r.1 ∨ r.2 < (0x0FFFFFFF#32).toNat) ∧ (0x0003FFFF#32).toNat ≤ 0x0003FFFF ∧
    after (exec (.fabricAccess .sup 0 .read 0x00040000 4 0 .clean) State.reset)
      (fun t => t.answer.busError && t.rd HLT_ERR_A_FABRIC == 1) = true ∧
    after (exec (.fabricAccess (.mill 0) 0 .read 0x0003FFFC 4 0 .clean) State.reset) (fun t => t.answer.busError) = true := by decide
theorem wit_fabric_code_bank : let s := withF State.reset [(CXE_STAT_LOADED, 1)]
    s.rd CXE_STAT_LOADED = 1 ∧ s.rd CXE_STAT_CODE_BANK = 0 ∧
    after (exec (.fabricAccess .sup 0 .write 0x200FFFFC 4 1 .clean) s) (fun t => t.answer.busError) = true ∧
    after (exec (.fabricAccess .sup 0 .write 0x20100000 4 1 .clean) s) (fun t => t.word 0x20100000 == 1#32) = true := by decide
theorem wit_fabric_dram : 0x80000000 ≤ (0x8FFFFFFC#32).toNat ∧ (0x8FFFFFFC#32).toNat ≤ 0x8FFFFFFC ∧
    after (exec (.fabricAccess .net 3 .write 0x8FFFFFFC 4 0xA5A55A5A .clean) State.reset)
      (fun t => t.word 0x8FFFFFFC == 0xA5A55A5A#32) = true ∧
    after (exec (.fabricAccess .cxe 3 .read 0x80000000 4 0 .clean) State.reset) (fun t => t.answer.busError) = true := by decide

/-! ## Line time and the scheduler -/

/-- LTU in LOCK with a cycle open. -/
def locked : State := { withF State.reset [(LTU_STAT_STATE, 1), (LTU_CFG_PJ_LIM, 1)] with
  ltu := { State.reset.ltu with cycleOpen := true }, mtr := { State.reset.mtr with accepted := true } }

theorem wit_first_crossing : State.reset.ltu.refNew = false ∧ State.reset.ltu.cycleOpen = false ∧
    after (exec (.referenceZeroCrossing 50000 2300 0) State.reset) (fun t => t.ltu.cycleOpen) = true := by decide
theorem wit_phase_jump : locked.ltu.refNew = false ∧ locked.ltu.cycleOpen = true ∧ locked.rd LTU_STAT_STATE = 1 ∧
    locked.rd LTU_QUAL_VMIN ≤ 2300 ∧ locked.rd LTU_CFG_PJ_LIM ≠ 0 ∧
    locked.rd LTU_CFG_PJ_LIM * 1024 < (sint16 (65536 - (0x2000#16).toNat)).natAbs ∧
    after (exec (.referenceZeroCrossing 50000 2300 0x2000) locked)
      (fun t => t.rd LTU_STAT_STATE == 4 && t.rd LTU_STAT_SLEW_REM == 0x2000 && t.rd LTU_STAT_SLEW_DIR == 0) = true := by decide
theorem wit_mains_low : locked.mtr.accepted = true ∧ 799 < locked.rd LTU_QUAL_VMIN ∧
    after (exec (.referenceZeroCrossing 50000 799 0) locked) (fun t => t.rd LTU_STAT_STATE == 2 && t.rd LTU_EVT_LOSS == 1) = true ∧
    after (exec .mainsLossTimeout locked) (fun t => t.rd LTU_STAT_STATE == 2 && t.rd LTU_STAT_LT_VIRT == 1) = true := by decide
theorem wit_line_cycle : locked.lineRuns = true ∧ locked.rd LTU_SCHED_EN = 0 ∧ locked.rd LTU_SITE_CFG_EN = 0 ∧
    locked.announced = [] ∧ locked.net.noticeAll = false ∧
    after (exec (.lineCycleBoundary 0 0) locked) (fun t => t.ltu.now == 65536) = true := by decide
/-- CLOAD steps c forward only. -/
theorem wit_cload : State.reset.rd LTU_STAT_STATE = 0 ∧ State.reset.rd LTU_SCHED_EN = 0 ∧
    State.reset.ltu.now < (1#24).toNat * 2 ^ 32 ∧ (0#24).toNat * 2 ^ 32 ≤ State.reset.ltu.now ∧
    after (exec (.cload 1) State.reset) (fun t => t.ltu.now == 2 ^ 32 && t.rd LTU_CKPT_CKPT == 2) = true := by decide

/-- The site frame is on, and PTP is synchronous. -/
def onSite : State := withF State.reset [(LTU_SITE_CFG_EN, 1), (NET_PTP_STAT_SYNC, 1), (LTU_SITE_CFG_RANK, 3)]
def ann1 : Announcement := ⟨7, 2, false, true, true, 0x10005, 50000⟩

theorem wit_announcement : onSite.rd LTU_SITE_CFG_EN = 1 ∧ onSite.rd NET_PTP_STAT_SYNC = 1 ∧ onSite.ltu.heard = [] ∧
    onSite.rd LTU_SITE_STAT_ROLE ≠ 3 ∧ onSite.ltu.siteFrozen = false ∧ onSite.ltu.siteAcq = true ∧
    after (exec (.announcementReceived ann1 5) onSite)
      (fun t => t.ltu.ofs == 0x10000 && t.rd LTU_SITE_STAT_ROLE == 2 && t.rd LTU_SITE_STAT_MADDR == 7) = true := by decide
theorem wit_site_loss : let s := { withF onSite [(LTU_SITE_STAT_ROLE, 2), (LTU_SITE_STAT_MADDR, 7)] with
      ltu := { onSite.ltu with heard := [⟨7, 2, 4⟩] } }
    s.rd LTU_SITE_CFG_EN = 1 ∧ s.rd LTU_SITE_STAT_ROLE = 2 ∧
    (∃ h ∈ s.ltu.heard, h.addr = s.rd LTU_SITE_STAT_MADDR ∧ max 2 (s.rd LTU_SITE_CFG_TMO) ≤ h.age) ∧
    after (exec .siteLoss s) (fun t => t.rd LTU_EVT_SITE_LOSS == 1 && t.ltu.heard == []) = true := by decide
theorem wit_site_election : let s := { onSite with ltu := { onSite.ltu with quiet := 4 } }
    s.rd LTU_SITE_CFG_RANK ≠ 0 ∧ s.rd LTU_SITE_STAT_ROLE ≠ 3 ∧ s.ltu.heard = [] ∧ max 2 (s.rd LTU_SITE_CFG_TMO) ≤ s.ltu.quiet ∧
    after (exec .siteMasterElection s) (fun t => t.rd LTU_SITE_STAT_ROLE == 3) = true := by decide
theorem wit_scheduler_enable : let s := { State.reset with fio := { State.reset.fio with started := true } }
    s.rd LTU_SCHED_EN = 0 ∧ s.fio.started = true ∧ after (exec .schedulerEnable s) (fun t => t.rd LTU_SCHED_EN == 1) = true := by decide
/-- Reserved bits of word 0 read 0; the active bank is not written while the scheduler runs. -/
theorem wit_entry_write : State.reset.rd LTU_SCHED_EN = 0 ∧ (withF State.reset [(LTU_SCHED_EN, 1)]).rd LTU_SCHED_EN = 1 ∧
    after (exec (.schedulerEntryWrite 0 511 0 0xFFFFFFFF) State.reset)
      (fun t => (sget SchedEntry.zero (t.ltu.bank 0) 511).word 0 == 0xE7FFFFFF) = true := by decide
/-- The swap is armed one cycle ahead at the least, the switch-over entry 256 la. -/
theorem wit_swap_arm : let s := withF State.reset [(LTU_SWAP_LO_X_LO, 65536), (LTU_SWO_LO_X_LO, 256)]
    s.ltu.now + 65536 ≤ (0#24).toNat * 2 ^ 32 + s.rd LTU_SWAP_LO_X_LO ∧ s.rd LTU_SCHED_SWAP_PEND = 0 ∧
    s.ltu.now + 256 ≤ (0#24).toNat * 2 ^ 32 + s.rd LTU_SWO_LO_X_LO ∧
    after (exec (.swapArm 0) s) (fun t => t.rd LTU_SCHED_SWAP_PEND == 1) = true ∧
    after (exec (.switchoverEntryArm 0) s) (fun t => t.rd LTU_SCHED_SWO_ARM == 1) = true ∧
    after (exec (.swapArm 0) (withF s [(LTU_SWAP_LO_X_LO, 65535)])) (fun t => t.rd LTU_SCHED_SWAP_PEND == 0) = true := by decide

/-- Two entries of task activations: the earlier one is first. -/
def entryAt (kind tgt next : Nat) : SchedEntry := ⟨true, false, false, kind, tgt, 1, 0, 0, 0, next⟩
def scheduled (k tgt next : Nat) (s : State) : State :=
  { s.wr LTU_SCHED_EN 1 with ltu := { s.ltu with bank0 := [(3, entryAt k tgt next), (5, entryAt 4 9 60000)] } }
theorem wit_event_first : schedFirst (scheduled 4 2 100 State.reset) 3 (entryAt 4 2 100) := by
  refine ⟨by decide, by decide, by decide, rfl, rfl, by decide, by decide, by decide, by decide, ?_⟩
  have all : ∀ x ∈ (scheduled 4 2 100 State.reset).ltu.bank0, x ≠ (3, entryAt 4 2 100) → x.2.en = true → x.2.site = false ∧
      (100 < x.2.next ∨ 100 = x.2.next ∧ (4 < x.2.kind ∨ 4 = x.2.kind ∧ 2 < x.2.tgt)) := by decide
  exact fun j f h hne => all (j, f) h hne
theorem wit_rebase : 0 < (entryAt 4 2 100).period ∧ (entryAt 4 2 100).next < 2 ^ 56 ∧ 70000 + (entryAt 4 2 100).period ≤ 2 ^ 56 ∧
    ((entryAt 4 2 100).rebase 70000).next = 100 + 2 * 65536 := by decide

/-! ## The point directory -/

/-- A state in which handle 5 is a point of tenant 1, of a type and a source, visible to all, that everyone may read, write and
force. -/
def pointAt (ty : PType) (kind idx : Nat) : State :=
  (withF State.reset [(PDIR_TEN_CFG_EN 1, 1)]).setPoint 5 { Point.undef with defn := some ⟨.pub, 1, ty, kind, idx, 0x1FF⟩ }
def pd (ty : PType) (kind idx : Nat) : PointDef := ⟨.pub, 1, ty, kind, idx, 0x1FF⟩

theorem wit_point_read : tenantEnabled (pointAt .int32 6 0) (1 : Tenant).val ∧ ¬ tenantEnabled State.reset (2 : Tenant).val ∧
    (5#16).toNat ≤ 8191 ∧ 8191 < (8192#16).toNat ∧ ((pointAt .int32 6 0).point 5).defn = some (pd .int32 6 0) ∧
    visAdmits .pub 1 1 ∧ ¬ visAdmits .priv 2 1 ∧ (0x1FF : Nat).testBit (accBit 1 1 0) = true ∧
    after (exec (.pointRead 8 1 5 1 .clean) (pointAt .int32 6 0)) (fun t => t.answer == ⟨0, 0, [0#32], false⟩) = true ∧
    after (exec (.pointRead 8 1 8192 0 .clean) (pointAt .int32 6 0)) (fun t => t.answer.code == 0x0301) = true ∧
    after (exec (.pointRead 8 2 5 0 .clean) (pointAt .int32 6 0)) (fun t => t.answer.code == 0x0307) = true := by
  unfold tenantEnabled visAdmits; decide
/-- A BOOL takes 1 for any value other than 0. -/
theorem wit_transaction_write : (0x1FF : Nat).testBit (accBit 1 1 1) = true ∧ (pd .bool 6 0).srcKind = 6 ∧
    after (exec (.transactionWrite 8 1 5 0 .bool 7) (pointAt .bool 6 0))
      (fun t => (t.point 5).value == 1#32 && (t.point 5).qual == 0#8 && (t.point 5).upd == 1#16) = true ∧
    after (exec (.transactionWrite 8 1 5 0 .int32 7) (pointAt .bool 6 0)) (fun t => t.answer.code == 0x0304) = true ∧
    after (exec (.transactionWrite 8 1 5 0 .bool 7) (pointAt .bool 4 0)) (fun t => t.answer.code == 0x0303) = true ∧
    after (exec (.transactionWrite 8 1 5 2 .bool 7) (pointAt .bool 6 0)) (fun t => t.answer.code == 0x0302) = true := by decide
theorem wit_table_window : (2 : Fin 8) = 2 ∧ ((pointAt .int32 6 0).point 5).defn = some (pd .int32 6 0) ∧
    (State.reset.point 5).defn = none ∧
    after (exec (.tableWindowWrite 8 1 5 2 4 77) (pointAt .int32 6 0)) (fun t => (t.point 5).value == 77#32) = true ∧
    after (exec (.tableWindowRead 8 1 5 2 .clean) State.reset) (fun t => t.answer.words == [0#32] && !t.answer.busError) = true ∧
    after (exec (.tableWindowRead 8 1 5 2 .uncorrectable) (pointAt .int32 6 0))
      (fun t => t.answer.busError && (t.point 5).qual == 0x87#8) = true := by decide
theorem wit_force : let s := (pointAt .int32 6 0).wr PDIR_FVAL_VAL 9
    forceOpen s ∧ tenantEnabled s 1 ∧ (0x1FF : Nat).testBit (accBit 1 1 2) = true ∧ s.pdir.jobs = [] ∧ s.pdir.shadow = none ∧
    after (exec (.force 1 5) s) (fun t => (t.point 5).forced && (t.point 5).fval == 9#32 && t.pdir.jobs.length == 1) = true ∧
    after (exec (.release 1 5) s) (fun t => t.answer.code == 0x0306) = true := by
  unfold forceOpen tenantEnabled; decide
theorem wit_force_record : let s := { (pointAt .int32 6 0) with pdir := { (pointAt .int32 6 0).pdir with jobs := [⟨5, true, 1⟩] } }
    s.pdir.jobs = [⟨5, true, 1⟩] ∧ s.rd PLK_STAT_ROLE = 0 ∧
    after (exec (.forceRecordComplete 5) s) (fun t => t.pdir.jobs == [] && t.rd PDIR_EVT_FORCE_SET == 1) = true := by decide

/-! ## Knaec -/

/-- Lane 2 runs at code word 0, which holds `w`; W1 to W3 hold values. -/
def knProg : Prog := ⟨1, 1, 0, 3, [⟨7, 1, 1, 0, false, true, 0, 0, 4, 1, 0, [5], [5]⟩], [], [⟨1, 0, 64, false, 1⟩], [(0, 0)], []⟩
def knAct : Act := ⟨7, 0, some 2, false, false, 0, 0, [(5, [6, 0, 0, 6, 0, 0, 0, 0])], [], none, false, false, false⟩
def knState (w x y z : Word) : State :=
  let s := State.reset.setWord 0x20000000 w
  let e := { s.cxe with prog := some knProg, acts := [knAct] }
  withLane { s with cxe := e } 2
    { Lane.idle with busy := true, task := 7, w := (((Lane.idle.w.set 1 x).set 2 y).set 3 z) }
def knLane (t : State) : Lane := t.cxe.lanes[(2 : Fin 8)]
def knRun (i : Instr) (w x y z : Word) (p : Lane → Bool) : Bool := after (exec i (knState w x y z)) fun t => p (knLane t)

theorem wit_kn_at : knAt (knState (knWord 0x20 3 1 (.reg 2)) 1 2 3) 2 (knWord 0x20 3 1 (.reg 2)) := by unfold knAt; decide
theorem wit_kn_activation : (knState 0 0 0 0).cxe.acts.map Act.lane = [some 2] ∧ (knLane (knState 0 0 0 0)).task = 7 := by decide
/-- ADD carries out of bit 31; SUB sets C where no borrow occurs. -/
theorem test_kn_add : knRun (.knAdd 2 3 1 (.reg 2)) (knWord 0x20 3 1 (.reg 2)) 0xFFFFFFFF 1 0
    (fun l => l.w[3] == 0#32 && l.fl.c && l.fl.z && !l.fl.v && l.pc == 1) = true := by decide
theorem test_kn_sub : knRun (.knSub 2 3 1 (.imm 0xFFFF)) (knWord 0x21 3 1 (.imm 0xFFFF)) 0x7FFFFFFF 0 0
    (fun l => l.w[3] == 0x80000000#32 && l.fl.v && l.fl.n && !l.fl.c) = true := by decide
/-- FCMP of 1.0 and 2.0, and of a NaN. -/
theorem wit_kn_compare : knRun (.knFcmp 2 1 (.reg 2)) (knWord 0x4B 0 1 (.reg 2)) 0x3F800000 0x40000000 0
      (fun l => (l.fl.z, l.fl.n, l.fl.c, l.fl.v) == (false, true, false, false)) = true ∧
    knRun (.knFcmp 2 1 (.reg 2)) (knWord 0x4B 0 1 (.reg 2)) 0x7FC00000 0x40000000 0
      (fun l => (l.fl.z, l.fl.n, l.fl.c, l.fl.v) == (false, false, false, true)) = true := by decide
theorem test_kn_div : knRun (.knDiv 2 3 1 (.reg 2)) (knWord 0x24 3 1 (.reg 2)) 0x80000000 0xFFFFFFFF 0
    (fun l => l.w[3] == 0x80000000#32 && l.fl.v) = true := by decide
theorem test_kn_shl : knRun (.knShl 2 3 1 (.imm 32)) (knWord 0x34 3 1 (.imm 32)) 1 0 0
    (fun l => l.w[3] == 0#32 && l.fl.c) = true := by decide
theorem test_kn_sar : knRun (.knSar 2 3 1 (.imm 63)) (knWord 0x36 3 1 (.imm 63)) 0x80000000 0 0
    (fun l => l.w[3] == 0xFFFFFFFF#32 && l.fl.c) = true := by decide
/-- 1.5 + 2.25 = 3.75; 1 / 0 is infinite with V; a NaN is quieted. -/
theorem test_kn_fadd : knRun (.knFadd 2 3 1 (.reg 2)) (knWord 0x40 3 1 (.reg 2)) 0x3FC00000 0x40100000 0
    (fun l => l.w[3] == 0x40700000#32 && !l.fl.v) = true := by decide
theorem test_kn_fdiv : knRun (.knFdiv 2 3 1 (.reg 2)) (knWord 0x43 3 1 (.reg 2)) 0x3F800000 0 0
    (fun l => l.w[3] == 0x7F800000#32 && l.fl.v) = true := by decide
theorem test_kn_fsqrt : knRun (.knFsqrt 2 3 (.reg 1)) (knWord 0x44 3 0 (.reg 1)) 0x40800000 0 0
    (fun l => l.w[3] == 0x40000000#32) = true := by decide
theorem test_kn_fmin : knRun (.knFmin 2 3 1 (.reg 2)) (knWord 0x48 3 1 (.reg 2)) 0x80000000 0 0
    (fun l => l.w[3] == 0x80000000#32) = true := by decide
theorem test_kn_ftoi : knRun (.knFtoi 2 3 (.reg 1)) (knWord 0x4E 3 0 (.reg 1)) 0xC0200000 0 0
    (fun l => l.w[3] == 0xFFFFFFFE#32 && !l.fl.v) = true := by decide
theorem test_kn_frnd : knRun (.knFrnd 2 3 (.reg 1)) (knWord 0x50 3 0 (.reg 1)) 0x40200000 0 0
    (fun l => l.w[3] == 0x40000000#32) = true := by decide
theorem test_kn_br : knHolds ⟨true, false, false, false, false⟩ 1 ∧
    knRun (.knBr 2 2 5) (knWord 0x03 2 0 (.imm 5)) 0 0 0 (fun l => l.pc == 6) = true := ⟨by simp [knHolds], by decide⟩
theorem test_kn_loop : knRun (.knLoop 2 3 9) (knWord 0x06 3 0 (.imm 9)) 0 0 7
    (fun l => l.w[3] == 0#32 && l.loops == [⟨8, 0, 3, 1, 0⟩]) = true := by decide
theorem test_kn_ldd : (knState 0 0 0 0).inRange ((knState 0 0 0 0).taskTen 7) 8 = true ∧
    knRun (.knLdd 2 3 1 8 .clean) (knWord 0x11 3 1 (.imm 8)) 0 0 9 (fun l => l.w[3] == 0#32) = true := by decide
theorem test_kn_prd : knRun (.knPrd 2 3 0 5) (knWord 0x60 3 0 (.imm 5)) 0 0 0 (fun l => l.w[3] == 6#32 && l.fl.q) = true := by decide
theorem test_kn_tmr : after (exec (.knTmr 2 3 1 0 0) (knState (knWord 0x70 3 1 (.imm 0)) 1 0 9))
    (fun t => (t.timer 0).running && (knLane t).w[3] == 1#32) = true := by decide
/-- Words of the spec's listing: PRD W1, 0x0400.0; PWR 0x0402, W7 with quality 0; FMA W5, W11, with an immediate. -/
theorem test_kn_words : knCode (.knPrd 0 1 0 0x0400) = some (0, 0xC1100400) ∧
    knCode (.knPwr 0 0 7 false 0x0402) = some (0, 0xC3070402) ∧ wordOk 0xC1100400 = true ∧
    knCode (.knFma 0 7 8 (.imm 0xCCCD)) = some (0, 0x8B78CCCD) ∧ wordOk 0xFE000000 = false := by decide

/-! ## Cyclic execution -/

/-- The scheduler runs; entry 0 of the acting bank has this kind and target, a period of one cycle and its next due time. -/
def sched (kind tgt due : Nat) (s : State) : State :=
  let s := withF s [(LTU_SCHED_EN, 1)]
  { s with ltu := { s.ltu with bank0 := [(0, ⟨true, false, false, kind, tgt, 1, 0, 0, 0, due⟩)] } }
/-- The image of the Knaec tests with these activations and no lane busy. -/
def taskState (acts : List Act) : State :=
  let e := { State.reset.cxe with prog := some knProg, acts := acts }
  { State.reset with cxe := e }
def pend (task due : Nat) : Act := ⟨task, due, none, false, false, 0, 0, [], [], none, false, false, false⟩
def taskPoint (s : State) : State := s.setPoint 5 { Point.undef with defn := some ⟨.pub, 1, .int32, 4, 7, 0x1FF⟩ }

theorem wit_task_activation : let s := sched 4 7 0 (taskState [])
    s.issuable 4 7 = some ⟨0, 4, 7, 0⟩ ∧ s.takesActs = true ∧ (s.taskInfo 7).isSome = true ∧ s.rd (CXE_TASK_CFG_DIS 7) = 0 ∧
    after (exec (.taskActivation 7) s) (fun t => t.cxe.acts == [pend 7 0]) = true ∧
    after (exec (.taskActivation 7) (sched 4 7 0 (taskState [pend 7 0])))
      (fun t => t.cxe.acts == [pend 7 0] && t.rd (CXE_TASK_LAST_OUTCOME 7) == 4 && t.rd (CXE_TASK_CNT_SKIPPED 7) == 1) = true := by
  decide
/-- Stopped, nothing is counted. -/
theorem wit_task_stopped : let s := sched 4 7 0 (withF (taskState []) [(CXE_STAT_STOPPED, 1)])
    s.issuable 4 7 = some ⟨0, 4, 7, 0⟩ ∧ s.rd CXE_STAT_STOPPED = 1 ∧ s.plk.leaving = false ∧
    after (exec (.taskActivation 7) s) (fun t => t.cxe == s.cxe && t.rd (CXE_TASK_CNT_SKIPPED 7) == 0) = true := by decide
/-- Lane 1 is busy, so the activation takes lane 2 of its set; point 5 is undefined and reads as 0, UNSET. -/
theorem wit_dispatch : let i : TaskInfo := ⟨7, 1, 1, 0, false, true, 0, 0, 6, 1, 0, [5], [5]⟩
    let s := taskState [pend 7 0]
    let e := { s.cxe with prog := some { knProg with tasks := [i] }, lanes := s.cxe.lanes.set 1 { Lane.idle with busy := true } }
    let s := { s with cxe := e }
    s.takesActs = true ∧ pend 7 0 ∈ s.cxe.acts ∧ s.taskInfo 7 = some i ∧ (i.lanes.testBit 2 = true ∧ s.cxe.lanes[(2 : Fin 8)].busy = false) ∧
    (s.cxe.acts.map Act.task).Nodup ∧
    after (exec .activationDispatch s) (fun t => (knLane t).busy && (knLane t).task == 7 &&
      t.cxe.acts.map Act.image == [[(5, [0, 0xC0, 0, 0, 0, 0, 0, 0])]] && t.rd (CXE_TASK_LAST_LANE 7) == 2) = true := by decide
def endAct : Act := { pend 7 0 with lane := some 2, staged := [⟨5, 9, 0⟩] }
theorem wit_activation_ends : let s := taskPoint (knState (knBareWord 0x02 0) 0 0 0)
    let e := { s.cxe with acts := [endAct] }
    let s := { s with cxe := e }
    commitable s endAct ∧ s.taskInfo 7 = some ⟨7, 1, 1, 0, false, true, 0, 0, 4, 1, 0, [5], [5]⟩ ∧
    after (exec (.knEnd 2) s) (fun t => t.cxe.acts == [{ endAct with ended := true }] && t.cxe.lanes == s.cxe.lanes.set 2 Lane.idle) = true := by
  refine ⟨⟨by decide, ?_⟩, by decide, by decide⟩
  intro w hw
  exact ⟨⟨.pub, 1, .int32, 4, 7, 0x1FF⟩, by revert w; decide⟩
theorem wit_output_commit : let s := sched 2 7 0 (taskPoint (taskState [{ endAct with ended := true, lane := none }]))
    s.issuable 2 7 = some ⟨0, 2, 7, 0⟩ ∧ s.cxeRuns = true ∧
    after (exec (.outputCommit 7) s) (fun t => t.cxe.acts == [] && (t.point 5).value == 9#32 && (t.point 5).upd == 1#16) = true := by decide
theorem wit_deadline : let s := taskPoint (taskState [endAct])
    let stop := withF s [(CXE_STAT_MODE, 1)]
    (0 : Nat) ≤ s.ltu.now ∧ s.rd CXE_STAT_MODE = 0 ∧ stop.rd PLK_STAT_ROLE = 0 ∧ (s.point 5).fedBy 4 7 = true ∧
    after (exec (.deadlineOverrun 7) s) (fun t => t.cxe.acts == [{ endAct with overrun := true }] && (t.point 5).qual == 0x41#8) = true ∧
    after (exec (.deadlineOverrun 7) stop) (fun t => t.cxe.acts == [] && t.rd CXE_STAT_STOPPED == 1 && (t.point 5).qual == 0x86#8) = true ∧
    after (exec (.codeFetchFault 2) s) (fun t => t.cxe.acts == [] && t.rd (CXE_TASK_CFG_DIS 7) == 1 && (t.point 5).qual == 0x86#8) = true := by
  decide
theorem wit_cxe_restart : let s := withF State.reset [(CXE_STAT_STOPPED, 1)]
    s.hlt.supRestart = false ∧ s.rd PWR_STAT_SLEEP < 2 ∧ s.rd PWR_STAT_PF = 0 ∧ s.rd PLK_STAT_ROLE = 0 ∧
    after (exec (.cxeRestart 0) s) (fun t => t.answer.code == 0x0500 && t.rd CXE_STAT_STOPPED == 0) = true ∧
    after (exec (.cxeRestart 1) s) (fun t => t.answer.code == 0x0504 && t.rd CXE_STAT_STOPPED == 1) = true := by decide
def task0 : Act := { pend 0 0 with ended := true }
def prog0 : Prog := { knProg with tasks := [⟨0, 0, 1, 0, false, true, 0, 0, 4, 1, 0, [], []⟩] }
theorem wit_snapshot_begins : let s := sched 2 0 0 (taskState [task0])
    let e := { s.cxe with prog := some prog0 }
    let s := { s with cxe := e }
    s.taskInfo 0 = prog0.tasks[0]? ∧ s.issuable 2 0 = some ⟨0, 2, 0, 0⟩ ∧ s.cxeRuns = true ∧ s.rd CXE_STAT_SNAP_BUSY = 0 ∧
    after (exec (.outputCommit 0) s) (fun t => t.cxe.acts == [] && t.rd CXE_STAT_SNAP_BUSY == 1) = true ∧
    after (exec (.outputCommit 0) (withF s [(CXE_STAT_SNAP_BUSY, 1)])) (fun t => t.rd CXE_SNAP_CNT_SKIP == 1) = true := by decide
/-- Row 3 was kept when it was written; row 8190 is the last one and is taken as it stands. -/
theorem wit_snapshot_completes : let s := (withF State.reset [(CXE_STAT_SNAP_BUSY, 1), (CXE_STAT_SNAP_BANK, 1)]).setWord 0x211FFE00 7
    let e := { s.cxe with pend := ⟨false, [3, 8190]⟩, kept := [(3, [(0x21000304, 5)])] }
    let s := { s with cxe := e }
    Memory.wf s.mem = true ∧ (∀ k ∈ s.cxe.kept, s.cxe.pend.has k.1 = true ∧ cellsFit (0x21000000 + k.1 * 256) 256 k.2 = true) ∧
    (s.cxe.kept.map Prod.fst).Nodup ∧
    after (exec (.snapshotComplete 65535 []) s) (fun t => t.word 0x70000304 == 5#32 && t.word 0x701FFE00 == 7#32 &&
      t.word 0x701FFF00 == 0x50414E53#32 && t.rd CXE_SNAP_SEQ_SEQ == 1 && t.rd CXE_STAT_SNAP_BANK == 0) = true := by decide +kernel
theorem wit_restore : let s := State.reset.setWord 0x70200000 3
    s.rd LTU_SCHED_EN = 0 ∧ Memory.wf s.mem = true ∧ (withF s [(LTU_SCHED_EN, 1)]).rd LTU_SCHED_EN = 1 ∧
    after (exec (.cxeRestore 1) s) (fun t => t.word 0x21000000 == 3#32 && t.rd CXE_STAT_SNAP_BANK == 1) = true := by decide
/-- 0x1F4FFC is the last word that the load port can write. -/
theorem wit_load_port : let s := withF State.reset [(CXE_LDP_ADDR_WADDR, 0x7D3FF)]
    s.loadPortProtected (4 * 0x7D3FF) = false ∧ s.loadPortProtected (4 * 0x7D400) = true ∧
    after (exec (.loadPortWrite 9) s) (fun t => t.word 0x211F4FFC == 9#32 && t.rd CXE_LDP_ADDR_WADDR == 0x7D400) = true ∧
    after (exec (.loadPortWrite 9) (withF s [(CXE_LDP_ADDR_WADDR, 0x7D400)]))
      (fun t => t.word 0x211F5000 == 0#32 && t.rd HLT_ERR_B_LDP == 1) = true := by decide
theorem wit_value_change : let s := withF (taskState []) [(CXE_VCHG_DATA_DATA 0, 77), (CXE_VCHG_DATA_DATA 15, 78)]
    (∃ d ∈ s.blocks, d.ten = 1 ∧ d.holds 0 = true ∧ d.holds (4 * 16 - 1) = true) ∧
    s.hlt.supRestart = false ∧ s.rd PWR_STAT_SLEEP < 2 ∧ s.rd PWR_STAT_PF = 0 ∧ s.rd PLK_STAT_ROLE = 0 ∧
    s.rd CXE_STAT_EXCH_PEND = 0 ∧ s.cxe.change = none ∧ s.cellOfTenant 1 9 = false ∧
    after (exec (.valueChangeData 1 15 0) s) (fun t => t.rd CXE_VCHG_RES_PEND == 1 && t.cxe.change.isSome) = true ∧
    after (exec (.valueChangeData 1 15 1) s) (fun t => t.answer.code == 0x0501) = true ∧
    after (exec (.valueChangePreset 1 9) s) (fun t => t.answer.code == 0x0501) = true := by decide
theorem wit_change_applies : let s := sched 4 0 0 (taskState [])
    let e := { s.cxe with change := some (.words 524287 [77]) }
    let s := { s with cxe := e }
    s.issuable 4 0 = some ⟨0, 4, 0, 0⟩ ∧ 524287 + [77].length ≤ 524288 ∧
    after (exec .valueChangeApply s) (fun t => t.word 0x211FFFFC == 77#32 && t.answer.code == 0x0500 && t.cxe.change == none) = true := by decide
/-- Without a running image, X is a cycle boundary; a bank swap acts at X. -/
theorem wit_exchange : let s := sched 4 0 65536 (taskState [])
    let e := { s.cxe with prog := none, next := some prog0 }
    let s := { s with cxe := e }
    s.rd PWR_STAT_LVL ≤ prog0.pdecl ∧ s.rd LTU_SCHED_SWAP_PEND = 0 ∧ s.plk.imgAwait = false ∧ s.ltu.now + 65536 < 2 ^ 55 ∧
    after (exec (.exchangeArm none) s) (fun t => t.rd CXE_STAT_EXCH_PEND == 1 && t.rd LTU_SWAP_LO_X_LO == 65536) = true := by decide
set_option maxRecDepth 20000 in
theorem wit_bank_swap : let s := withF (sched 4 0 65536 (taskState [])) [(LTU_SCHED_SWAP_PEND, 1), (LTU_SWAP_LO_X_LO, 65535),
      (CXE_STAT_EXCH_PEND, 1)]
    let e := { s.cxe with next := some prog0 }
    let s := { s with cxe := e }
    s.ltu.now ≤ 65535 ∧ s.nextDue = some ⟨65536, 4, 0, 0⟩ ∧ s.rd UPD_STAT_STATE = 0 ∧
    after (exec .bankSwap s) (fun t => t.ltu.now == 65535 && t.rd LTU_SCHED_BANK == 1 && t.cxe.prog == some prog0 &&
      t.rd CXE_STAT_CODE_BANK == 1) = true := by decide

/-! ## Closed loops -/

/-- Loop 3 in AUTO: PV point 5, OUT point 6, KP 2, limits 0 to 100, OSAFE 7, set-point 5, trip at the second held sample. -/
def loopL : Loop := ⟨⟨[0x00800003, 0x00050006, 0, 0x00200001, 0, 0, 0, 0x42C80000, 0x40E00000, 0, 0x40A00000, 0],
  [0, 0, 0, 0x42C80000, 0, 0, 0, 0, 0x40000000, 0, 0, 0]⟩, [[0x40000000, 0, 0, 0]], none, 0, none, 0, 0, 0, false, false, 0, 0, 0, 0⟩
def loopState (pvq : Byte) : State :=
  let s := (State.reset.setPoint 5 { Point.undef with defn := some ⟨.pub, 1, .real32, 4, 7, 0x1FF⟩, value := 0x41000000, qual := pvq }).setPoint 6
    { Point.undef with defn := some ⟨.pub, 1, .real32, 3, 3, 0x1FF⟩ }
  let s := sched 3 3 0 (withF s [(CLE_LOOP_STAT_MODE 3, 1), (PDIR_TEN_CFG_EN 1, 1)])
  let e := { s.cle with loops := [(3, loopL)] }
  { s with cle := e }
/-- Direct action: u = 2 * (8 - 5) = 6. -/
theorem wit_loop_sampled : let s := loopState 0
    s.cleRuns = true ∧ s.issuable 3 3 = some ⟨0, 3, 3, 0⟩ ∧ loopL.decl.gen = false ∧ loopL.decl.loop = 3 ∧ loopL.decl.spsrc = 0 ∧
    loopL.decl.sprate = 0 ∧ overdue (500000 - 0) loopL.decl.period s.nomHz = false ∧
    after (exec (.loopSample 3 500000 1000) s) (fun t => (t.point 6).value == 0x40C00000#32 && (t.point 6).qual == 0#8 &&
      t.real (CLE_LOOP_U_VAL 3) == 0x40C00000#32) = true := by decide
theorem wit_loop_held : let s := loopState 0x80
    128 ≤ (s.point 5).equal.toNat ∧ loopL.decl.pvtrip = 2 ∧
    after (exec (.loopSample 3 500000 1000) s) (fun t => t.rd (CLE_LOOP_STAT_HOLDCONS 3) == 1 && (t.point 6).qual == 0x41#8) = true ∧
    after (exec (.loopSample 3 500000 1000) (withF s [(CLE_LOOP_STAT_HOLDCONS 3, 1)]))
      (fun t => t.rd (CLE_LOOP_STAT_MODE 3) == 3 && (t.point 6).qual == 0x86#8 && (t.point 6).value == 0x40E00000#32) = true := by decide
theorem wit_loop_skipped : let s := loopState 0
    let e := { s.cle with loops := [(3, { loopL with wrote := 1 })] }
    let s := { s with cle := e }
    after (exec (.loopSample 3 500000 1000) s) (fun t => t.rd (CLE_LOOP_STAT_OVRCONS 3) == 1 && t.rd (CLE_LOOP_STAT_MODE 3) == 1) = true ∧
    after (exec (.loopSample 3 500000 1000) (withF s [(CLE_LOOP_STAT_OVRCONS 3, 2)]))
      (fun t => t.rd (CLE_LOOP_STAT_MODE 3) == 3 && t.rd (CLE_LOOP_STAT_TRIPSRC 3) == 2) = true := by decide
/-- Two members of group 1: loop 3 offers 6, loop 4 with KP 1 offers 3 and wins. -/
theorem wit_loop_group : let h := { loopL with decl := { loopL.decl with par := loopL.decl.par.set 3 0x11200001 } }
    let m := { h with decl := { h.decl with par := (h.decl.par.set 0 0x00800004).set 1 0x00050007 }, coef := [[0x3F800000, 0, 0, 0]] }
    let s := withF ((loopState 0).setPoint 7 { Point.undef with defn := some ⟨.pub, 1, .real32, 3, 4, 0x1FF⟩ }) [(CLE_LOOP_STAT_MODE 4, 1)]
    let e := { s.cle with loops := [(3, h), (4, m)] }
    let s := { s with cle := e }
    h.decl.gen = true ∧ h.decl.group = m.decl.group ∧ (s.sample 3 h 500000).isSome = true ∧ (s.sample 4 m 500000).isSome = true ∧
    after (exec (.loopSample 3 500000 1000) s) (fun t => (t.point 6).value == 0x40400000#32 && (t.point 7).value == 0x40400000#32 &&
      t.rd (CLE_LOOP_STAT_WINNER 4) == 1 && t.rd (CLE_LOOP_STAT_WINNER 3) == 0) = true := by decide
theorem wit_loop_requests : let s := loopState 0
    let man := withF s [(CLE_LOOP_STAT_MODE 3, 2)]
    (s.hlt.supRestart = false ∧ s.rd PWR_STAT_SLEEP < 2 ∧ s.rd PWR_STAT_PF = 0 ∧ s.rd PLK_STAT_ROLE = 0) ∧
    (0x1FF : Nat).testBit (accBit 1 1 2) = true ∧ s.rd CXE_STAT_EXCH_PEND = 0 ∧
    after (exec (.loopAuto 1 9) s) (fun t => t.answer.code == 0x0605) = true ∧
    after (exec (.loopManout 1 3) s) (fun t => t.answer.code == 0x0601) = true ∧
    after (exec (.loopManout 1 3) (withF man [(CLE_CVAL_VAL 0, 0x7F800000)])) (fun t => t.answer.code == 0x0603) = true ∧
    after (exec (.loopAuto 1 3) (withF s [(CLE_LOOP_STAT_MODE 3, 3)])) (fun t => t.answer.code == 0x0602) = true ∧
    after (exec (.loopManual 1 3 true) s) (fun t => t.cle.jobs.length == 1) = true ∧
    after (exec (.loopReset 1 3) s) (fun t => t.cle.jobs.length == 1) = true ∧
    after (exec (.loopCoef 1 3 0) man) (fun t => t.cle.jobs.length == 1) = true := by decide
theorem wit_loop_request_apply : let s := loopState 0
    let e := { s.cle with jobs := [⟨3, 2, 1, 0, true, [0x42C80001, 0, 0, 0], true⟩] }
    let s := { s with cle := e }
    after (exec (.loopRequestApply 3) s) (fun t => t.answer.code == 0x0600 && t.rd (CLE_LOOP_STAT_MODE 3) == 2 &&
      t.real (CLE_LOOP_MAN_VAL 3) == 0x42C80000#32 && t.cle.jobs == []) = true := by decide

/-! ## Metering -/

/-- Channel 2 is declared with a threshold of 0, its first accumulator one unit below a wrap. -/
def meterDecl : MeterDecl := ⟨[0x01000002, 0, 900, 0x3F800000, 0, 0, 0, 0], []⟩
def meterAcc0 : List MeterAcc := ⟨2 ^ 48 - 1, 2 ^ 32 - 1, 255, 5⟩ :: List.replicate 9 ⟨0, 0, 0, 0⟩
def meterCh : MeterCh :=
  { MeterCh.fresh meterDecl 0 with acc := meterAcc0, noload := 3, metered := 9, latch := 0x12345678ABCD }
def meterState : State :=
  let s := withF (sched 1 2 65536 State.reset) [(MTR_STAT_RUN, 1), (PDIR_TEN_CFG_EN 1, 1)]
  { s with mtr := { s.mtr with chans := [(2, meterCh)], open_ := 0 }, ltu := { s.ltu with now := 65536 } }
def oneCycle : CurrentCycle := ⟨2, 2, -1, 7, 4, 0, 0, 0, 0, false, false⟩

theorem wit_meter_is : meterIs meterState 2 meterCh ∧ meterCh.decl = some meterDecl ∧ meterCh.acc.length = 10 ∧
    (∀ a ∈ meterCh.acc, a.cum < 2 ^ 48 ∧ a.frac < 2 ^ 32 ∧ a.wrap ≤ 255 ∧ a.start < 2 ^ 48) := by unfold meterIs; decide
/-- 2 units of P wrap accumulator 0, whose wrap counter stays at 255; P1 < 0 and Q1 ≥ 0 is accumulator 5. -/
theorem wit_meter_cycle : (∀ x ∈ meterState.mtr.chans, x.2.pend = none) ∧ meterState.rd MTR_STAT_RUN = 1 ∧
    meterState.mtr.stopping = false ∧ meterState.mtr.open_ < meterState.ltu.now / 65536 ∧ belowNoload meterDecl.noload 4 1 = false ∧
    after (exec (.meterCycleClose 1 [oneCycle] []) meterState) (fun t => (t.mtr.chans.head?.map fun x =>
      (x.2.acc.getD 0 ⟨9, 9, 9, 9⟩, x.2.acc.getD 3 ⟨9, 9, 9, 9⟩, x.2.acc.getD 5 ⟨9, 9, 9, 9⟩, x.2.metered)) ==
        some (⟨0, 1, 255, 5⟩, ⟨0, 1, 0, 0⟩, ⟨0, 7, 0, 0⟩, 10)) = true := by decide
theorem wit_meter_latch : meterState.issuable 1 2 = some ⟨65536, 1, 2, 0⟩ ∧ meterState.rd PWR_STAT_SLEEP ≠ 2 ∧
    let s := { meterState with mtr := { meterState.mtr with open_ := 1 } }
    s.issuable 1 2 = some ⟨65536, 1, 2, 0⟩ ∧ 65536 / 65536 ≤ s.mtr.open_ ∧
    after (exec (.meterIntervalLatch 2) s) (fun t => t.rd (MTR_CH_INT_INT 2 0) == 0xFFFFFFFF && t.rd (MTR_CH_METERED_CNT 2) == 9 &&
      t.rd (MTR_CH_LATCH_LO_X_LO 2) == 65536) = true := by decide
theorem wit_preset : let s := withF meterState [(MTR_CVAL_LO_VAL_LO, 5)]
    (s.hlt.supRestart = false ∧ s.rd PWR_STAT_SLEEP < 2 ∧ s.rd PWR_STAT_PF = 0 ∧ s.rd PLK_STAT_ROLE = 0) ∧
    after (exec (.meterPreset 1 2 9) s) (fun t => t.answer.code == 0x0701) = true ∧
    after (exec (.meterPreset 0 3 9) s) (fun t => t.answer.code == 0x0702) = true ∧
    after (exec (.meterPreset 0 2 10) s) (fun t => t.answer.code == 0x0703) = true ∧
    after (exec (.meterPreset 0 2 9) s) (fun t => t.mtr.presets == [⟨2, 9, 5, 1⟩]) = true := by decide
theorem wit_preset_apply : let s := { meterState with mtr := { meterState.mtr with presets := [⟨2, 0, 5, 1⟩], open_ := 2 } }
    let wait := { s with mtr := { s.mtr with open_ := 1 } }
    wait.mtr.open_ ≤ 1 ∧ 1 < s.mtr.open_ ∧ s.hlt.supRestart = false ∧
    after (exec .presetApply wait) (fun t => t.mtr.presets.length == 1) = true ∧
    after (exec .presetApply s) (fun t => t.answer.code == 0x0700 && t.mtr.presets == [] && t.mtr.latest.isSome) = true := by decide
theorem wit_checkpoint : meterState.hlt.supRestart = false ∧
    let q : MeterCkpt := ⟨4, 0, [(2, ⟨1, meterAcc0, 1, 2, 255, 0, 0⟩)], []⟩
    let s := { meterState with mtr := { meterState.mtr with ckpt1 := some q } }
    s.mtr.latest = some q ∧
    after (exec .meterCheckpoint s) (fun t => t.mtr.latest.map MeterCkpt.seq == some 5 && t.mtr.ckpt1 == some q) = true ∧
    after (exec (.accumulatorEcc 2) s) (fun t => t.rd MTR_EVT_ECC == 1 && (t.rd (MTR_CH_STAT_FLAGS 2)).testBit 7 &&
      (t.mtr.chans.map fun x => x.2.acc) == [meterAcc0]) = true := by decide
theorem wit_mtr_lo_read : after (exec (.mtrLoRead 2 none) meterState)
      (fun t => t.answer.words == [0x5678ABCD#32] && t.rd (MTR_CH_LATCH_HI_X_HI 2) == 0x1234) = true ∧
    after (exec (.mtrLoRead 2 (some 0)) meterState)
      (fun t => t.answer.words == [0xFFFFFFFF#32] && t.rd (MTR_CH_ACC_HI_CUM_HI 2 0) == 0xFFFF) = true := by decide

/-! ## Field I/O -/

def fioChan (mode w1 w2 w3 : Nat) : FioCh := ⟨[0x01000000 + mode * 65536 + 34, w1, w2, w3], false, false, none, 0, none, false, false⟩
/-- Channel 34 of bank 1; point 5 is its source or its output point. -/
def fioState (c : FioCh) (p : Point) : State :=
  let s := (withF State.reset [(PDIR_TEN_CFG_EN 1, 1), (FIO_STAT_OUT_EN, 1)]).setPoint 5 p
  { s with fio := ⟨[(34, c)], true, []⟩ }
def fioIn (ty : PType) : Point := { Point.undef with defn := some ⟨.pub, 1, ty, 1, 34, 0x1FF⟩ }
def fioOut (ty : PType) (v : Word) (q : Byte) : Point := { Point.undef with defn := some ⟨.pub, 1, ty, 4, 7, 0x1FF⟩, value := v, qual := q }
def diCh : FioCh := fioChan 1 0x80000005 0x20010001 0
def doCh : FioCh := fioChan 2 0x8005 0x00010000 1
def chOf (t : State) : FioCh := (t.fio.chans.head?.map Prod.snd).getD diCh

/-- An open contact of a channel with OPT.0 has quality 0x83. -/
theorem wit_input_update : let s := fioState diCh (fioIn .bool)
    fioIs s 34 diCh ∧ s.awake = true ∧ diCh.src = true ∧ 0 < diCh.period ∧ diCh.nextAt < (s.ltu.now / 65536 + 1) * 65536 ∧
    s.ltu.now < diCh.nextAt + diCh.period ∧ inputGives s 34 diCh (.contact true) 0x83 0 ∧
    after (exec (.inputUpdate 34 (.contact true) false) s) (fun t => (t.point 5).qual == 0x83#8 && (t.point 5).upd == 1#16) = true ∧
    after (exec (.inputUpdate 34 (.contact true) true) s) (fun t => (t.point 5).qual == 0x86#8) = true := by
  unfold fioIs inputGives; decide
/-- 10.5 V is in range, and so is -0.2 V; 3.6 mA is under range. -/
theorem test_input_limits : State.reset.inputQual 0 (fioChan 3 0 0 0) (.analogue 0x41280000 false) false = 0 ∧
    State.reset.inputQual 0 (fioChan 3 0 0 0) (.analogue 0x41280001 false) false = 0x81 ∧
    State.reset.inputQual 0 (fioChan 4 0 0 0) (.analogue 0x40666667 false) false = 0x82 := by decide
theorem wit_pulse : let s := withF (fioState (fioChan 8 0x80000005 0x00000001 0) (fioIn .uint32)) [(FIO_CH_VAL_VAL 34, 0xFFFFFFFF)]
    s.powered = true ∧ s.rd PWR_STAT_SLEEP ≠ 3 ∧ (withF s [(PWR_STAT_SLEEP, 3)]).rd PWR_STAT_SLEEP = 3 ∧
    after (exec (.pulseEdge 34) s) (fun t => t.rd (FIO_CH_VAL_VAL 34) == 0) = true := by decide
theorem wit_di_change : let s := fioState diCh (fioIn .bool)
    let w := fioState { diCh with window := true } (fioIn .bool)
    diCh.wake = false ∧ diCh.chg = true ∧ (fioChan 1 0x80000005 1 0).chg = false ∧ diCh.inv = false ∧
    after (exec (.diChange 34 true 77) s) (fun t => (t.point 5).value == 1#32 && (t.point 5).ts == 77#32 && (chOf t).window) = true ∧
    after (exec (.diChange 34 true 77) w) (fun t => (chOf t).change == some 77 && (t.point 5).upd == 0#16) = true := by decide
theorem wit_change_window : let s := fioState { diCh with window := true, change := some 77, level := true } (fioIn .bool)
    after (exec (.changeWindowEnd 34) s) (fun t => (t.point 5).value == 1#32 && (chOf t).change == none && (chOf t).window) = true ∧
    after (exec (.changeWindowEnd 34) (fioState { diCh with window := true } (fioIn .bool))) (fun t => !(chOf t).window) = true := by decide
/-- A DO follows its point; with a BAD quality it takes SAFE, here 1. -/
theorem wit_output : let s := fioState doCh (fioOut .bool 1 0)
    fioIs s 34 doCh ∧ s.powered = true ∧ s.rd PWR_STAT_SLEEP = 0 ∧ s.rd FIO_STAT_OUT_EN = 1 ∧ (s.rd FIO_STAT_VLOW).testBit (34 / 32) = false ∧
    s.rd (FIO_CH_DIAG_LATCH 34) = 0 ∧ doCh.fol = true ∧ doCh.oph = 5 ∧
    after (exec (.outputApplication 34) s) (fun t => t.rd (FIO_CH_DIAG_DRIVEN 34) == 1 && t.rd (FIO_CH_CNT_SW 34) == 1) = true ∧
    after (exec (.outputApplication 34) (fioState doCh (fioOut .bool 0 0x80)))
      (fun t => t.rd (FIO_CH_DIAG_DRIVEN 34) == 1 && t.rd (FIO_CH_DIAG_SAFE_ACT 34) == 1) = true ∧
    after (exec (.outputApplication 34) (withF s [(FIO_CH_DIAG_LATCH 34, 1)])) (fun t => t.rd (FIO_CH_DIAG_DRIVEN 34) == 0) = true := by
  unfold fioIs; decide
/-- 12 V is clamped to 10.5 V; a NaN gives SAFE, 1.5 V. -/
theorem wit_output_analogue : let c := fioChan 5 0x8005 0 1500
    after (exec (.outputApplication 34) (fioState c (fioOut .real32 0x41400000 0))) (fun t => (chOf t).drive == some 0x41280000) = true ∧
    after (exec (.outputApplication 34) (fioState c (fioOut .real32 0x7FC00000 0)))
      (fun t => (chOf t).drive == some 0x3FC00000 && t.rd (FIO_CH_DIAG_VAL_ERR 34) == 1) = true ∧
    after (exec (.aoVShort 34) (fioState c (fioOut .real32 0 0))) (fun t => t.rd (FIO_CH_DIAG_SHORT 34) == 1) = true ∧
    after (exec (.aoIOpen 34) (fioState (fioChan 6 0x8005 0 1500) (fioOut .real32 0 0))) (fun t => t.rd (FIO_CH_DIAG_OPEN 34) == 1) = true := by
  decide
/-- The third failed retry latches. -/
theorem wit_do_short : let s := withF (fioState doCh (fioOut .bool 1 0)) [(FIO_CH_DIAG_DRIVEN 34, 1)]
    let r := withF (fioState { doCh with retrying := true } (fioOut .bool 1 0)) [(FIO_CH_DIAG_DRIVEN 34, 1), (FIO_CH_DIAG_RETRY 34, 2)]
    after (exec (.doShort 34) s) (fun t => (chOf t).waits && t.rd (FIO_CH_DIAG_LATCH 34) == 0) = true ∧
    after (exec (.doShort 34) r) (fun t => !(chOf t).waits && t.rd (FIO_CH_DIAG_LATCH 34) == 1) = true ∧
    after (exec (.doRetry 34) (fioState { doCh with waits := true } (fioOut .bool 1 0))) (fun t => (chOf t).retrying) = true ∧
    doCh.opt.testBit 0 = true ∧ after (exec (.doOpenLoad 34) s) (fun t => t.rd (FIO_CH_DIAG_OPEN 34) == 1) = true := by decide
theorem wit_fault_clear : let s := withF (fioState doCh (fioOut .bool 1 0)) [(FIO_CH_DIAG_DRIVEN 34, 1), (FIO_CH_DIAG_SHORT 34, 1), (FIO_CH_DIAG_OPEN 34, 1)]
    after (exec (.outputFaultClear 34 .open_) s) (fun t => t.rd (FIO_CH_DIAG_OPEN 34) == 0) = true ∧
    after (exec (.outputFaultClear 34 .short) s) (fun t => t.rd (FIO_CH_DIAG_SHORT 34) == 0) = true ∧
    after (exec (.outputFaultClear 34 .short) (withF s [(FIO_CH_DIAG_LATCH 34, 1)])) (fun t => t.rd (FIO_CH_DIAG_SHORT 34) == 1) = true := by
  decide
/-- 17.99 V is low; 19.2 V is enough again. -/
theorem wit_vfld : let s := withF (fioState doCh (fioOut .bool 1 0)) [(FIO_CH_DIAG_DRIVEN 34, 1)]
    let l := withF s [(FIO_BANK_STAT_VLOW 1, 1), (FIO_STAT_VLOW, 2), (FIO_CH_DIAG_DRIVEN 34, 0)]
    34 / 32 = (1 : Fin 8).val ∧
    after (exec (.vfldLow 1 1799) s) (fun t => t.rd FIO_STAT_VLOW == 2 && t.rd (FIO_CH_DIAG_DRIVEN 34) == 0) = true ∧
    after (exec (.vfldOk 1 1920) l) (fun t => t.rd FIO_STAT_VLOW == 0 && t.rd (FIO_CH_DIAG_DRIVEN 34) == 1) = true := by decide
theorem wit_fio_reset : let s := fioState doCh (fioOut .bool 1 0)
    (s.hlt.supRestart = false ∧ s.rd PWR_STAT_PF = 0 ∧ s.rd PLK_STAT_ROLE = 0) ∧ (0x1FF : Nat).testBit (accBit 1 1 2) = true ∧
    after (exec (.fioReset 1 34) s) (fun t => t.answer.code == 0x0802) = true ∧
    after (exec (.fioReset 1 34) (withF s [(FIO_CH_DIAG_LATCH 34, 1)])) (fun t => t.answer.code == 0x0800 && t.rd (FIO_CH_DIAG_LATCH 34) == 0) = true := by
  decide

/-! ## Field buses -/

/-- Object 9 transmits bits [23:8] of a frame, signed, from point 5; object 10 receives them; object 11 asks for them. -/
def busObj (kind port ph ident : Nat) (rec_ : List Nat) : BusObj :=
  ⟨[0x01000000 + kind * 65536, port * 2 ^ 27 + ph, ident, 0], rec_.flatMap (leBytes 4) ++ List.replicate 64 0, none, 0, 0, false⟩
def fldRec : List Nat := [0x7FF, 0x00080F10, 0x40000000, 0, 0x00050008, 0x00000064, 0, 0]
def txObj : BusObj := busObj 2 0 5 0x123 fldRec
def rxObj : BusObj := busObj 1 0 6 0x123 fldRec
/-- A CAN port with window 0, which is open from 0 to one cycle. -/
def canPort (q : List BusTx) : BusPort := ⟨[0x01010000, 0, 0, 0, 0, 0], List.replicate 32 0, [⟨0, [0, 1, 0], some (0, 65536)⟩], q, none, 0, false, false⟩
def queuedTx : BusTx := ⟨9, 0, false, 7, [0, 7, 0, 0, 0, 0, 0, 0], 0, none, none⟩
def busState (q : List BusTx) : State :=
  let s := withF State.reset [(PDIR_TEN_CFG_EN 1, 1), (FBE_P_CFG_TXEN 0, 1), (FBE_P_STAT_STATE 0, 2)]
  let s := (s.setPoint 5 { Point.undef with defn := some ⟨.pub, 1, .int32, 6, 0, 0x1FF⟩, value := 7 }).setPoint 6
    { Point.undef with defn := some ⟨.pub, 1, .int32, 5, 10, 0x1FF⟩ }
  { s with fbe := ⟨[(0, canPort q)], [(9, txObj), (10, rxObj)], ⟨[], []⟩⟩, ltu := { s.ltu with now := 100 } }

/-- Field 0xFFFE is -2 when signed, and 2 * -2 in REAL32. -/
theorem wit_bus_field : rxObj.ofs + rxObj.wid ≤ 8 * 8 ∧ (0xFFFE : Nat) < 2 ^ rxObj.wid ∧ rxObj.wid ≤ 32 ∧ rxObj.fmt = 1 ∧
    rxObj.extract [9, 0xFE, 0xFF, 9, 9, 9, 9, 9] = 0xFFFE ∧ rxObj.receive .int32 0xFFFE = 0xFFFFFFFE ∧
    rxObj.receive .real32 0xFFFE = 0xC0800000 ∧ rxObj.send .int32 40000 = 0x7FFF := by decide
theorem wit_bus_opening : let s := sched 5 0 0 { busState [] with ltu := { (busState []).ltu with now := 0 } }
    s.issuable 5 0 = some ⟨0, 5, 0, 0⟩ ∧ busIs s 0 (canPort []) ∧ (s.fbe.objs.map fun x => x.1).Nodup ∧
    (∀ x ∈ s.fbe.objs, x.1 < 4096) ∧ busSends s 0 ∧ s.windowObjs 0 0 = [9] ∧
    after (exec (.busWindowOpening 0) s) (fun t => (t.fbe.ports.map fun x => x.2.queue) == [[queuedTx]]) = true := by
  unfold busIs busSends; decide
/-- With a frame of the object queued, its value is brought up to date in its place. -/
theorem wit_bus_reopening : let s0 := busState [{ queuedTx with value := 6 }]
    let s := sched 5 0 0 { s0 with ltu := { s0.ltu with now := 0 } }
    after (exec (.busWindowOpening 0) s) (fun t => (t.fbe.ports.map fun x => x.2.queue) == [[{ queuedTx with passed := true }]]) = true := by
  decide
theorem wit_bus_close : (65536 : Nat) < ((65536 : Nat) / 65536 + 1) * 65536 ∧
    let s := { busState [queuedTx] with ltu := { (busState []).ltu with now := 65536 } }
    after (exec (.busWindowClose 0) s) (fun t => (t.fbe.ports.map fun x => (x.2.queue, x.2.wins.map BusWin.opened)) == [([queuedTx], [none])]) = true := by
  decide
theorem wit_frame_start : let s := busState [queuedTx]
    queuedTx ∈ (canPort [queuedTx]).queue ∧ busSends s 0 ∧ s.rd (FBE_P_STAT_STATE 0) = 2 ∧
    (0 + s.laOfNs 4000 ≤ 100 ∧ (100 : Nat) < 65536) ∧ txObj.port = 0 ∧
    after (exec (.frameStart 0 9 100) s) (fun t => t.rd (FBE_OBJ_STAT_STATE 9) == 3) = true := by unfold busSends; decide
/-- A frame whose opening was passed is sent 90 la late. -/
theorem wit_frame_sent : let x := { queuedTx with start := some 90, passed := true }
    let s := busState [x]
    (canPort [x]).queue.find? (fun y => y.start.isSome) = some x ∧ x.again = none ∧
    after (exec (.frameSent 0 0 0) s) (fun t => t.rd (FBE_P_TXCNT_CNT 0) == 1 && t.rd (FBE_OBJ_STAT_LATE 9) == 90 &&
      t.rd (FBE_P_LATE_DELAYED 0) == 1 && (t.fbe.ports.map fun x => x.2.queue) == [[]]) = true ∧
    after (exec (.canError 0 3 256 0) s) (fun t => t.rd (FBE_P_STAT_STATE 0) == 4 && t.rd (FBE_P_STAT_TEC 0) == 255) = true ∧
    after (exec (.arbitrationLost 0) s) (fun t => t.rd (FBE_P_ARB_ARBLOST 0) == 1) = true := by decide
theorem wit_bus_on : let s := withF { busState [] with fbe := ⟨[(0, { canPort [] with recovering := true })], [], ⟨[], []⟩⟩ } [(FBE_P_STAT_STATE 0, 4)]
    after (exec (.busOn 0) s) (fun t => t.rd (FBE_P_STAT_STATE 0) == 2) = true ∧
    after (exec (.busIntegrationComplete 0) (withF (busState []) [(FBE_P_STAT_STATE 0, 1), (FBE_P_CFG_TXEN 0, 0)]))
      (fun t => t.rd (FBE_P_STAT_STATE 0) == 5) = true := by decide
/-- A DALI-2 port whose retries are used up, and one whose bus goes down and comes up. -/
theorem wit_dali : let b := { txObj with par := [0x01020000, 20 * 2 ^ 27 + 5, 0, 0] }
    let x := { queuedTx with start := some 90 }
    let s := withF { busState [] with fbe := ⟨[(20, canPort [x])], [(9, b)], ⟨[], []⟩⟩ } [(FBE_P_CFG_TXEN 20, 1), (FBE_P_STAT_STATE 20, 2)]
    busSends s 20 ∧ (canPort []).retry (portType 20) = 0 ∧
    after (exec (.daliCollision 20) s) (fun t => t.rd (FBE_P_ARB_BUSOFF 20) == 1 && t.rd (FBE_P_STAT_STATE 20) == 1) = true ∧
    after (exec (.daliBusDown 20) s) (fun t => t.rd (FBE_P_STAT_STATE 20) == 4 && t.rd FBE_EVT_DALI_DOWN == 1) = true ∧
    after (exec (.daliBusUp 20) (withF s [(FBE_P_STAT_STATE 20, 4)])) (fun t => t.rd (FBE_P_STAT_STATE 20) == 1) = true := by
  unfold busSends; decide
theorem wit_rs485_collision : let b := { txObj with par := [0x01020000, 10 * 2 ^ 27 + 5, 0, 0] }
    let p := { canPort [{ queuedTx with start := some 90 }] with par := [0x01010000, 9600, 0, 1, 0, 0] }
    let s := withF { busState [] with fbe := ⟨[(10, p)], [(9, b)], ⟨[], []⟩⟩ } [(FBE_P_STAT_STATE 10, 2)]
    p.retry (portType 10) = 1 ∧
    after (exec (.rs485Collision 10) s) (fun t => t.rd (FBE_P_ARB_ARBLOST 10) == 1 && t.rd (FBE_P_STAT_STATE 10) == 1) = true := by decide
/-- The matching identifier writes the point with the start's line time; another one does not. -/
theorem wit_frame_received : let s := busState []
    busHears s 0 ∧ frameGood (canPort []) 0 (.can false false false 0x123 [0, 0xFE, 0xFF, 0, 0, 0, 0, 0]) ∧
    after (exec (.frameReceived 0 (.can false false false 0x123 [0, 0xFE, 0xFF, 0, 0, 0, 0, 0]) 77 false 0 0) s)
      (fun t => (t.point 6).value == 0xFFFFFFFE#32 && (t.point 6).ts == 77#32 && t.rd (FBE_P_RXCNT_CNT 0) == 1) = true ∧
    after (exec (.frameReceived 0 (.can false false false 0x122 [0, 0xFE, 0xFF, 0, 0, 0, 0, 0]) 77 false 0 0) s)
      (fun t => (t.point 6).upd == 0#16) = true ∧
    after (exec (.frameReceived 0 (.can false false false 0x123 []) 77 true 0 0) s) (fun t => t.rd (FBE_P_DROP_RXOVR 0) == 1) = true ∧
    after (exec (.frameReceived 0 (.can false true false 0x123 []) 77 false 0 0) s) (fun t => t.rd (FBE_P_MISS_FDIGN 0) == 1) = true := by
  unfold busHears; simp only [frameGood]; decide
theorem wit_frame_errors : after (exec (.frameReceived 10 (.rs485 [1] 3) 0 false 0 0)
      (withF { busState [] with fbe := ⟨[(10, canPort [])], [], ⟨[], []⟩⟩ } [(FBE_P_STAT_STATE 10, 1)])) (fun t => t.rd (FBE_P_ERRCNT_E3 10) == 1) = true ∧
    after (exec (.frameReceived 20 .violation 0 false 0 0)
      (withF { busState [] with fbe := ⟨[(20, canPort [])], [], ⟨[], []⟩⟩ } [(FBE_P_STAT_STATE 20, 1)])) (fun t => t.rd (FBE_P_ERRCNT_E0 20) == 1) = true := by
  decide
theorem wit_silence : let s := { busState [] with ltu := { (busState []).ltu with now := 6 * 65536 } }
    rxObj.tmo = 5 ∧ rxObj.matchCyc + 5 < s.ltu.now / 65536 ∧ (s.point 6).fedBy 5 10 = true ∧
    after (exec (.silenceTimeout 10) s) (fun t => (t.point 6).qual == 0x85#8 && t.rd FBE_EVT_SILENT == 1) = true ∧
    after (exec (.silenceTimeout 10) { s with ltu := { s.ltu with now := 6 * 65536 - 1 } }) (fun t => (t.point 6).upd == 0#16) = true := by decide
/-- An RS-485 query, answered in time or not; a DALI-2 query, answered by silence. -/
theorem wit_query : let b := { rxObj with par := [0x01030000, 10 * 2 ^ 27 + 6, 0, 0] }
    let p := { canPort [] with awaits := some (10, 90) }
    let s := withF { busState [] with fbe := ⟨[(10, p)], [(10, b)], ⟨[], []⟩⟩ } [(FBE_P_STAT_STATE 10, 1)]
    b.resp = 100 ∧ (90 : Nat) ≤ 90 + s.laOfNs (b.resp * 1000) ∧
    after (exec (.queryReplyTimeout 10) s) (fun t => (t.point 6).qual == 0x85#8) = true ∧
    after (exec (.frameReceived 10 (.rs485 [0, 3, 0] 0) 90 false 0 0) s) (fun t => (t.point 6).value == 3#32 && (t.point 6).qual == 0#8) = true := by
  decide
theorem wit_dali_query : let b := { rxObj with par := [0x01030000, 20 * 2 ^ 27 + 6, 0, 0] }
    let s0 := (busState []).setPoint 6 { Point.undef with defn := some ⟨.pub, 1, .uint32, 5, 10, 0x1FF⟩ }
    let s := withF { s0 with fbe := ⟨[(20, { canPort [] with awaits := some (10, 90) })], [(10, b)], ⟨[], []⟩⟩ } [(FBE_P_STAT_STATE 20, 1)]
    after (exec (.daliAnswerWindowEnd 20 .silence) s) (fun t => (t.point 6).value == 256#32 && (t.point 6).qual == 0x85#8) = true ∧
    after (exec (.daliAnswerWindowEnd 20 (.backward 5)) s) (fun t => (t.point 6).value == 5#32 && (t.point 6).qual == 0#8) = true ∧
    after (exec (.fbeSofLoRead 0) (busState [])) (fun t => t.answer.words == [0#32]) = true := by decide
theorem wit_bus_requests : let s := busState [queuedTx]
    s.hlt.supRestart = false ∧ s.rd PLK_STAT_ROLE = 0 ∧ tenantEnabled s 1 ∧
    after (exec (.frameCancel 1 7) s) (fun t => t.answer.code == 0x0904) = true ∧
    after (exec (.frameCancel 1 10) s) (fun t => t.answer.code == 0x0903) = true ∧
    after (exec (.frameCancel 1 9) (busState [])) (fun t => t.answer.code == 0x0902) = true ∧
    after (exec (.frameCancel 1 9) (busState [{ queuedTx with start := some 90 }])) (fun t => t.answer.code == 0x0901) = true ∧
    after (exec (.frameCancel 1 9) s) (fun t => t.answer.code == 0x0900 && (t.fbe.ports.map fun x => x.2.queue) == [[]]) = true ∧
    after (exec (.busRecover 1 0) s) (fun t => t.answer.code == 0x0302) = true ∧
    after (exec (.busRecover 0 0) s) (fun t => t.answer.code == 0x0905) = true ∧
    after (exec (.busRecover 0 0) (withF s [(FBE_P_STAT_STATE 0, 4)])) (fun t => t.answer.code == 0x0900) = true := by
  unfold tenantEnabled; decide
/-- 1.8 µs of a dominant phase wake a port with WAKE 1. -/
theorem wit_can_wake : let p := { canPort [] with par := [0x01010000, 0, 0, 0x400000, 0, 0] }
    let s := withF { busState [] with fbe := ⟨[(0, p)], [], ⟨[], []⟩⟩ } [(PWR_STAT_SLEEP, 2), (PWR_WAKE_EN_EN, 2), (FBE_P_STAT_STATE 0, 6)]
    after (exec (.canWake 0 (.dominant 1800)) s) (fun t => t.rd FBE_EVT_WAKE == 1 && t.pwr.wakes.testBit 1) = true ∧
    after (exec (.canWake 0 (.dominant 1799)) s) (fun t => t.rd FBE_EVT_WAKE == 0) = true := by decide
/-- The CRC of the nine characters "1" to "9". -/
theorem test_crc16 : crc16 [0x31, 0x32, 0x33, 0x34, 0x35, 0x36, 0x37, 0x38, 0x39] = 0x4B37 := by decide +kernel

/-! ## Site network -/

def macKey (ten : Nat) : KeySlot := ⟨false, false, 0, 0, 4, ten, 0x3F, 0, 0, List.replicate 16 0, 0⟩
/-- Ports up, the network part on, key 0 bound to slot 7 of tenant 0 and key 1 to slot 8 of tenant 1. -/
def netState (mode : Nat) : State :=
  let s := withF State.reset [(NET_CFG_EN, 1), (NET_RING_CFG_MODE, mode), (NET_CFG_MAXF, 1518), (NET_CFG_RXDEF, 2), (NET_UPT_CFG_ETYPE, 0x88B5),
    (NET_ADDR_MADDR, 0x21), (NET_KEY_EN 0, 1), (NET_KEY_SLOT 0, 7), (NET_KEY_EN 1, 1), (NET_KEY_SLOT 1, 8), (PDIR_TEN_CFG_EN 1, 1)]
  let s := withF s [(NET_P_STAT_LINK 0, 1), (NET_P_STAT_LINK 1, 1), (NET_P_STAT_SPEED 0, 3), (NET_P_STAT_SPEED 1, 3)]
  { s with ksu := { s.ksu with slots := [(7, macKey 0), (8, macKey 1)] }
           net := { s.net with learned := [⟨5, 0, 0⟩, ⟨0x0A5A7E000030, 0, 0⟩] } }
def ethTo (dst src etype : Nat) (bs : List Byte) : List Byte :=
  padTo 60 ((leBytes 6 dst).reverse ++ (leBytes 6 src).reverse ++ (leBytes 2 etype).reverse ++ bs)

/-- The shortest frame has 60 bytes before its FCS; rule 63 drops it, and without a rule queue 2 takes it. -/
theorem wit_eth_received : let s := netState 0
    let b := ethTo 0xFFFFFFFFFFFF 5 0x1234 []
    s.rd (NET_P_STAT_LINK 0) = 1 ∧ s.awake = true ∧ 64 ≤ b.length + 4 ∧ b.length + 4 ≤ s.rd NET_CFG_MAXF ∧ s.rd NET_CFG_RXDEF = 2 ∧
    s.rd (NET_RXQ_CFG_CONS 2) = 0 ∧
    after (exec (.ethernetFrameReceived 0 b true) s) (fun t => t.net.rx == [⟨0, 2, b, none⟩] && t.rd (NET_P_RXCNT_CNT 0) == 1) = true ∧
    after (exec (.ethernetFrameReceived 0 b true) (withF s [(NET_RULE_A_EN 63, 1), (NET_RULE_A_DROP 63, 1)]))
      (fun t => t.net.rx == [] && t.rd (NET_RULE_B_HITS 63) == 1) = true ∧
    after (exec (.ethernetFrameReceived 0 (b.drop 1) true) s) (fun t => t.rd (NET_P_RXERR_RUNT 0) == 1) = true ∧
    after (exec (.ethernetFrameReceived 0 b false) s) (fun t => t.rd (NET_P_RXERR_FCS 0) == 1) = true ∧
    after (exec (.ethernetFrameReceived 0 (ethTo 0x0180C2000001 5 0x8808 []) true) s) (fun t => t.rd (NET_P_RXERR_PAUSE 0) == 1) = true := by
  decide
/-- A ring member passes a frame for others on, and a blocked port takes none. -/
theorem wit_eth_ring : let s := netState 1
    let b := ethTo 0x020000000001 5 0x1234 []
    s.transitBytes 1 + b.length ≤ 131072 ∧
    after (exec (.ethernetFrameReceived 0 b true) s) (fun t => t.net.rx == [] && t.net.tx == [⟨1, 0, true, b, 0, 0, none, false⟩]) = true ∧
    after (exec (.ethernetFrameReceived 0 (ethTo 0xFFFFFFFFFFFF 0x0A5A7E000021 0x1234 []) true) s)
      (fun t => t.net.tx == [] && t.rd NET_RING_STAT_LOOP == 1) = true ∧
    after (exec (.ethernetFrameReceived 1 b true) (withF (netState 2) [(NET_RING_STAT_BLOCKED, 1)])) (fun t => t.net.tx == []) = true := by decide
set_option maxRecDepth 20000 in
/-- A descriptor of 60 bytes for port 1, queue 3, and one of length 0. -/
theorem wit_descriptor : let s := ((netState 0).setWord 0x80000004 60).setWord 0x8000000C 0x00020300
    ¬ ((60 : Nat) = 0 ∨ s.rd NET_CFG_MAXF - 4 < 60) ∧ s.queued 1 3 < 256 ∧
    after (exec (.transmitDescriptor 0x80000000) s) (fun t => t.net.tx == [⟨1, 3, false, List.replicate 60 0, 0, 0, some 0x80000000, false⟩]) = true ∧
    after (exec (.transmitDescriptor 0x80000000) (s.setWord 0x80000004 0)) (fun t => t.byte 0x8000000F == 1#8 && t.rd NET_EVT_DESC_ERR == 1) = true ∧
    (let q := ((s.setWord 0x80000004 257).setWord 0x80000008 0x0100000E).setWord 0x8000000C 0x00020301
     after (exec (.transmitDescriptor 0x80000000) q) (fun t => t.net.tx.length == 2)) = true := by decide
/-- Queue 7 goes before queue 3. -/
theorem wit_eth_sent : let f (q : Nat) : TxFrame := ⟨1, q, false, [], 0, 0, some 0x80000000, true⟩
    let s0 := netState 0
    let s := { s0 with net := { s0.net with tx := [f 3, f 7] }, ltu := { s0.ltu with now := 65537 } }
    after (exec (.ethernetFrameSent 1 5 17) s) (fun t => t.net.tx == [f 3] && t.rd (NET_P_TXQ_STARVED 1 7) == 1 && t.word 0x80000010 == 16#32) = true ∧
    after (exec (.ethernetFrameSent 0 5 17) s) (fun t => t.net.tx.length == 2) = true := by decide
theorem wit_links : let s := netState 1
    after (exec (.linkUp 0 2) s) (fun t => t.rd (NET_P_STAT_SPEED 0) == 3 && t.rd NET_EVT_LINK == 1) = true ∧
    s.netKeyOk 0 = true ∧ s.queued 1 7 < 256 ∧
    after (exec (.linkDown 0) s) (fun t => t.rd (NET_P_STAT_LINK 0) == 0 && (t.net.tx.map fun f => (f.port, f.queue)) == [(1, 7)]) = true ∧
    after (exec (.negFail 1) s) (fun t => t.rd (NET_P_STAT_NEG_FAIL 1) == 1) = true ∧
    after (exec (.lpiEntry 0) (withF s [(NET_P_CFG_EEE_EN 0, 1)])) (fun t => t.rd (NET_P_STAT_LPI 0) == 1) = true := by decide
theorem wit_shift : let s := withF (netState 0) [(NET_P_CFG_DS_EN 0, 1), (NET_P_CFG_ADV 0, 2)]
    after (exec (.downshift 0 4999 4999) s) (fun t => t.rd (NET_P_STAT_DS 0) == 1) = true ∧
    after (exec (.downshift 0 5000 4999) s) (fun t => t.rd (NET_P_STAT_DS 0) == 0) = true ∧
    after (exec (.upshift 0 50001 0) (withF s [(NET_P_STAT_DS 0, 1)])) (fun t => t.rd (NET_P_STAT_DS 0) == 0) = true ∧
    after (exec (.upshift 0 50000 0) (withF s [(NET_P_STAT_DS 0, 1)])) (fun t => t.rd (NET_P_STAT_DS 0) == 1) = true := by decide
/-- Three tests missed open the ring; 64 ms without a gap close it. -/
theorem wit_ring_manager : let s := netState 2
    let n (m k : Nat) : State := { s with net := { s.net with miss1 := m, okRun := k } }
    after (exec .ringTestFrame s) (fun t => t.net.miss0 == 1 && (t.net.tx.map fun f => (f.port, f.queue)) == [(0, 7), (1, 7)]) = true ∧
    after (exec .ringOpen (n 3 0)) (fun t => t.rd NET_STAT_RING == 2 && t.rd NET_RING_STAT_OPENS == 1) = true ∧
    after (exec .ringOpen (n 2 0)) (fun t => t.rd NET_RING_STAT_OPENS == 0) = true ∧
    after (exec .ringClose (withF (n 0 64) [(NET_RING_STAT_STATE, 2)])) (fun t => t.rd NET_RING_STAT_BLOCKED == 1) = true ∧
    after (exec .ringClose (withF (n 0 63) [(NET_RING_STAT_STATE, 2)])) (fun t => t.rd NET_RING_STAT_STATE == 2) = true := by decide
theorem wit_ptp : let s := withF (netState 0) [(NET_PTP_CFG_EN, 1), (NET_PTP_STAT_P0STATE, 6), (NET_PTP_CFG_ONESTEP, 1)]
    s.micro 4 = true ∧ s.rd NET_PTP_STAT_SYNC < 2 ∧
    after (exec (.ptpSyncChange true 9 0 77) s) (fun t => t.rd NET_PTP_STAT_SYNC == 1 && t.rd NET_EVT_PTP == 1) = true ∧
    after (exec (.ptpMessageInterval 0 0) s) (fun t => t.net.tx.length == 1) = true ∧
    after (exec .addressAging { s with ms := 300000, net := { s.net with learned := [⟨5, 0, 0⟩, ⟨6, 0, 1⟩] } })
      (fun t => t.net.learned == [⟨6, 0, 1⟩]) = true := by decide

/-! ## Point transport -/

/-- A header of tenant 1 under key 1, to this module, and a frame that carries it with a body and its CMAC. -/
def uptHdr (type len : Nat) : UptHdr := ⟨type, false, true, 1, 0x21, 0x30, 1, 9, 0, len, 2, 5⟩
def uptPay (type : Nat) (body : List Byte) : List Byte :=
  let b := (uptHdr type body.length).bytes ++ body
  b ++ frameMac (macKey 1) b
def uptMsg (type : Nat) (body : List Byte) : UptMsg := ⟨uptHdr type body.length, body, ⟨0, 5, none, none⟩⟩
def uptState (type : Nat) (body : List Byte) : State :=
  let s := (netState 0).setPoint 5 { Point.undef with defn := some ⟨.pub, 1, .int32, 6, 0, 0x1FF⟩, value := 7 }
  { s with net := { s.net with queue := [uptMsg type body] } }

/-- The replay window at its edges: the highest count, 63 behind it, and 64 behind it. -/
theorem wit_replay : let e : ReplayEntry := ⟨0x30, 1, 2, 100, 1, true⟩
    let s0 := netState 0
    let s := { s0 with net := { s0.net with replay := [e] } }
    let h (ep c : Nat) : UptHdr := { uptHdr 1 0 with epoch := ep, count := c }
    s.hlt.supRestart = false ∧ s0.net.replay.length < 8192 ∧ (s0.judgeReplay (h 2 100)).2 = .pass ∧
    (s.judgeReplay (h 2 100)).2 = .replayed ∧ (s.judgeReplay (h 2 37)).2 = .pass ∧ (s.judgeReplay (h 2 36)).2 = .replayed ∧
    (s.judgeReplay (h 2 101)).1.net.replay = [⟨0x30, 1, 2, 101, 3, true⟩] ∧ (s.judgeReplay (h 1 200)).2 = .replayed ∧
    (s.judgeReplay (h 3 1)).2 = .pass := by decide
/-- The payload of a READ of one selector with its own CMAC is good, for this module, of the key's tenant and authentic. -/
theorem wit_upt_good : uptGood (uptPay 1 [1, 0, 5, 0]) ∧ UptHdr.parse (uptPay 1 [1, 0, 5, 0]) = uptHdr 1 4 ∧
    (netState 0).netKeyTen 1 = some 1 ∧ (netState 0).rd NET_ADDR_MADDR = 0x21 := by
  have hp : UptHdr.parse (uptPay 1 [1, 0, 5, 0]) = uptHdr 1 4 := by rfl
  refine ⟨?_, hp, by decide, by decide⟩
  have hl : ∀ l : List Byte, (fit 8 l).length = 8 := by intro l; simp [fit, padTo]; omega
  unfold uptGood
  rw [hp]
  refine ⟨?_, by rfl, by decide, by decide, by rfl, by decide, by decide, by decide, by decide⟩
  simp [uptPay, frameMac, hl, uptHdr, UptHdr.bytes, leBytes]
theorem wit_upt_authentic : (netState 0).authentic (uptHdr 1 4) (uptPay 1 [1, 0, 5, 0]) = true := by
  have hk : (netState 0).netKey 1 = .ok (macKey 1) := by rfl
  have ht : ∀ l : List Byte, (fit 8 l).take 8 = fit 8 l := by intro l; rw [fit, List.take_take, Nat.min_self]
  simp [State.authentic, hk, uptPay, frameMac, slice, ht, uptHdr, UptHdr.bytes, leBytes, macKey]
theorem wit_upt_frame_format : let s0 := netState 0
    let s := { s0 with net := { s0.net with rx := [⟨0, 2, ethTo 0x0A5A7E000021 5 0x88B5 [2], none⟩] } }
    s.awake = true ∧ s.micro 4 = true ∧ s.rd NET_UPT_CFG_ETYPE = 0x88B5 ∧
    after (exec .uptFrameReceived s) (fun t => t.net.rx == [] && t.rd NET_UPT_CNT_A_LENERR == 1) = true := by decide
theorem wit_upt_read : pointReadable (uptState 1 [1, 0, 5, 0]) 1 5 ⟨.pub, 1, .int32, 6, 0, 0x1FF⟩ ∧
    after (exec .uptRead (uptState 1 [1, 0, 5, 0])) (fun t => t.net.queue == [] && t.net.tx.map TxFrame.queue == [5]) = true := by
  unfold pointReadable tenantEnabled visAdmits; decide
theorem wit_upt_write : let b : List Byte := [1, 0, 0, 0, 5, 0, 1, 0, 9, 0, 0, 0]
    pointWritable (uptState 2 b) 1 5 ⟨.pub, 1, .int32, 6, 0, 0x1FF⟩ ∧
    after (exec .uptWrite (uptState 2 b)) (fun t => (t.point 5).value == 9#32 && t.net.kept.length == 1) = true := by
  unfold pointWritable tenantEnabled visAdmits; decide
theorem wit_upt_subscribe : let b : List Byte := [1, 0, 0, 0, 3, 0, 5, 0, 1, 0, 0, 0, 8, 0, 0, 0]
    b.length = 16 ∧ after (exec .uptSubscribe (uptState 3 b)) (fun t => t.rd NET_STAT_PUBS == 1 &&
      t.net.pubs.map (fun p => (p.addr, p.subno, p.handle, p.mode, p.per, p.tmo)) == [(0x30, 3, 5, 1, 1, 8)]) = true := by decide
theorem wit_upt_event : after (exec (.uptEvent 0) (uptState 5 [2, 0, 0, 0])) (fun t => t.cfg.epoch == 1 && t.net.count == 0) = true ∧
    after (exec (.uptEvent 0) (uptState 5 [3, 0, 0, 0])) (fun t => t.rd NET_UPT_CNT_A_LENERR == 1) = true := by decide
/-- The second segment waits for the first; after 2 s it is dropped. -/
theorem wit_upt_segments : let s0 := uptState 6 [7]
    let m := { uptMsg 6 [7] with hdr := { uptHdr 6 1 with seg := 1 } }
    let s := { s0 with net := { s0.net with queue := [m] } }
    after (exec .uptCommand s) (fun t => t.net.reasm.map Reassembly.segs == [[(1, [7], true)]]) = true ∧
    after (exec .reassemblyTimeout { s with ms := 2000, net := { s.net with reasm := [⟨m.hdr, m.path, [], 0⟩, ⟨m.hdr, m.path, [], 1⟩] } })
      (fun t => t.net.reasm.length == 1 && t.rd NET_UPT_CNT_A_LENERR == 1) = true := by decide
/-- Subscription 4 to address 0x30, handle 6, with a timeout of 16 lc, writes point 6. -/
def subPar : List Nat := [0x01000004, 0x00300006, 0x00010010, 0x00060001]
def subState (st now : Nat) (m : List UptMsg) : State :=
  let s := (withF (netState 0) [(NET_SUB_STAT_STATE 4, st)]).setPoint 6 { Point.undef with defn := some ⟨.pub, 1, .int32, 7, 4, 0x1FF⟩ }
  { s with net := { s.net with subs := [(4, ⟨subPar, 0, 0⟩)], queue := m }, ltu := { s.ltu with now := now } }
theorem wit_notice : let b (ty : Byte) : List Byte := [1, 0, 0, 0, 4, 0, 0, 0, ty, 0x20, 0, 0, 9, 0, 0, 0, 0, 0, 0, 0]
    (Subscr.mk subPar 0 0).raddr = 0x30 ∧ (Subscr.mk subPar 0 0).key = 1 ∧ (Subscr.mk subPar 0 0).ph = 6 ∧ (b 1).length = 20 ∧
    after (exec .uptNotice (subState 1 0 [uptMsg 4 (b 1)])) (fun t => t.rd (NET_SUB_STAT_STATE 4) == 2 && (t.point 6).value == 9#32 && (t.point 6).qual == 0#8) = true ∧
    after (exec .uptNotice (subState 1 0 [uptMsg 4 (b 3)])) (fun t => t.rd (NET_SUB_STAT_STATE 4) == 6 && (t.point 6).qual == 0x86#8) = true := by
  decide
theorem wit_subscribe_response : let m := { uptMsg 3 [0, 0x0A, 0, 1, 0, 0, 0, 1] with hdr := { uptHdr 3 8 with resp := true } }
    let s0 := subState 1 0 [m]
    let s := { s0 with net := { s0.net with requests := [⟨0x30, false, 1, 9, [4], 0⟩] } }
    after (exec .uptResponse s) (fun t => t.rd (NET_SUB_STAT_STATE 4) == 2 && t.net.requests == []) = true := by decide
theorem wit_stale : (Subscr.mk subPar 0 0).tmo = 16 ∧
    after (exec (.subscriptionStale 4) (subState 2 (16 * 65536) [])) (fun t => t.rd (NET_SUB_STAT_STATE 4) == 3 && (t.point 6).qual == 0x43#8) = true ∧
    after (exec (.subscriptionStale 4) (subState 2 (16 * 65536 - 1) [])) (fun t => t.rd (NET_SUB_STAT_STATE 4) == 2) = true := by decide
theorem wit_retry : let s0 := subState 1 (16 * 65536) []
    let s (tries : Nat) : State := { s0 with net := { s0.net with requests := [⟨0x30, false, 1, 9, [4], 0⟩], subs := [(4, ⟨subPar, tries, 0⟩)] } }
    (s 1).portsFor (uptMac false 0x30) = [0] ∧
    after (exec (.subscribeRetry 9) (s 2)) (fun t => t.rd (NET_SUB_STAT_STATE 4) == 4 && (t.point 6).qual == 0x85#8) = true ∧
    after (exec (.subscribeRetry 9) (s 1)) (fun t => (t.net.subs.map fun x => x.2.tries) == [2] && t.net.tx.length == 1) = true := by decide
theorem wit_refresh : let s0 := withF (subState 5 (256 * 65536) []) [(LTU_SCHED_EN, 1)]
    let s := { s0 with net := { s0.net with nextRefresh := 256 } }
    after (exec .subscribeRefresh s) (fun t => t.net.nextRefresh == 512 && t.rd (NET_SUB_STAT_STATE 4) == 1 && t.net.requests.length == 1) = true := by decide
/-- A changed value after its period, and a periodic notice in its cycle. -/
theorem wit_publications : let p (mode : Nat) : Publication := ⟨0x30, 0x21, 3, 1, 1, 5, 5, mode, 2, 16, 0, 0, 6, 0⟩
    let s0 := uptState 1 []
    let s (mode now : Nat) : State := { s0 with net := { s0.net with pubs := [p mode], queue := [] }, ltu := { s0.ltu with now := now * 65536 } }
    after (exec (.changeNotice 0x30 3) (s 1 2)) (fun t => t.net.pubs == [{ p 1 with sent := 2, value := 7 }] && t.net.tx.map TxFrame.queue == [6]) = true ∧
    after (exec (.changeNotice 0x30 3) (s 1 1)) (fun t => t.net.pubs == [p 1]) = true ∧
    after (exec .periodicNotice (s 0 2)) (fun t => t.net.pubs.map Publication.sent == [2]) = true ∧
    after (exec .publicationDrop (s 0 1024)) (fun t => t.net.pubs == []) = true ∧
    after (exec .publicationDrop (s 0 1023)) (fun t => t.net.pubs.length == 1) = true := by decide
theorem wit_key_binding : after (exec (.keyBindingChange 1 true 9) { netState 0 with net := { (netState 0).net with replay := [⟨0x30, 1, 2, 1, 1, true⟩] } })
    (fun t => t.rd (NET_KEY_SLOT 1) == 9 && t.net.replay == []) = true := by decide

/-! ## Redundant pair -/

/-- A pair member of this role and state, its link up under key slot 7 (type 1), the twin's last frame number 8 of epoch 2. -/
def pairState (role st : Nat) (fs : List (Fld × Nat)) : State :=
  let s := withF (withF State.reset [(PLK_STAT_ROLE, role), (PLK_STAT_STATE, st), (PLK_STAT_LINK, 1), (PLK_KEY_EN, 1), (PLK_KEY_SLOT, 7)]) fs
  { s with plk := { s.plk with rxEpoch := 2, rxCount := 8 }
           ksu := { s.ksu with slots := [(7, ⟨false, false, 0, 1, 4, 0, 0x3F, 0, 0, List.replicate 32 0, 0⟩)] } }
def head9 : LinkHead := ⟨true, 2, 9⟩
theorem wit_field_numbers : fieldNumbers (pairState 1 3 []) := by unfold fieldNumbers; decide
theorem wit_pair_watch : (pairState 1 3 []).awake = true ∧ (pairState 1 3 []).plk.dualOff = false ∧
    after (exec (.pairWatchChange true false 5) (pairState 1 3 [])) (fun t => t.rd PLK_STAT_WATCH == 1 && t.rd PLK_STAT_STATE == 3) = true ∧
    after (exec (.pairWatchChange false true 5) (pairState 1 3 [])) (fun t => t.rd PLK_STAT_STATE == 4 && t.rd PLK_SWO_CAUSE_KIND == 1 &&
      t.rd PLK_SWO_CAUSE_TKO_NS == 5 && t.rd PLK_EVT_TAKEOVER == 1) = true ∧
    after (exec (.pairWatchChange false true 5) (pairState 2 3 [])) (fun t => t.rd PLK_STAT_STATE == 2 && t.rd PLK_EVT_DUAL == 1) = true := by
  decide
/-- 2 s after the enable a standby-strapped module with COLD claims control; 1 ms earlier it does not. -/
theorem wit_cold : let s (ms : Nat) : State := { pairState 2 1 [(PLK_CFG_COLD, 1)] with
      ms := ms, plk := { (pairState 2 1 []).plk with enMs := some 10, quietMs := 0 } }
    after (exec (.coldTakeoverTimeout false) (s 2010)) (fun t => t.rd PLK_STAT_STATE == 4 && t.rd PLK_SWO_CAUSE_KIND == 2) = true ∧
    after (exec (.coldTakeoverTimeout false) (s 2009)) (fun t => t.rd PLK_STAT_STATE == 1) = true := by decide
theorem wit_planned : let s := { pairState 2 2 [(FIO_STAT_OUT_EN, 1)] with plk := { (pairState 2 2 []).plk with leaving := true } }
    after (exec .outgoingStageDisable s) (fun t => t.rd FIO_STAT_OUT_EN == 0) = true ∧
    after (exec .holdoffExpiry (pairState 1 3 [(PLK_CFG_HOLDOFF, 1)])) (fun t => t.plk.reclaimed && t.plk.waiting.length + t.plk.unacked.length == 1) = true ∧
    after (exec .holdoffExpiry (pairState 1 3 [(PLK_CFG_HOLDOFF, 1), (PLK_STAT_HOLD_REM, 1)])) (fun t => !t.plk.reclaimed) = true := by decide
theorem wit_pair_requests : after (exec (.pairRelease 1) (pairState 1 4 [])) (fun t => t.answer.code == 0x0B03) = true ∧
    after (exec (.pairRelease 0) State.reset) (fun t => t.answer.code == 0x0B04) = true ∧
    after (exec (.pairRelease 0) (pairState 1 3 [])) (fun t => t.answer.code == 0x0B01) = true ∧
    after (exec (.pairRelease 0) (pairState 1 4 [(PLK_STAT_SWO_PEND, 1)])) (fun t => t.answer.code == 0x0B05) = true ∧
    after (exec (.pairRelease 0) (pairState 1 4 [])) (fun t => t.answer.code == 0x0B02) = true ∧
    after (exec (.pairRelease 0) (pairState 1 4 [(PLK_STAT_TWIN_SYNCED, 1)])) (fun t => t.answer.code == 0x0B00 && t.rd LTU_SWO_LO_X_LO == 131072) = true ∧
    after (exec (.pairResync 0) (pairState 1 3 [])) (fun t => t.rd PLK_STAT_STATE == 2) = true := by decide
/-- A switch-over that is not acknowledged moves 16 times and then ends; one that is changes control at X. -/
theorem wit_switchover : let s (st moves : Nat) (go : Bool) : State := { sched 0 0 0 (pairState 1 st [(PLK_STAT_SWO_PEND, 1), (LTU_SCHED_SWO_ARM, 1)]) with
      plk := { (pairState 1 st []).plk with moves := moves, swoX := 128, go := go } }
    after (exec .goDeadline (s 4 15 false)) (fun t => t.plk.moves == 16 && t.rd PLK_STAT_SWO_PEND == 1 && 256 ≤ t.plk.swoX) = true ∧
    after (exec .goDeadline (s 4 16 false)) (fun t => t.rd PLK_STAT_SWO_PEND == 0 && t.rd PLK_EVT_SWITCHOVER == 1) = true ∧
    (s 4 0 true).issuable 0 0 = some ⟨0, 0, 0, 0⟩ ∧
    after (exec .switchoverPoint (s 4 0 true)) (fun t => t.rd PLK_STAT_STATE == 2 && t.plk.leaving && t.rd PLK_SWO_CAUSE_KIND == 4) = true ∧
    after (exec .switchoverPoint (s 3 0 true)) (fun t => t.plk.atX && t.rd PLK_STAT_STATE == 3) = true := by decide
theorem wit_plk_reads : let s := { State.reset with plk := { State.reset.plk with ofs := 0x123456789ABCDE, changed := 0x100000002 } }
    after (exec .plkOfsLoRead s) (fun t => t.answer.words == [0x789ABCDE#32] && t.rd PLK_OFS_HI_OFS_HI == 0x123456) = true ∧
    after (exec .plkSwoLoRead s) (fun t => t.answer.words == [2#32] && t.rd PLK_SWO_HI_T_HI == 1) = true := by decide
/-- Frame 9 is in order; frame 10 is not. -/
theorem wit_link_order : let s := pairState 2 3 []
    head9.epoch.toNat = s.plk.rxEpoch ∧ head9.count.toNat = (s.plk.rxCount + 1) % 2 ^ 32 ∧ linkCommand ⟨true, 2, 10⟩ (.ctrlGo ⟨true, 2, 10⟩) ∧
    after (exec (.ctrlGo ⟨true, 2, 10⟩) s) (fun t => t.rd PLK_LINK_BADFRM == 1 && t.plk.nak) = true ∧
    after (exec (.ctrlFault head9 300 false) s) (fun t => t.rd PLK_STAT_STATE == 4 && t.rd PLK_SWO_CAUSE_TKO_NS == 300) = true ∧
    after (exec (.ctrlGo head9) (withF s [(PLK_STAT_SWO_PEND, 1)])) (fun t => t.plk.go && t.plk.rxCount == 9) = true ∧
    after (exec (.ctrlSwoCancel head9) (withF s [(PLK_STAT_SWO_PEND, 1)])) (fun t => t.rd PLK_STAT_SWO_PEND == 0) = true ∧
    after (exec (.ctrlSwo head9 0x30000) s) (fun t => t.rd PLK_STAT_SWO_PEND == 1 && t.plk.swoX == 0x30000) = true := by
  refine ⟨by decide, by decide, ?_, by decide, by decide, by decide, by decide, by decide⟩
  simp [linkCommand]
theorem wit_ctrl : let s := pairState 1 4 []
    after (exec (.ctrlResync head9) s) (fun t => t.plk.fullNext) = true ∧
    after (exec (.ctrlReclaim head9) s) (fun t => t.rd PLK_STAT_SWO_PEND == 1 && t.plk.swoX == 131072) = true ∧
    after (exec (.ctrlImageReq head9) s) (fun t => t.plk.waiting.length + t.plk.unacked.length == 1) = true ∧
    after (exec (.ctrlImageResult head9 [0, 0]) { s with plk := { s.plk with imgAwait := true } }) (fun t => !t.plk.imgAwait) = true ∧
    after (exec (.mirrorImg head9 [7] false) s) (fun t => t.plk.image == [7]) = true := by decide
/-- The twin's line time is 2 cycles ahead, so its timestamps go back by 131,072. -/
theorem wit_mirror : let s0 := (pairState 2 3 []).setPoint 5 { Point.undef with defn := some ⟨.pub, 1, .bool, 4, 7, 0x1FF⟩ }
    let s := { s0 with plk := { s0.plk with ofs := 131072 }, cle := ⟨[(3, loopL)], [], []⟩
                       mtr := { s0.mtr with chans := [(2, MeterCh.fresh meterDecl 0)] } }
    after (exec (.mirrorOut head9 [⟨5, 0, 7, 131073⟩] true) s) (fun t => (t.point 5).value == 1#32 && (t.point 5).ts == 1#32) = true ∧
    after (exec (.mirrorOut head9 [⟨5, 0, 7, 131073⟩] false) s) (fun t => t.plk.outs.length == 1 && (t.point 5).upd == 0#16) = true ∧
    after (exec (.mirrorForce head9 5 1 1 9 131073) s) (fun t => (t.point 5).forced && (t.point 5).fval == 9#32 && (t.point 5).fts == 1#32) = true ∧
    after (exec (.mirrorForce head9 5 2 1 0 0) s) (fun t => !(t.point 5).forced && t.cfg.forces == []) = true ∧
    after (exec (.mirrorLoop head9 [(⟨3, 1, 2, 0, 0, 0, 11, 12, 13, 14, 0, 15, 131073⟩, 0)]) s) (fun t => t.rd (CLE_LOOP_I_VAL 3) == 11 &&
      (t.cle.loops.map fun x => (x.2.qprev, x.2.pcnt, x.2.pts)) == [(13, 15, 1)]) = true ∧
    after (exec (.mirrorMeter head9 [⟨2, 3, List.replicate 10 6, List.replicate 10 7, List.replicate 10 8, List.replicate 10 5, 4, 3, 0, 131073, 0⟩]) s)
      (fun t => (t.mtr.chans.map fun x => (x.2.acc.getD 9 ⟨0, 0, 0, 0⟩, x.2.start)) == [(⟨6, 7, 8, 5⟩, 1)]) = true ∧
    after (exec (.mirrorGrn head9 (List.replicate 32 0)) s) (fun t => t.plk.tail.length ≤ 1) = true ∧
    after (exec (.mirrorData head9 [⟨3, [1]⟩]) s) (fun t => t.plk.rows == [⟨3, [1]⟩]) = true ∧
    after (exec (.mirrorDataEnd head9 ⟨6, 0, 0, 0, 1, 0, ⟨[], [], []⟩, ⟨[], [], []⟩⟩) s)
      (fun t => t.rd CXE_SNAP_SEQ_SEQ == 6 && t.rd CXE_STAT_MAPSEL == 1 && t.rd CXE_STAT_SNAP_BANK == 1) = true := by decide
def beatOf (ctrl : Bool) : Beat := ⟨3, ctrl, false, true, false, false, 1000, 0, 0, 0, 0⟩
theorem wit_heartbeat : let s := { pairState 2 1 [] with ltu := { (pairState 2 1 []).ltu with now := 900 } }
    after (exec (.heartbeatReceived head9 (beatOf false) 900) s) (fun t => t.rd PLK_STAT_STATE == 1) = true ∧
    after (exec (.heartbeatReceived head9 (beatOf true) 900) (withF s [(PLK_STAT_STATE, 4)]))
      (fun t => t.rd PLK_STAT_STATE == 2 && t.plk.dualOff && t.rd PLK_SWO_CAUSE_CAUSE == 5) = true := by decide
theorem wit_link : let s := pairState 2 3 []
    let u := { s with plk := { s.plk with unacked := [(4, .ctrl 3 0), (5, .ctrl 4 0)] } }
    after (exec .linkFrameRetransmit u) (fun t => t.rd PLK_LINK_RETX == 2) = true ∧
    after (exec .pairLinkDown s) (fun t => t.rd PLK_STAT_LINK == 0 && t.rd PLK_LINK_DOWNS == 1) = true ∧
    (withF s [(PLK_STAT_LINK, 0)]).linkKeyOk = true ∧ State.reset.linkKeyOk = false ∧
    after (exec .syncedLinkGrace (withF s [(PLK_STAT_LINK, 0)])) (fun t => t.rd PLK_STAT_STATE == 2) = true ∧
    after (exec (.pairLinkUp 6 40) (withF s [(PLK_STAT_LINK, 0)])) (fun t => t.rd PLK_STAT_LINK == 1 && t.plk.rxEpoch == 6 && t.plk.rxCount == 0) = true := by
  decide

/-! ## Hearth -/


/-- Slot 8 holds a derivation key of tenant 1, slot 9 its child, slot 10 a signature key; all in life-cycle state 2. -/
def hKey (type usage pkind parent : Nat) : KeySlot := ⟨false, true, 0, type, usage, 1, 0x1F, pkind, parent, List.replicate 32 1, 0⟩
def hearth (arg0 arg1 : Nat) : State :=
  let s := withF State.reset [(KSU_CARG0_ARG, arg0), (KSU_CARG1_INLEN, arg1 % 65536), (KSU_CARG1_AUXLEN, arg1 / 65536), (KSU_TEN_CFG_QUOTA 1, 16)]
  { s with ksu := { s.ksu with slots := [(8, hKey 4 2 1 0xFF), (9, hKey 1 0x1D 2 8), (10, hKey 2 0x43 1 0xFF)] } }
/-- Attributes: TYPE, USAGE, tenant 1, every life-cycle state. -/
def attrOf (type usage : Nat) : Nat := type * 2 ^ 24 + usage * 2 ^ 17 + 1 * 2 ^ 11 + 0x1F * 2 ^ 5
def code (i : Instr) (s : State) (c : Nat) : Bool := after (exec i s) fun t => t.rd KSU_CRES_CODE == c && t.rd KSU_CRES_DONE == 1
def begins (i : Instr) (s : State) (op slot : Nat) : Bool :=
  after (exec i s) fun t => t.ksu.ops.map (fun o => (o.op, o.slot, o.started)) == [(op, slot, true)]

theorem wit_hearth_free : hearthFree (hearth 0 0) ∧ (hearth 0 0).rd PWR_STAT_PF = 0 ∧ (hearth 0 0).rd KSU_JRNL_LIVE < 3824 ∧
    depthOf (hearth 0 0).ksu.slots 8 = 0 ∧ depthOf (hearth 0 0).ksu.slots 9 = 1 ∧ (hearth 0 0).orphan 9 = false := by unfold hearthFree; decide +kernel
theorem wit_key_gate : code (.ksuGenerate 1 20) (withF (hearth 0 0) [(KSU_STAT_LOCK, 1)]) 0x0C0F = true ∧
    code (.ksuNonce 1) (withF (hearth 0 0) [(KSU_STAT_LC, 5)]) 0x0C05 = true ∧
    code (.ksuLcset 0 true true) (withF (hearth 0 0) [(PWR_STAT_PF, 1)]) 0x0C0E = true := by decide +kernel
theorem wit_generate : begins (.ksuGenerate 1 20) (hearth (attrOf 1 0x1D) 0) 1 20 = true ∧
    code (.ksuGenerate 1 20) (hearth (attrOf 1 0x02) 0) 0x0C04 = true ∧ code (.ksuGenerate 1 7) (hearth (attrOf 1 0x1D) 0) 0x0C07 = true ∧
    code (.ksuGenerate 1 20) (withF (hearth (attrOf 1 0x1D) 0) [(KSU_TEN_CFG_QUOTA 1, 3)]) 0x0C06 = true := by decide +kernel
theorem wit_import : begins (.ksuImport 1 20 0xFF) (withF (hearth (attrOf 0 0x1D) 16) [(KSU_STAT_LC, 1)]) 2 20 = true ∧
    code (.ksuImport 1 20 0xFF) (hearth (attrOf 0 0x1D) 16) 0x0C05 = true ∧ (hKey 2 0x43 1 0xFF).usage.testBit 0 = true := by decide +kernel
theorem wit_derive : begins (.ksuDerive 1 20 8) (hearth (attrOf 1 0x1D) (4 * 65536 + 4)) 3 20 = true := by decide +kernel
theorem wit_invalidate : begins (.ksuInvalidate 1 8) (hearth 0 0) 6 8 = true ∧ code (.ksuInvalidate 1 77) (hearth 0 0) 0x0C03 = true ∧
    code (.ksuReclaim 1 8) (hearth 0 0) 0x0C0A = true ∧
    (let s := hearth 0 0
     let dead := { s with ksu := { s.ksu with slots := [(8, { hKey 4 2 1 0xFF with invalid := true }), (9, hKey 1 0x1D 2 8)] } }
     code (.ksuReclaim 1 8) dead 0x0C0B = true ∧ begins (.ksuReclaim 1 9) dead 7 9 = true) := by decide +kernel
/-- The commit of an INVALIDATE orphans the key and its child, and says so: 2. -/
theorem wit_key_commit : let s := hearth 0 0
    let o : KeyOp := ⟨6, 1, 8, 0, 0, 0, [], 0, true, false, none, none⟩
    let e : KeyEntry := ⟨5, 8, some { hKey 4 2 1 0xFF with invalid := true }, false⟩
    let t := { s with ksu := { s.ksu with ops := [o], journal := [e] } }
    after (exec (.keyOperationComplete 0) t) (fun t => t.orphan 9 && t.rd (KSU_OBUF_W 0) == 2 && t.rd KSU_JRNL_SEQ == 5 && t.ksu.ops == []) = true ∧
    after (exec .journalWaitExpiry { s with ksu := { s.ksu with ops := [{ o with waits := true }] } }) (fun t => t.rd KSU_CRES_CODE == 0x0C11) = true ∧
    (s.replayKey e).rd KSU_EVT_ROLLBACK = 1 ∧ (s.replayKey { e with commit := true }).rd KSU_EVT_ROLLFWD = 1 := by decide +kernel
theorem wit_key_use : begins (.ksuSign 1 10) (hearth 0 1) 10 10 = true ∧ code (.ksuSign 1 10) (hearth 0 0) 0x0C08 = true ∧
    code (.ksuSign 1 9) (hearth 0 1) 0x0C04 = true ∧ code (.ksuSign 2 10) (hearth 0 1) 0x0C03 = true ∧
    begins (.ksuPubkey 1 10) (hearth 0 0) 5 10 = true ∧ begins (.ksuEncrypt 1 9) (hearth 0 12) 12 9 = true ∧
    begins (.ksuDecrypt 1 9) (hearth 0 28) 13 9 = true ∧ begins (.ksuMac 1 9) (hearth 0 0) 14 9 = true ∧
    begins (.ksuMacv 1 9) (hearth 0 (8 * 65536 + 8)) 15 9 = true ∧ begins (.ksuExport 1 9 10) (hearth 0 0) 4 9 = true ∧
    begins (.ksuNonce 1) (hearth 0 0) 17 0 = true ∧ begins (.ksuCert 1 0) (hearth 0 0) 9 0 = true ∧ code (.ksuCert 1 9) (hearth 0 0) 0x0C04 = true := by
  decide +kernel
def hWith (k : KeySlot) (n : Nat) : State := { hearth 0 (16) with ksu := { (hearth 0 0).ksu with slots := putKey (hearth 0 0).ksu.slots n (some k) } }
theorem wit_verify_attest : begins (.ksuVerify 1 20) (withF (hWith { hKey 3 0x20 0 0xFF with material := List.replicate 64 1 } 20) [(KSU_CARG1_INLEN, 64)]) 11 20 = true ∧
    begins (.ksuAttest 1 9) (hWith (hKey 2 0x43 0 0xFF) 0) 8 9 = true := by decide +kernel
theorem wit_key_results : let s := hearth 0 0
    let run (o : KeyOp) : State := { s with ksu := { s.ksu with ops := [o], cert := [1, 2, 3, 4] } }
    let o (op slot : Nat) (k : KeySlot) (input : List Byte) : KeyOp := ⟨op, 1, slot, 10, 0, 0, input, 1, true, false, some k, some (hKey 2 0x43 1 0xFF)⟩
    after (exec (.keyOperationComplete 0) (run (o 5 20 { hKey 3 0x20 0 0 with material := List.replicate 64 1 } [])))
      (fun t => t.rd KSU_CRES_OUTLEN == 64 && t.rd (KSU_OBUF_W 15) == 0x01010101) = true ∧
    after (exec (.keyOperationComplete 0) (run (o 9 0 (hKey 2 0 0 0) []))) (fun t => t.rd KSU_CRES_OUTLEN == 4 && t.rd (KSU_OBUF_W 0) == 0x04030201) = true ∧
    after (exec (.keyOperationComplete 0) (run (o 17 0 (hKey 2 0 0 0) []))) (fun t => t.ksu.nonce.isSome) = true := by decide +kernel
/-- A third signature waits for one of the two units. -/
theorem wit_key_queue : let s := hearth 0 1
    let o : KeyOp := ⟨10, 1, 10, 0, 0, 0, [1], 2, true, false, some (hKey 2 0x43 1 0xFF), none⟩
    after (exec (.ksuSign 1 10) { s with ksu := { s.ksu with ops := [o, o] } }) (fun t => t.ksu.ops.map KeyOp.started == [true, true, false] && t.rd KSU_STAT_PQUEUE == 1) = true := by decide +kernel
/-- 2 to 3 shows the serial number; 2 to 2 is in no row of the table. -/
theorem wit_lcset : let s := withF (hearth 3 8) [(KSU_IBUF_W 0, 0), (KSU_IBUF_W 1, 0)]
    after (exec (.ksuLcset 0 false false) { s with ksu := { s.ksu with serial := 0 } }) (fun t => t.ksu.lcTo == some 3) = true ∧
    code (.ksuLcset 0 false false) { s with ksu := { s.ksu with serial := 1 } } 0x0C0D = true ∧
    code (.ksuLcset 0 false false) (withF s [(KSU_CARG0_ARG, 2)]) 0x0C05 = true := by decide +kernel
theorem wit_debug_lock : after (exec (.debugToken true false) (hearth 0 0)) (fun t => t.rd KSU_DBG_DBG_OPEN == 1 && t.rd KSU_DBG_TOKEN == 1) = true ∧
    after (exec (.debugToken false true) (withF (hearth 0 0) [(KSU_STAT_LC, 1)])) (fun t => t.rd KSU_DBG_DBG_OPEN == 1 && t.rd KSU_DBG_TOKEN == 0) = true ∧
    after (exec .tamperLock (hearth 0 0)) (fun t => t.rd KSU_STAT_LOCK == 1 && t.rd KSU_EVT_TAMPER == 1) = true := by decide +kernel
/-- Without a key the report is stored unsigned. -/
theorem wit_report_store : let s := hearth 0 0
    let r : Report := ⟨1, 5, 0, 0, 0, 10, []⟩
    let q (r : Report) : State := { s with mtr := { s.mtr with queue := [r] } }
    after (exec (.reportStore false) (q r)) (fun t => t.mtr.queue == [] && t.mtr.store.map (fun x => (x.tenant, x.seq, x.acked)) == [(1, 5, false)]) = true ∧
    after (exec (.reportStore false) (q { r with slot := 77 })) (fun t => t.rd MTR_EVT_SIGN_FAIL == 1 &&
      t.mtr.store.map (fun x => x.bytes.drop (x.bytes.length - 64)) == [List.replicate 64 0]) = true := by decide +kernel


/-! ## Field update -/

/-- Block 0 of an image with 2 header blocks and 3 body blocks, its CRC at its end. -/
def updBlock : List Byte :=
  let b := [0x55, 0x50, 0x44, 0x49, 1, 0, 2, 0, 0, 0, 0, 0, 3, 0, 0, 0] ++ List.replicate 4076 0
  b ++ leBytes 4 (crc32c b)
/-- A session of the host in state 1, with the block in the buffer. -/
def updState (st : Nat) (b : List Byte) : State :=
  let s := withF State.reset [(UPD_STAT_STATE, st), (UPD_STAT_OWNER, 1), (UPD_ARG_W, 4)]
  (List.range ((b.length + 3) / 4)).foldl (fun s n => s.wr (UPD_BLK_W n) (leAt b (4 * n) 4)) s
def upd (i : Instr) (s : State) (c : Nat) : Bool := after (exec i s) fun t => t.rd UPD_RES_CODE == c && t.rd UPD_RES_DONE == 1
/-- A header area of one component of kind 1 and ORDER 1 that restarts. -/
def updHead : List Byte := [0x55, 0x50, 0x44, 0x49, 1, 0, 1, 0, 0, 0, 0, 0, 1, 0, 0, 0] ++ List.replicate 24 0 ++ [1] ++ List.replicate 215 0 ++
  [1, 1, 1, 0, 0, 0, 0, 0, 1, 0, 0, 0, 0, 0, 0, 0, 9, 0, 0, 0]
def withImage (s : State) : State := { s with upd := { s.upd with slot1 := [(0, updHead), (1, [7])], wrote := true, window := 4 } }

theorem wit_upd_gate : (updState 1 []).supGate = none ∧ upd (.updateWrite .host 1 0) (updState 1 []) 0x0D0E = true ∧
    upd (.updateOpen .host 0) (updState 1 []) 0x0D01 = true ∧ upd (.updateFinish .service 0) (updState 1 []) 0x0308 = true ∧
    after (exec (.updateInstall .host 0) (updState 2 [])) (fun t => t.rd UPD_RES_REASON == 0x81) = true ∧
    after (exec (.updateStatus .host 0) (updState 3 [])) (fun t => (t.answer.words.map BitVec.toNat).take 1 == [3 * 2 ^ 29 + 1 * 2 ^ 27]) = true := by
  decide +kernel
theorem wit_upd_open : let s := withF (updState 0 []) [(UPD_STAT_OWNER, 0)]
    after (exec (.updateOpen .host 0) s) (fun t => t.rd UPD_STAT_STATE == 1 && t.rd UPD_STAT_OWNER == 1 && t.upd.window == 4) = true ∧
    upd (.updateOpen .host 0) (withF s [(UPD_ARG_W, 0)]) 0x0D02 = true ∧
    upd (.updateOpen .host 0) (withF s [(PLK_STAT_ROLE, 1), (PLK_STAT_STATE, 4)]) 0x0D0F = true ∧
    upd (.updateOpen .host 0) (withF s [(UPD_SLOT_STAT_SSTATE 1, 3)]) 0x0D0D = true := by decide +kernel
/-- A position past the largest one is refused. -/
theorem wit_upd_write : (updState 1 []).rd UPD_STAT_ACT_SLOT = 0 ∧ (updState 1 []).upd.wrote = false ∧ leAt updBlock 6 2 = 2 ∧
    leAt updBlock 0xC 4 = 3 ∧ upd (.updateWrite .host 0 24576) (updState 1 []) 0x0D02 = true := by decide +kernel
/-- Without a magic number the header is refused and the session ends. -/
theorem wit_upd_header : let s := updState 1 []
    headerOk s.updHeader (hdrBlocks (s.slotBlocks 1)) (bodyBlocks (s.slotBlocks 1)) = false ∧
    s.checkHeader.rd UPD_RES_CODE = 0x0D04 ∧ s.checkHeader.rd UPD_STAT_STATE = 0 ∧
    planFault [(1, 5)] [⟨2, 1, 0, 0, 0, 1, 0, 9, [(1, 4, 5)]⟩, ⟨3, 2, 0, 0, 0, 1, 0, 9, [(2, 10, 11)]⟩] = some 2 := by decide +kernel
theorem wit_upd_finish : upd (.updateFinish .host 0) (updState 1 []) 0x0D0B = true ∧
    after (exec (.updateFinish .host 0) (withImage (updState 1 []))) (fun t => t.rd UPD_STAT_STATE == 2) = true ∧
    after (exec (.verificationComplete true) { withImage (updState 2 []) with
      ksu := { State.reset.ksu with slots := [(8, ⟨false, false, 0, 0, 8, 0, 0x1F, 1, 0xFF, [], 0⟩)] }
      upd := { (withImage (updState 2 [])).upd with keys := some (8, 8) } }) (fun t => t.rd UPD_RES_CODE == 0x0D0C && t.rd UPD_STAT_STATE == 0) = true := by
  decide +kernel
/-- One component that restarts: installation, or a trial at once where it is in force. -/
theorem wit_upd_install : (plan (withImage (updState 3 [])).updHeader).map UpdComp.restart = [true] ∧
    after (exec (.updateInstall .host 0) (withImage (updState 3 []))) (fun t => t.rd UPD_STAT_STATE == 4 && t.rd UPD_STAT_ORDER == 1) = true ∧
    after (exec (.updateInstall .host 0) (withF (withImage (updState 3 [])) [(UPD_VER_VER 1, 9)]))
      (fun t => t.rd UPD_STAT_STATE == 5 && t.upd.trialEnd == 4 * 256 * 65536) = true ∧
    (withImage (updState 4 [])).upd.pending = none ∧ (withImage (updState 4 [])).nextComp.map UpdComp.order = some 1 := by decide +kernel
theorem wit_upd_trial : let s := withImage (updState 5 [])
    after (exec (.updateConfirm .host 0) s) (fun t => t.rd UPD_STAT_STATE == 0 && t.rd UPD_STAT_ACT_SLOT == 1 && t.rd UPD_EVT_CONFIRMED == 1) = true ∧
    after (exec (.updateFallback .host 0) s) (fun t => t.rd (UPD_SLOT_STAT_SSTATE 1) == 5 && t.rd (UPD_SLOT_STAT_CAUSE 1) == 1) = true ∧
    after (exec (.updateAbort .host 0) (withImage (updState 3 []))) (fun t => t.rd UPD_STAT_STATE == 0 && t.rd UPD_RES_CODE == 0x0D00) = true ∧
    after (exec .trialWindowEnd s) (fun t => t.rd (UPD_SLOT_STAT_CAUSE 1) == 2) = true ∧
    after (exec .trialWindowEnd { s with upd := { s.upd with trialEnd := 65536 } }) (fun t => t.rd UPD_STAT_STATE == 5) = true ∧
    (let r := withImage (updState 4 [])
     after (exec .restartEnableTimeout { r with ms := 30000, upd := { r.upd with enableMs := some 0, pending := some 1 } })
       (fun t => t.rd UPD_STAT_STATE == 6 && t.upd.cause == 3)) = true := by decide +kernel
theorem wit_upd_lock : after (exec .lockTimeout { updState 1 [] with ms := 60000 }) (fun t => t.rd UPD_STAT_STATE == 0 && t.rd UPD_EVT_LOCK_TIMEOUT == 1) = true ∧
    after (exec .lockTimeout { updState 1 [] with ms := 59999 }) (fun t => t.rd UPD_STAT_STATE == 1) = true ∧
    after (exec .lockTimeout { updState 5 [] with ms := 60000 }) (fun t => t.rd UPD_STAT_STATE == 5 && t.rd UPD_STAT_OWNER == 0) = true := by decide +kernel

/-! ## Granary and Well -/

def rec1 (seq code ten : Nat) : Rec := ⟨seq, code, ten, false, true, false, 0, 9, 0, 0, [1, 0, 0, 0, 0, 0], []⟩
def grnState (sram staging ring : List Rec) : State := { withF State.reset [(GRN_SEQ_SEQ, 7), (GRN_CFG_RWIN, 1)] with grn := ⟨sram, staging, ring, 0, 0, none, 0, 0⟩ }
/-- The same event within one line cycle is counted in REP; a cycle later it is a record of its own. -/
theorem wit_event : let s := grnState [rec1 6 0x1234 0] [] []
    after (exec (.eventRecord 9 0x1234 0 (some 65535) [.n1 1]) s) (fun t => t.grn.sram.map Rec.rep == [1] && t.rd GRN_SEQ_SEQ == 7) = true ∧
    after (exec (.eventRecord 9 0x1234 0 (some 65536) [.n1 1]) s) (fun t => t.grn.sram.map Rec.seq == [6, 7] && t.rd GRN_SEQ_SEQ == 8) = true ∧
    after (exec (.eventRecord 9 0x1234 0 none [.n8 1]) (grnState [] [] [])) (fun t => t.grn.sram.map Rec.count == [2]) = true ∧
    after (exec (.eventRecord 9 0x1234 0 (some 0) [.n1 1]) (grnState [] [rec1 6 0x1234 0] [])) (fun t => t.grn.staging.map Rec.rep == [1]) = true := by
  decide
theorem wit_drain : let s := grnState [rec1 6 1 0] [rec1 5 1 0] []
    after (exec .sramDrain s) (fun t => t.grn.staging.map Rec.seq == [5, 6] && t.grn.sram == []) = true ∧
    after (exec (.grnFlush 0) s) (fun t => t.grn.staging.map Rec.seq == [5, 6] && t.rd GRN_EVT_FLUSH == 1) = true ∧
    after (exec (.grnFlush 1) s) (fun t => t.answer.code == 0x0E04) = true ∧
    after (exec .sramDrain { s with grn := { s.grn with lost := 3, lostAt := 9 } }) (fun t => t.grn.sram.map Rec.code == [0x0E41]) = true := by decide
theorem wit_page : let l := (List.range 65).map fun k => rec1 k 1 0
    let s := grnState [] l []
    l = l.take 64 ++ [rec1 64 1 0] ∧ recCount (l.take 64) = 64 ∧
    after (exec (.stagingPageCopy .clean) s) (fun t => t.grn.ring == l.take 64 && t.grn.staging.map Rec.seq == [64]) = true ∧
    after (exec (.stagingPageCopy .retired) s) (fun t => t.nand.spare == 1279) = true ∧
    after (exec (.stagingPageCopy .failed) s) (fun t => t.rd HLT_ERR_B_NANDSKIP == 1) = true := by decide +kernel
theorem wit_freeze : let s := grnState [] [] []
    let f := { withF s [(GRN_STAT_FROZEN, 1), (GRN_STAT_FSRC, 1)] with grn := { s.grn with frozen := some .host, frzMs := 10 } }
    after (exec (.grnFreeze .host 0) s) (fun t => t.grn.frozen == some .host && t.rd GRN_STAT_FSRC == 1) = true ∧
    after (exec (.grnFreeze .service 0) f) (fun t => t.answer.code == 0x0E02) = true ∧ after (exec (.grnFreeze .host 1) s) (fun t => t.answer.code == 0x0E04) = true ∧
    after (exec (.grnThaw .host 0) s) (fun t => t.answer.code == 0x0E03) = true ∧
    after (exec (.grnThaw .host 0) f) (fun t => t.answer.code == 0x0E00 && t.grn.frozen == none) = true ∧
    after (exec .freezeTimeout { f with ms := 30010 }) (fun t => t.grn.frozen == none && t.grn.sram.map Rec.code == [0x0E42]) = true ∧
    after (exec .freezeTimeout { f with ms := 30009 }) (fun t => t.grn.frozen == some .host) = true := by decide
/-- Tenant 1 sees its own records; code 0xA000 of tenant 1 shows the operator no data. -/
theorem wit_grn_read : let s := grnState [rec1 6 0xA000 1] [rec1 5 1 0] []
    after (exec (.grnRead .host 1 64 none) s) (fun t => t.rd GRN_RRES_NREC == 1 && t.rd GRN_RRES_END == 1 && t.rd GRN_RNEXT_NEXT == 7) = true ∧
    after (exec (.grnRead .host 0 64 none) s) (fun t => t.rd GRN_RRES_NREC == 2) = true ∧
    after (exec (.grnRead .host 0 65 none) s) (fun t => t.answer.code == 0x0E05) = true ∧ after (exec (.grnRead .host 0 0 none) s) (fun t => t.answer.code == 0x0E05) = true := by
  decide +kernel
/-- The worked example of R413: 2032-03-01 is second 0x3C80_1600, a Monday; the last second is that of 2199-12-31, and 2000-01-01 is a Saturday. -/
theorem test_calendar : calendarSec 0 0x20320301 = some 0x3C801600 ∧ calendarWords 0x3C801600 = (0x01000000, 0x20320301) ∧
    calendarSec 0x00235959 0x21991231 = some 6311433599 ∧ calendarSec 0 0x20010229 = none ∧ (calendarWords 0).1 / 2 ^ 24 = 6 := by decide +kernel
def wellAt (sec : Nat) (fs : List (Fld × Nat)) : State := { withF State.reset fs with well := ⟨sec, 0, 0, none, false, 0⟩ }
theorem wit_well_commands : let s := wellAt 5 [(WELL_SET0_V, 9), (WELL_SETSUB_V, 32767)]
    s.rd WELL_STAT_LOCK = 0 ∧ s.rd WELL_STAT_BUSY = 0 ∧
    after (exec (.wellSet 0) s) (fun t => t.well.cmd == some (.set 9 32767) && t.rd WELL_STAT_BUSY == 1) = true ∧
    after (exec (.wellArm 0 3) s) (fun t => t.well.cmd == some (.arm 3 9 0)) = true ∧ after (exec (.wellDisarm 0 3) s) (fun t => t.well.cmd == some (.disarm 3)) = true ∧
    after (exec (.wellSet 0) (withF s [(WELL_SETSUB_V, 32768)])) (fun t => t.answer.code == 0x0E09) = true ∧
    after (exec (.wellSet 1) s) (fun t => t.answer.code == 0x0E0C) = true ∧ after (exec (.wellSet 0) (withF s [(WELL_STAT_BUSY, 1)])) (fun t => t.answer.code == 0x0E0A) = true ∧
    after (exec (.wellSet 1) (withF s [(WELL_STAT_LOCK, 1)])) (fun t => t.answer.code == 0x0E0B) = true := by decide
/-- Table 14-4, step 2: three targets passed, one late firing, two skipped, the next target at 03:00:00. -/
theorem test_alarm_across_set : let s := wellAt 1015027190 [(WELL_CFG_MODE, 1), (WELL_ALM_STAT_ARMED 0, 1), (WELL_ALM_LO_T 0, 0x3C801600), (WELL_ALM_PER_PER 0, 3600)]
    after (exec .wellCommandComplete { s with well := { s.well with cmd := some (.set 1015036200 0) } }) (fun t => t.rd (WELL_ALM_LO_T 0) == 0x3C804030 &&
      t.rd (WELL_ALM_STAT_SKIP 0) == 2 && t.rd (WELL_ALM_STAT_LATE 0) == 1 && after (exec .wellSubsecRead t) fun u => u.rd WELL_TIME0_T == 0x01023000 &&
        u.rd WELL_TIME1_T == 0x20320301) = true := by decide +kernel
/-- A SET past three due times of a periodic alarm fires once, late, and skips two; one that ends at a due time is not late. -/
theorem wit_well_set : let s := wellAt 5 [(WELL_ALM_STAT_ARMED 2, 1), (WELL_ALM_LO_T 2, 10), (WELL_ALM_PER_PER 2, 10)]
    let set (x : Nat) : State := { s with well := { s.well with cmd := some (.set x 0) } }
    after (exec .wellCommandComplete (set 35)) (fun t => t.rd (WELL_ALM_STAT_LATE 2) == 1 && t.rd (WELL_ALM_LO_T 2) == 40 && t.rd (WELL_ALM_STAT_SKIP 2) == 2) = true ∧
    after (exec .wellCommandComplete (set 10)) (fun t => t.rd (WELL_ALM_STAT_LATE 2) == 0 && t.rd (WELL_ALM_LO_T 2) == 20 && t.rd (WELL_ALM_STAT_FIRED 2) == 1) = true ∧
    after (exec .wellCommandComplete (set 9)) (fun t => t.rd (WELL_ALM_STAT_FIRED 2) == 0) = true ∧
    after (exec .wellCommandComplete { s with well := { s.well with cmd := some (.arm 1 4 0) } }) (fun t => t.rd (WELL_ALM_STAT_LATE 1) == 1) = true ∧
    after (exec .wellCommandComplete { s with well := { s.well with cmd := some (.disarm 2) } }) (fun t => t.rd (WELL_ALM_STAT_ARMED 2) == 0) = true ∧
    after (exec (.alarmFire 2) s) (fun t => t.well.sec == 10 && t.rd (WELL_ALM_LO_T 2) == 20 && t.rd (WELL_ALM_STAT_FIRED 2) == 1) = true ∧
    after (exec .wellTimeWrap s) (fun t => t.well.sec == 0 && t.rd WELL_STAT_WRAP == 1) = true := by decide
theorem wit_backup : let s := wellAt 0x100000002 []
    after (exec (.backupMemoryWrite 0 15 7) s) (fun t => t.rd (WELL_BKP_DATA 15) == 7) = true ∧
    after (exec .backupSwitchover s) (fun t => t.rd WELL_BSW0_SEC == 2 && t.rd WELL_BSW1_SECHI == 1 && t.rd WELL_STAT_LOCK == 1 && t.well.onBackup) = true ∧
    after (exec .backupReturn { s with well := { s.well with onBackup := true } }) (fun t => !t.well.onBackup) = true ∧
    after (exec .wellSubsecRead s) (fun t => t.answer.words == [0#32] && t.rd WELL_TIME0_T == 2 && t.rd WELL_TIME1_T == 1) = true := by decide

/-! ## Power, reset, sleep and health -/

def noFlush : FlushIn := ⟨0, [], [], 0, [], false, 7⟩
def noFound : Found := ⟨[], [], []⟩
/-- A command changes no register, nor the power manager and the health monitor. -/
def keeps (i : Instr) (s : State) : Bool := after (exec i s) fun t => t.regs == s.regs && t.pwr == s.pwr && t.hlt == s.hlt
/-- The result code of a power command. -/
def pwr (i : Instr) (s : State) (c : Nat) : Bool := after (exec i s) fun t => t.rd PWR_CRES_CODE == c && t.rd PWR_CRES_DONE == 1
def hasLevels (s : State) (lvl : Nat) (goal next : Option Nat) : State :=
  { withF s [(PWR_STAT_LVL, lvl)] with pwr := { s.pwr with levelTo := goal, levelNext := next } }

theorem wit_resets : let s := State.reset
    s.pwr.unpowered = false ∧ (withF s [(PWR_STAT_HOLD, 1)]).rd PWR_STAT_HOLD = 1 ∧ (939 : Half).toNat < 940 ∧ 940 ≤ (940 : Half).toNat ∧
    keeps (.powerOnReset 939 0 true noFound) s = true ∧ keeps (.recoveryReset 940 noFound) s = true ∧
    keeps (.lifecycleReset noFound) s = true ∧
    keeps (.pinReset noFound) { s with pwr := { s.pwr with unpowered := true } } = true ∧
    { s with ksu := { s.ksu with lcTo := some 4 } }.ksu.lcTo = some 4 ∧ (∀ o ∈ s.ksu.ops, o.started = false) ∧ s.rd PWR_STAT_PF = 0 := by
  decide +kernel
/-- What a reset keeps: the role and Granary's staging, not the points nor SRAM. -/
theorem wit_afterReset : let s := { (grnState [rec1 1 1 0] [rec1 2 1 0] []).setWord 0x70000000 5 with ms := 9 }
    (s.setWord 0x10000000 5).afterReset.byte 0x10000000 = 0 ∧ s.afterReset.byte 0x70000000 = 5 ∧ s.afterReset.grn.sram = [] ∧
    s.afterReset.grn.staging.map Rec.seq = [2] := by decide +kernel
theorem wit_lifecycle_words : lcOf [0xFFFFFFFF, 0xFFFFFF00, 0x00FFFFFF, 0, 0] 1 0 = 3 ∧ lcOf [0x007FFFFF, 0, 0, 0, 0] 1 0 = 0 := by decide +kernel
/-- The wait for LOCK ends when LOCK is reached, and not before. -/
theorem wit_lock_wait : let s := { State.reset with pwr := { State.reset.pwr with lockWait := true } }
    let locked := withF s [(LTU_STAT_STATE, 1)]
    keeps .lockWaitEnd State.reset = true ∧ locked.awake = true ∧ locked.cxe.next = none ∧ locked.rd UPD_STAT_STATE = 0 ∧
    locked.fio.chans = [] ∧ locked.fbe.ports = [] ∧ locked.net.subs = [] ∧
    after (exec .lockWaitEnd locked) (fun t => t.rd LTU_SCHED_EN == 1 && !t.pwr.lockWait) = true ∧
    after (exec .lockWaitEnd (withF s [(PWR_CFG_LKWAIT, 1)])) (fun t => t.pwr.lockWait) = true := by decide +kernel
theorem wit_power_failure : let s := State.reset
    s.rd MTR_STAT_RUN = 0 ∧ s.rd CXE_STAT_SNAP_BUSY = 0 ∧ s.cxe.acts = [] ∧ s.rd PLK_STAT_ROLE = 0 ∧ s.fio.chans = [] ∧ s.pwr.unpowered = false ∧
    after (exec (.pfAssert 900 noFlush) s) (fun t => t.rd PWR_STAT_FSTEP == 5 && t.rd PWR_STAT_HOLD == 1 && t.rd PWR_FLUSH_DUR == 7 &&
      t.rd PWR_STAT_VIN == 900 && t.rd PWR_FLUSH_COUNT == 1 && t.rd FIO_STAT_PFSAFE == 1) = true ∧
    after (exec (.pfAssert 901 noFlush) (withF s [(PWR_STAT_PF, 1)])) (fun t => t.rd PWR_STAT_VIN == 901 && t.rd PWR_STAT_HOLD == 0) = true ∧
    keeps (.supplyLoss 750) s = true ∧
    after (exec (.supplyLoss 749) (withF s [(PLK_STAT_ROLE, 1), (PLK_STAT_CTRL, 1)])) (fun t => t.pwr.unpowered && t.rd PWR_STAT_PF == 1 && t.rd PLK_STAT_CTRL == 0) = true := by decide +kernel
theorem wit_levels : let s := State.reset
    pwr (.setlvl 1 2) s 0x0F02 = true ∧ pwr (.setlvl 0 0) s 0x0F00 = true ∧
    pwr (.setlvl 0 3) { s with cxe := { s.cxe with prog := some ⟨0, 0, 0, 2, [], [], [], [], []⟩ } } 0x0F01 = true ∧
    pwr (.setlvl 0 2) (withF s [(PWR_STAT_PF, 1)]) 0x0308 = true ∧
    after (exec (.setlvl 0 2) s) (fun t => t.rd PWR_STAT_LVL == 2 && t.pwr.levelTo == some 2) = true ∧
    after (exec (.setlvl 0 1) (hasLevels s 2 none none)) (fun t => t.rd PWR_STAT_LVL == 2 && t.pwr.levelTo == some 1) = true ∧
    after (exec (.setlvl 0 3) (hasLevels s 2 (some 1) none)) (fun t => t.rd PWR_STAT_LVL == 2 && t.pwr.levelNext == some 3) = true ∧
    keeps .levelChangeComplete s = true ∧
    after (exec .levelChangeComplete (hasLevels s 2 (some 1) none)) (fun t => t.rd PWR_STAT_LVL == 1 && t.pwr.levelTo == none && t.rd PWR_EVT_LEVEL == 1) = true ∧
    after (exec .levelChangeComplete (hasLevels s 2 (some 1) (some 3))) (fun t => t.rd PWR_STAT_LVL == 3 && t.pwr.levelTo == some 3) = true := by
  decide +kernel
theorem wit_sleep : let s := State.reset
    let asleep (n w : Nat) : State := { withF s [(PWR_STAT_SLEEP, n)] with pwr := { s.pwr with wakes := w } }
    let entry (n : Nat) : State := { withF s [(PWR_STAT_ENTRY, 1), (PWR_WAKE_EN_EN, 2)] with pwr := { s.pwr with sleepTo := n } }
    pwr (.sleepRequest 1 1) s 0x0F02 = true ∧ pwr (.sleepRequest 0 0) s 0x0F05 = true ∧ pwr (.sleepRequest 0 1) (withF s [(PLK_STAT_ROLE, 1)]) 0x0F03 = true ∧
    pwr (.sleepRequest 0 1) (withF s [(UPD_STAT_STATE, 1)]) 0x0F04 = true ∧ pwr (.sleepRequest 0 1) (asleep 2 0) 0x0308 = true ∧
    after (exec (.sleepRequest 0 3) s) (fun t => t.rd PWR_STAT_ENTRY == 1 && t.pwr.sleepTo == 3 && t.rd PWR_CRES_CODE == 0x0F00) = true ∧
    keeps (.sleepEntryComplete noFlush) s = true ∧
    after (exec (.sleepEntryComplete noFlush) (entry 1)) (fun t => t.rd PWR_STAT_SLEEP == 1 && t.rd PWR_STAT_ENTRY == 0) = true ∧
    after (exec (.sleepEntryComplete noFlush) (entry 3)) (fun t => t.rd PWR_STAT_SLEEP == 3 && t.rd HPT_STAT_SUPRDY == 0) = true ∧
    keeps (.wakeEvent 1) s = true ∧ keeps (.wakeEvent 0) (entry 1) = true ∧
    after (exec (.wakeEvent 1) (entry 1)) (fun t => t.rd PWR_WAKE_DURING == 2 && t.pwr.wakes == 2 && t.pwr.during) = true ∧
    after (exec (.wakeEvent 4) (withF (asleep 1 2) [(PWR_WAKE_EN_EN, 16)])) (fun t => t.pwr.wakes == 18 && t.rd PWR_WAKE_DURING == 0) = true ∧
    keeps .wakeComplete s = true ∧ keeps .wakeComplete (asleep 1 0) = true ∧
    after (exec .wakeComplete (asleep 1 2)) (fun t => t.rd PWR_STAT_SLEEP == 0 && t.rd PWR_WAKE_SRC == 2 && t.rd PWR_WAKE_STATE == 1) = true ∧
    after (exec .wakeComplete (asleep 2 2)) (fun t => t.rd HPT_STAT_SUPRDY == 1) = true := by decide +kernel
theorem wit_module_fault : let s := State.reset
    s.powered = true ∧ s.rd PLK_STAT_ROLE = 0 ∧ s.rd UPD_STAT_STATE ∉ [4, 5] ∧
    after (exec (.moduleFault 0 1100 noFlush noFound) s) (fun t => t.rd HLT_STAT_MFAULT == 1 && t.rd HLT_STAT_FCAUSE == 1 && t.hlt.conds == 2 &&
      t.rd HLT_TEMP_NOW == 1100) = true ∧
    after (exec (.moduleFault 1 0 noFlush noFound) { s with hlt := { s.hlt with conds := 2 } }) (fun t => t.hlt.conds == 6 && t.rd HLT_STAT_MFAULT == 0) = true ∧
    after (exec (.moduleFaultClear 0 900) { withF s [(HLT_STAT_MFAULT, 1)] with hlt := { s.hlt with conds := 2 } })
      (fun t => t.rd HLT_STAT_MFAULT == 0 && t.hlt.conds == 0) = true ∧
    after (exec (.moduleFaultClear 0 900) { withF s [(HLT_STAT_MFAULT, 1)] with hlt := { s.hlt with conds := 6 } })
      (fun t => t.rd HLT_STAT_MFAULT == 1 && t.hlt.conds == 4) = true ∧
    after (exec (.moduleFaultClear 2 900) { s with hlt := { s.hlt with conds := 8 } }) (fun t => t.hlt.conds == 8) = true ∧
    keeps (.moduleFault 0 0 noFlush noFound) (withF s [(PWR_STAT_HOLD, 1)]) = true := by decide +kernel
theorem wit_watchdog : let s := { State.reset with ms := 70250, hlt := { State.reset.hlt with kick := 70000 } }
    let more (l : List Nat) : State := { s with hlt := { s.hlt with restarts := l } }
    after (exec .hltWdogKick s) (fun t => t.hlt.kick == 70250) = true ∧
    keeps .supWatchdogExpiry { s with ms := 70249 } = true ∧
    after (exec .supWatchdogExpiry (more [10251])) (fun t => t.hlt.supRestart && t.rd HPT_STAT_SUPRDY == 0 && t.rd HLT_WDOG_RESTARTS == 1 && t.rd HLT_STAT_MFAULT == 0) = true ∧
    after (exec .supWatchdogExpiry (more [60000, 10251])) (fun t => t.rd HLT_STAT_FCAUSE == 3 && t.hlt.conds == 8) = true ∧
    after (exec .supWatchdogExpiry (more [60000, 10250])) (fun t => t.rd HLT_STAT_FCAUSE == 0 && t.hlt.restarts == [70250, 60000]) = true ∧
    keeps .supRestartComplete s = true ∧
    after (exec .supRestartComplete { s with hlt := { s.hlt with supRestart := true } }) (fun t => t.rd HPT_STAT_SUPRDY == 1 && t.hlt.kick == 70250) = true := by
  decide +kernel
/-- R436: 2,000 units used in two days leave 7,500 to use, seven and a half days. -/
theorem test_end_of_life : endOfLife [2500, 1000, 500] = 7 ∧ endOfLife [10000] = 0 ∧ endOfLife [500] = 0xFFFF ∧ endOfLife [500, 500] = 0xFFFF ∧
    endOfLife [2, 1, 1, 1, 1, 1, 1, 1] = 0xFFFF := by decide
theorem wit_indicators : let s := State.reset
    s.hlt.history.length = 5 ∧
    after (exec (.indicatorUpdate 25000 100000 0 0 1000) s) (fun t => t.rd (HLT_IND_VAL_USED 0) == 5000 && t.rd (HLT_IND_VAL_USED 1) == 10000 &&
      t.rd HLT_EVT_EOL == 1 && t.rd (HLT_IND_EOL_DAYS 0) == 0xFFFF) = true := by decide +kernel

/-! ## Host port, command service and Mill -/

/-- SUP is ready; tenant 0 and tenant 1 are enabled. -/
def hostUp (fs : List (Fld × Nat)) : State := withF State.reset ((HPT_STAT_SUPRDY, 1) :: (PDIR_TEN_CFG_EN 0, 1) :: (PDIR_TEN_CFG_EN 1, 1) :: fs)
/-- A command record with SEQ 7. -/
def record (c : Nat) (args : List Byte) : List Byte := leBytes 2 c ++ [0, 0, 7, 0, 0, 0, 0, 0, 0, 0] ++ leBytes 2 args.length ++ [0, 0] ++ args
/-- The host, with a session of the tenant, has submitted a command. -/
def asked (ten : Nat) (c : Nat) (args : List Byte) (s : State) : State :=
  { s with hpt := { s.hpt with host := { s.hpt.host with session := some ten, nonce := List.replicate 16 0, box := ⟨some ⟨record c args, none⟩, none, 0, false, none, false, none, 0, 0⟩ } } }
/-- The command ends with this code and these data. -/
def ends (i : Instr) (s : State) (code : Nat) (data : List Byte) : Bool :=
  after (exec i s) fun t => (s.hpt.host.box.cmd.map fun c => some (resultRec c.code 7 code 0 data)) == some t.hpt.host.box.done
def bulkState (n : Nat) : State := { hostUp [] with hpt := { State.reset.hpt with host := { PortState.empty with bulk := some (0x80000000, n) } } }
def netBox (m : Mailbox) (n : Nat) : List ((Nat × Nat) × Mailbox) := (List.range n).map fun k => ((k + 1, 2), m)
def pendingBox : Mailbox := ⟨some ⟨record 2 [], none⟩, none, 0, false, none, false, none, 0, 0⟩
def netAsk (c : Nat) (b : List ((Nat × Nat) × Mailbox)) : State :=
  let m : UptMsg := ⟨⟨6, false, true, 1, 0x31, 0x30, 1, 9, 0, 16, 2, 5⟩, record c [], ⟨0, 5, none, none⟩⟩
  { hostUp [] with net := { State.reset.net with queue := [m] }, hpt := { State.reset.hpt with boxes := b } }

theorem wit_spi_write : let s := hostUp []
    let asleep := hostUp [(PWR_STAT_SLEEP, 2), (PWR_WAKE_EN_EN, 4)]
    s.powered = true ∧ s.rd PWR_STAT_SLEEP < 2 ∧ swf 0 s.hpt.cmdBuf = true ∧
    after (exec (.spiWriteFrame 2 0 [] 0) asleep) (fun t => t.pwr.wakes == 4) = true ∧
    after (exec (.spiWriteFrame 1 0 [] 0) s) (fun t => t.rd HPT_ERRCNT_FRAME == 1) = true ∧
    after (exec (.spiWriteFrame 2 2 [1, 2, 3, 4] 0) s) (fun t => t.rd HPT_ERRCNT_FRAME == 1 && t.rd HPT_ERRCNT_CRC == 0) = true ∧
    after (exec (.spiWriteFrame 2 0x10000 [1, 2, 3, 4] 0) s) (fun t => t.rd HPT_ERRCNT_CRC == 1 && t.rd HPT_IRQ_CRCERR == 1) = true ∧
    (let crc : Word := BitVec.ofNat 32 (spiCrc 0x10004 [1, 2, 3, 4])
     after (exec (.spiWriteFrame 0x82 0x10004 [1, 2, 3, 4] crc) s) (fun t => t.hpt.cmdBuf == [(4, 1), (5, 2), (6, 3), (7, 4)]) = true ∧
     after (exec (.spiWriteFrame 2 0x10004 [1, 2, 3, 4] crc) (hostUp [(HPT_STAT_PEND, 1)])) (fun t => t.hpt.cmdBuf == []) = true) ∧
    (let crc : Word := BitVec.ofNat 32 (spiCrc 0x100008 [1, 2, 3, 4])
     after (exec (.spiWriteFrame 2 0x100008 [1, 2, 3, 4] crc) (bulkState 65536)) (fun t => t.word 0x80000008 == 0x04030201) = true ∧
     after (exec (.spiWriteFrame 2 0x100008 [1, 2, 3, 4] crc) s) (fun t => t.rd HPT_ERRCNT_BULK == 1) = true ∧
     after (exec (.spiWriteFrame 2 0x100008 [1, 2, 3, 4] crc) (bulkState 8)) (fun t => t.rd HPT_ERRCNT_BULK == 1) = true) ∧
    (let crc : Word := BitVec.ofNat 32 (spiCrc 0x200000 [1, 2, 3, 4])
     after (exec (.spiWriteFrame 2 0x200000 [1, 2, 3, 4] crc) s) (fun t => t.mem == [] && t.rd HPT_ERRCNT_CRC == 0) = true) ∧
    leBytes 4 (0x10 : Word).toNat = [0x10, 0, 0, 0] := by decide +kernel
def sent (i : Instr) (s : State) (a : Nat) (data : List Byte) : Bool :=
  after (exec i s) fun t => t.answer.words == bytesWords (data ++ leBytes 4 (spiCrc a data)) (data.length + 4)
theorem wit_spi_read : let s := hostUp []
    let held : State := { s with hpt := { s.hpt with host := { s.hpt.host with box := { Mailbox.empty with held := some (resultRec 2 7 0x1000 0 [9]) } } } }
    sent (.spiReadFrame 1 0x40 4) s 0x40 [0, 0, 0, 0] = true ∧
    after (exec (.spiReadFrame 2 0 4) s) (fun t => t.rd HPT_ERRCNT_FRAME == 1) = true ∧
    sent (.spiReadFrame 0x81 0x20000 16) s 0x20000 (resultRec 0 0 0x1002 0 []) = true ∧
    sent (.spiReadFrame 1 0x20000 4) (asked 0 2 [] s) 0x20000 ((resultRec 2 7 0x1001 0 []).take 4) = true ∧
    sent (.spiReadFrame 1 0x20000 4) held 0x20000 [2, 0, 0, 1] = true ∧ sent (.spiReadFrame 1 0x20004 4) held 0x20004 [7, 0, 0, 0] = true ∧
    sent (.spiReadFrame 1 0x100000 4) ((bulkState 65536).setWord 0x80000000 5) 0x100000 [5, 0, 0, 0] = true ∧
    sent (.spiReadFrame 1 0x100000 4) s 0x100000 [0, 0, 0, 0] = true ∧
    after (exec (.spiReadFrame 1 0 4) (hostUp [(PWR_STAT_SLEEP, 2), (PWR_WAKE_EN_EN, 4)])) (fun t => t.pwr.wakes == 4) = true := by decide +kernel
theorem wit_doorbell : let full (bs : List Byte) (fs : List (Fld × Nat)) : State :=
      { hostUp fs with hpt := { State.reset.hpt with cmdBuf := (bs.zipIdx.map fun x => (x.2, x.1)).filter fun x => x.2 ≠ 0 } }
    let r := record 2 []
    let rej (s : State) (n : BitVec 17) (code reason : Nat) : Bool :=
      after (exec (.doorbell n) s) fun t => t.rd HPT_LASTREJ_CODE == code && t.rd HPT_LASTREJ_REASON == reason && t.rd HPT_STAT_PEND == s.rd HPT_STAT_PEND
    rej (full r []) 15 0x1005 0 = true ∧ rej (full r []) 17 0x1005 0 = true ∧ rej (full r [(HPT_STAT_PEND, 1)]) 16 0x0308 0xC2 = true ∧
    rej (full r [(HPT_STAT_SUPRDY, 0)]) 16 0x0308 0x45 = true ∧ rej (full r [(PWR_STAT_PF, 1)]) 16 0x0308 0xC1 = true ∧
    after (exec (.doorbell 16) (full r [])) (fun t => t.rd HPT_STAT_PEND == 1 && t.rd HPT_STAT_LSEQ == 7 &&
      t.hpt.host.box.cmd == some ⟨r, none⟩) = true := by decide +kernel
theorem wit_results : let s := asked 0 2 [] (hostUp [(HPT_STAT_PEND, 1)])
    let r := resultRec 2 7 0x1000 0 []
    let svc (m : Mailbox) (ms : Nat) : State := { hostUp [] with ms := ms, hpt := { State.reset.hpt with usb := true, service := { PortState.empty with box := m } } }
    s.serving = true ∧ (s.box .service).cmd = none ∧ (s.box .host).cmd = some ⟨record 2 [], none⟩ ∧
    after (exec (.commandResultPresent .host) { s with hpt := { s.hpt with host := { s.hpt.host with box := { s.hpt.host.box with done := some r } } } })
      (fun t => t.rd HPT_STAT_PEND == 0 && t.rd HPT_IRQ_RESULT == 1 && t.hpt.host.box.held == some r) = true ∧
    after (exec (.commandResultPresent .host) (asked 0 0x0999 [] (hostUp []))) (fun t => t.hpt.host.box.held == some (resultRec 0x0999 7 0x1004 0 [])) = true ∧
    (let p := asked 0 0x010C [0, 0, 0, 0] (hostUp [(PWR_CRES_DONE, 1), (PWR_CRES_CODE, 0x0F00)])
     after (exec (.commandResultPresent .host) { p with hpt := { p.hpt with host := { p.hpt.host with box := { p.hpt.host.box with begun := true } } } })
       (fun t => t.hpt.host.box.held == some (resultRec 0x010C 7 0x0F00 0 (leBytes 4 0x80000F00))) = true) ∧
    after (exec (.commandResultPresent .service) (svc { pendingBox with done := some r } 0))
      (fun t => t.hpt.usbOut == leBytes 4 16 ++ r ++ leBytes 4 (crc32c r)) = true ∧
    after (exec (.mailboxTimeout .service) (svc pendingBox 49)) (fun t => t.hpt.service.box == pendingBox) = true ∧
    after (exec (.mailboxTimeout .service) (svc pendingBox 50)) (fun t => t.hpt.service.box.late && t.hpt.usbOut.length == 24) = true := by decide +kernel
theorem wit_service_port : let usb (fs : List (Fld × Nat)) (m : Mailbox) : State :=
      { hostUp fs with hpt := { State.reset.hpt with usb := true, service := { PortState.empty with box := m } } }
    let frame (r : List Byte) : List Byte := leBytes 4 r.length ++ r ++ leBytes 4 (crc32c r)
    let gives (i : Instr) (s : State) (r : List Byte) : Bool := after (exec i s) fun t => t.hpt.usbOut == frame r
    let r := record 2 []
    crc32c r < 2 ^ 32 ∧ (usb [] Mailbox.empty).rd PWR_STAT_PF ≠ 1 ∧
    after (exec (.servicePortFrame (frame r)) (usb [] Mailbox.empty)) (fun t => t.hpt.service.box.cmd == some ⟨r, none⟩) = true ∧
    after (exec (.servicePortFrame (leBytes 4 16 ++ r ++ [0, 0, 0, 0])) (usb [] Mailbox.empty)) (fun t => t.hpt.service.box.cmd == none) = true ∧
    gives (.servicePortFrame (frame r)) (usb [(HPT_STAT_SUPRDY, 0)] Mailbox.empty) (resultRec 2 7 0x0308 0x45 []) = true ∧
    gives (.servicePortFrame (frame (r ++ [0]))) (usb [] Mailbox.empty) (resultRec 2 7 0x1005 0 []) = true ∧
    gives (.servicePortFrame (frame r)) (usb [] pendingBox) (resultRec 2 7 0x0308 0xC2 []) = true ∧
    after (exec (.servicePortFrame (frame (record 1 []))) (usb [] pendingBox)) (fun t => t.hpt.asks == [⟨record 1 [], none⟩]) = true ∧
    (let waits (m : Mailbox) (args : List Byte) : State := { usb [] m with hpt := { (usb [] m).hpt with asks := [⟨record 1 args, none⟩] } }
     gives (.hpResult .service) (waits pendingBox []) (resultRec 2 7 0x1001 0 []) = true ∧
     gives (.hpResult .service) (waits Mailbox.empty []) (resultRec 1 7 0x1002 0 []) = true ∧
     gives (.hpResult .service) (waits Mailbox.empty [0]) (resultRec 1 7 0x1005 0 []) = true ∧
     gives (.hpResult .service) (waits { Mailbox.empty with held := some (resultRec 2 7 0x1000 0 []) } []) ((resultRec 2 7 0x1000 0 []).set 3 1) = true) ∧
    after (exec .usbConnect (hostUp [])) (fun t => t.hpt.usb) = true ∧
    after (exec .usbDisconnect { hostUp [] with hpt := { State.reset.hpt with usb := true, service := { PortState.empty with session := some 3 } } })
      (fun t => !t.hpt.usb && t.hpt.service.session == none) = true := by decide +kernel
/-- A network requester takes a mailbox; of 64 busy ones none is free, and the one used longest ago makes room. -/
theorem wit_network_command : let s := netAsk 2 []
    s.awake = true ∧ s.rd HPT_STAT_SUPRDY = 1 ∧ s.hlt.supRestart = false ∧
    after (exec .uptCommand s) (fun t => t.hpt.boxes.map Prod.fst == [(0x21, 2)] || t.hpt.boxes.length == 1) = true ∧
    after (exec .uptCommand (netAsk 1 [])) (fun t => t.hpt.asks.length == 1 && t.hpt.boxes == []) = true ∧
    after (exec .uptCommand (netAsk 2 (netBox pendingBox 64))) (fun t => t.rd NET_UPT_CNT_B_BUSY == 1 && t.hpt.boxes.length == 64) = true ∧
    after (exec .uptCommand (netAsk 2 (((1000, 2), { Mailbox.empty with used := 0 }) :: netBox pendingBox 63)))
      (fun t => t.hpt.boxes.length == 64 && !(t.hpt.boxes.map Prod.fst).contains (1000, 2)) = true ∧
    (netBox pendingBox 3).Pairwise (fun p q => p.1 ≠ q.1) := by decide +kernel
theorem wit_service_commands : let s := hostUp []
    let pub : State := (s.setPoint 5 { Point.undef with defn := some ⟨.pub, 1, .int32, 6, 0, 0x1FF⟩, value := 7 })
    (asked 0 2 [] s).serving = true ∧ (asked 0 2 [] s).boxTen .host = some 0 ∧
    after (exec (.hpStatus .host) (asked 0 2 [] s)) (fun t => (t.hpt.host.box.done.map List.length) == some 56) = true ∧
    ends (.hpStatus .host) (asked 0 2 [0] s) 0x1005 [] = true ∧
    ends (.hpSession true) (asked 0 3 (0xFF :: List.replicate 19 0) s) 0x1000 [] = true ∧
    after (exec (.hpSession true) (asked 0 3 (0xFF :: List.replicate 19 0) s)) (fun t => t.hpt.host.session == none) = true ∧
    ends (.hpSession true) (asked 0 3 [1] s) 0x1005 [] = true ∧
    ends (.hpPread .host) (asked 0 0x10 [1, 0, 5, 0] pub) 0x1000 [0, 0x0A, 0, 1, 0, 0, 0, 0, 7, 0, 0, 0, 0, 0, 0, 0] = true ∧
    ends (.hpPread .host) (asked 0 0x10 [1, 0, 6, 0] pub) 0x1000 [0, 0x0A, 0, 1, 1, 3, 0, 0, 0, 0, 0, 0, 0, 0, 0, 0] = true ∧
    ends (.hpPread .host) (asked 0 0x10 [2, 0, 6, 0] pub) 0x1000 [1, 0x0A, 0, 0] = true ∧ ends (.hpPread .host) (asked 0 0x10 [2] pub) 0x1005 [] = true ∧
    ends (.hpPwrite .host) (asked 0 0x11 [1, 0, 0, 0, 5, 0, 1, 0, 9, 0, 0, 0] pub) 0x1000 [0, 0x0A, 0, 1, 0, 0, 0, 0] = true ∧
    after (exec (.hpPwrite .host) (asked 0 0x11 [1, 0, 0, 0, 5, 0, 1, 0, 9, 0, 0, 0] pub)) (fun t => (t.point 5).value == 9) = true ∧
    ends (.hpPwrite .host) (asked 0 0x11 [1, 0, 0, 0, 5, 0, 3, 0, 9, 0, 0, 0] pub) 0x1000 [0, 0x0A, 0, 1, 4, 3, 0, 0] = true ∧
    ends (.hpRegrd .host) (asked 0 0x20 (leBytes 4 0x10000004 ++ leBytes 4 1) (s.setWord 0x10000004 0x1234)) 0x1000 [0x34, 0x12, 0, 0] = true ∧
    ends (.hpRegrd .host) (asked 0 0x20 (leBytes 4 0x10000006 ++ leBytes 4 1) s) 0x1000 [0, 0, 0, 0] = true ∧
    ends (.hpRegrd .host) (asked 0 0x20 (leBytes 4 0 ++ leBytes 4 257) s) 0x1005 [] = true ∧
    ends (.hpRegrd .host) (asked 1 0x20 (leBytes 4 0 ++ leBytes 4 1) s) 0x1006 [] = true ∧
    ends (.reportRead .host) (asked 1 0x31 [2, 0, 0, 0, 0, 0, 0, 0, 9, 0, 0, 0] s) 0x1006 [] = true ∧
    ends (.reportRead .host) (asked 1 0x31 [1, 0, 0, 0, 0, 0, 0, 0, 9, 0, 0, 0] s) 0x1000 [] = true ∧
    ends (.reportAck .host) (asked 1 0x32 [1, 0, 0, 0, 0, 0, 0, 0] s) 0x1000 [0, 0, 0, 0] = true := by decide +kernel
theorem wit_image_bulk : let s := hostUp []
    swf 0 s.hpt.host.staging = true ∧
    ends (.hpImage .host) (asked 1 0x30 (leBytes 8 0) s) 0x1006 [] = true ∧ ends (.hpImage .host) (asked 0 0x30 [0] s) 0x1005 [] = true ∧
    after (exec (.hpImage .host) (asked 0 0x30 (leBytes 8 4 ++ [1, 2]) s)) (fun t => t.hpt.host.staging == [(4, 1), (5, 2)]) = true ∧
    ends (.hpImage .host) (asked 0 0x30 (leBytes 4 0x400000 ++ leBytes 4 0 ++ [1]) s) 0x1005 [] = true ∧
    ends (.hpImage .host) (asked 0 0x30 (leBytes 8 (2 * 2 ^ 32) ++ leBytes 8 0) s) 0x1005 [] = true ∧
    ends (.bulkOpen true) (asked 0 0x40 (leBytes 4 65537) s) 0x1008 [] = true ∧ ends (.bulkOpen true) (asked 0 0x40 [0] s) 0x1005 [] = true ∧
    ends (.bulkClose true) (asked 0 0x41 [] s) 0x1000 [] = true ∧ ends (.bulkClose true) (asked 0 0x41 [0] s) 0x1005 [] = true := by decide +kernel
/-- Requests of blocks: the operation, an unknown one, a wrong length. -/
theorem wit_block_requests : let s := hostUp []
    let w (n : Nat) : List Byte := leBytes 4 n
    ends (.blockPwr .host) (asked 0 0x010C (w (2 ^ 28)) s) 0x0F00 (leBytes 4 0x80000F00) = true ∧
    ends (.blockPwr .host) (asked 1 0x010C (w (2 ^ 28)) s) 0x0F02 (leBytes 4 0x80000F02) = true ∧
    ends (.blockPwr .host) (asked 0 0x010C [0] s) 0x1005 [] = true ∧ ends (.blockPwr .host) (asked 0 0x010C (w 0) s) 0 (w 0) = true ∧
    ends (.blockCxeCmd .host) (asked 0 0x0102 (w 0) s) 0x1004 [] = true ∧
    ends (.blockBackup .host) (asked 0 0x011B (w 16 ++ w 5) s) 0 (w 0) = true ∧
    after (exec (.blockBackup .host) (asked 0 0x011B (w 3 ++ w 5) s)) (fun t => t.rd (WELL_BKP_DATA 3) == 5) = true ∧
    after (exec (.blockForce .host) (asked 0 0x0101 (w (2 ^ 30 + 5) ++ w 9) (s.setPoint 5 { Point.undef with
      defn := some ⟨.pub, 1, .int32, 6, 0, 0x1FF⟩ }))) (fun t => (t.point 5).forced && (t.point 5).fval == 9) = true ∧
    ends (.blockLoop .host) (asked 0 0x0103 (w 0) s) 0x1005 [] = true ∧
    hostAlone (asked 0 0x010C (w 0) s) .host 0x010C := by
  refine ⟨by decide +kernel, by decide +kernel, by decide +kernel, by decide +kernel, by decide +kernel, by decide +kernel, by decide +kernel,
    by decide +kernel, by decide +kernel, ?_⟩
  intro o ho h
  obtain ⟨h, -⟩ := h
  cases o with
  | host => exact ho rfl
  | service => exact absurd h (by decide)
  | net src key => exact absurd h (by simp [State.box, State.netBox, asked, hostUp, withF, State.wr, Mailbox.empty, State.reset])
/-- A channel's descriptor at 0x1000_0000: SRC, DST, CNT and the flags. -/
def mill (next src dst cnt fl : Nat) : State :=
  let s := [next, src, dst, cnt, fl].zipIdx.foldl (fun (s : State) x => s.setWord (0x10000000 + 4 * x.2) (BitVec.ofNat 32 x.1))
    (hostUp [(MILL_CH_CUR_ADDR 3, 0x10000000), (MILL_CH_STAT_STATE 3, 2), (MILL_STAT_BUSY, 1)])
  { s with mill := ⟨some 3⟩ }
def halts (i : Instr) (s : State) (c : Nat) : Bool :=
  after (exec i s) fun t => t.rd (MILL_CH_STAT_CODE 3) == c && t.rd (MILL_CH_STAT_STATE 3) == 3 && t.word 0x10000014 == BitVec.ofNat 32 c
theorem wit_mill_channels : let s := hostUp [(MILL_CH_CFG_EN 3, 1), (MILL_STAT_PEND, 0)]
    after (exec (.millStart 3 0x800000) s) (fun t => t.rd (MILL_CH_CUR_ADDR 3) == 0x10000000 && t.rd MILL_STAT_PEND == 8 && t.rd (MILL_CH_STAT_STATE 3) == 1) = true ∧
    after (exec (.millStart 2 0x800000) s) (fun t => t.rd MILL_STAT_PEND == 0) = true ∧
    after (exec .millChannelStart (hostUp [(MILL_STAT_PEND, 0x28)])) (fun t => t.mill.running == some 3 && t.rd MILL_STAT_PEND == 0x20) = true ∧
    after (exec .millChannelStart s) (fun t => t.mill.running == none) = true ∧ after (exec .descriptorEnd s) (fun t => t.mem == []) = true := by decide +kernel
theorem wit_mill_checks :
    halts .descriptorEnd (mill 0 0x10001000 0x10002000 0 3) 0x1011 = true ∧ halts .descriptorEnd (mill 0 0x10001000 0x10002000 8 11) 0x1014 = true ∧
    halts .descriptorEnd (mill 0 0x10001001 0x10002000 8 1) 0x1013 = true ∧ halts .descriptorEnd (mill 0 0x10001000 0x00000000 8 3) 0x1012 = true ∧
    after (exec .descriptorEnd (withF (mill 0 0 0 8 3) [(MILL_CH_CUR_ADDR 3, 0x10000004)])) (fun t => t.rd (MILL_CH_STAT_CODE 3) == 0x1014) = true ∧
    inSupRam 0x10001000 8 ∧ apartFrom 0x10001000 8 0x10002000 8 ∧ (mill 0 0 0 0 0).mill.running = some 3 ∧ (mill 0 0 0 0 0).powered = true := by
  refine ⟨?_, ?_, ?_, ?_, ?_, ?_, ?_, ?_, ?_⟩ <;> first | decide +kernel | (unfold inSupRam; decide) | (unfold apartFrom; decide)
theorem wit_mill_bytes : let d (fl : Nat) : State := (mill 0 0x10001000 0x10002000 8 fl).setWord 0x10001004 5
    after (exec .descriptorEnd (d 3)) (fun t => t.word 0x10002004 == 5 && t.rd (MILL_CH_STAT_CODE 3) == 0x1010 && t.rd (MILL_CH_STAT_STATE 3) == 0 &&
      (t.rd MILL_EVT_DONE).testBit 3 && t.rd (MILL_CH_BYTES_BYTES 3) == 8) = true ∧
    after (exec .descriptorEnd (d 1)) (fun t => t.word 0x10002000 == 5) = true ∧
    after (exec .descriptorEnd ((mill 0 0x10001000 0x10002000 8 2).setWord 0x10001000 6)) (fun t => t.word 0x10002004 == 6) = true ∧
    after (exec .descriptorEnd (mill 0x10000020 0x10001000 0x10002000 8 3)) (fun t => t.rd (MILL_CH_CUR_ADDR 3) == 0x10000020 && t.mill.running == some 3) = true := by
  decide +kernel
/-- The worked example of Table 16-8: the last of four writes fails. (An ECC error would record a free code.) -/
theorem test_last_beat : let s := mill 0 0x80001003 0x10002005 21 3
    after (exec (.millBusError (.write 3 4 1) false) s) (fun t => t.rd (MILL_CH_STAT_CODE 3) == 0x1016 && t.rd (MILL_CH_CNT_CNT 3) == 0) = true ∧
    after (exec (.millBusError (.write 1 2 1) false) s) (fun t => t.rd (MILL_CH_STAT_CODE 3) == 0x1015 && t.rd (MILL_CH_CNT_CNT 3) == 10) = true ∧
    after (exec (.millBusError (.read 2 2 1) false) s) (fun t => t.rd (MILL_CH_STAT_CODE 3) == 0x1015 && t.rd HLT_ERR_A_FABRIC == 1) = true ∧
    after (exec (.millBusError .writeBack false) s) (fun t => t.rd (MILL_CH_STAT_CODE 3) == 0x1014) = true := by decide +kernel

/-! ## Ill-formed commands: one for each check of WellFormed, which the check refuses -/

def linkHead : LinkHead := ⟨true, 2, 9⟩
def voltage0 : VoltageCycle := ⟨3, 0, 0, 0, none, 0, false, false⟩
def current0 : CurrentCycle := ⟨3, 0, 0, 0, 0, 0, 0, 0, 0, false, false⟩
def mirror0 (n : Nat) : MeterMirror := ⟨0, 0, List.replicate n 0, List.replicate 10 0, List.replicate 10 0, List.replicate 10 0, 0, 0, 0, 0, 0⟩
theorem wf_sizes : (Instr.registerWrite 0 3 0).wf = false ∧ (Instr.registerWrite 0 4 0).wf = true ∧ (Instr.tableWindowWrite 0 0 0 0 5 0).wf = false ∧
    (Instr.fabricAccess .sup 0 .read 0 16 0 .clean).wf = false := by decide +kernel
theorem wf_meter_cycle : (Instr.meterCycleClose 0 [current0, current0] []).wf = false ∧ (Instr.meterCycleClose 0 [] [voltage0, voltage0]).wf = false ∧
    (Instr.meterCycleClose 0 [current0] [voltage0]).wf = true := by decide +kernel
theorem wf_snapshot : (Instr.snapshotComplete 0 [524288]).wf = false ∧ (Instr.snapshotComplete 0 [524287]).wf = true := by decide +kernel
theorem wf_flush : (Instr.pfAssert 0 ⟨0, [current0, current0], [], 0, [], false, 0⟩).wf = false ∧
    (Instr.sleepEntryComplete ⟨0, [], [], 0, [524288], false, 0⟩).wf = false ∧
    (Instr.moduleFault 0 0 ⟨0, [], [voltage0, voltage0], 0, [], false, 0⟩ ⟨[], [], []⟩).wf = false := by decide +kernel
theorem wf_bus_frame : (Instr.frameReceived 0 (.can false false false 2048 []) 0 false 0 0).wf = false ∧
    (Instr.frameReceived 0 (.can true false false 2048 (List.replicate 9 0)) 0 false 0 0).wf = false ∧
    (Instr.frameReceived 0 (.can true true false 2048 (List.replicate 64 0)) 0 false 0 0).wf = true ∧
    (Instr.frameReceived 0 (.dali 16 65536) 0 false 0 0).wf = false := by decide +kernel
theorem wf_can_wake : (Instr.canWake 0 (.frame false false 2048 0 [])).wf = false ∧ (Instr.canWake 0 (.frame true false 0 16 [])).wf = false ∧
    (Instr.canWake 0 (.frame true true 0 15 (List.replicate 65 0))).wf = false := by decide +kernel
theorem wf_mirror : (Instr.mirrorOut linkHead (List.replicate 171 ⟨0, 0, 0, 0⟩) true).wf = false ∧ (Instr.mirrorMeter linkHead [mirror0 9]).wf = false ∧
    (Instr.mirrorMeter linkHead [mirror0 10]).wf = true ∧ (Instr.mirrorData linkHead [⟨0, List.replicate 255 0⟩]).wf = false := by decide +kernel
theorem wf_mill : (Instr.millBusError (.read 0 1 2) false).wf = false ∧ (Instr.millBusError (.write 1 1 1) false).wf = false ∧
    (Instr.millBusError (.write 0 2 1) false).wf = false ∧ (Instr.millBusError (.write 3 4 1) false).wf = true := by decide +kernel

end Sys2Proof.Tests
end

/-! What an access to a register does to its fields (R9, R11, R12), and the statements about it. -/

namespace Sys2Proof.Machine

/-! ## The fields of a register -/

/-- No register heading lists two fields with the same lowest bit. -/
theorem blockRows_lo_nodup (a : Nat) : ∀ r ∈ blockRows a, (r.flds.map FldRow.lo).Nodup := by
  unfold blockRows
  split <;> decide

theorem fieldsIn_lo_nodup {rows : List RegRow} (h : ∀ r ∈ rows, (r.flds.map FldRow.lo).Nodup) (a : Nat) :
    ((fieldsIn rows a).map FldRow.lo).Nodup := by
  induction rows with
  | nil => exact List.nodup_nil
  | cons r t ih =>
    unfold fieldsIn
    split
    · exact h r (by simp)
    · exact ih fun q hq => h q (by simp [hq])

theorem regFields_lo_nodup (a : Nat) : ((regFields a).map FldRow.lo).Nodup :=
  fieldsIn_lo_nodup (blockRows_lo_nodup a) a

theorem bitsOf_lt_two_pow (n lo w : Nat) : bitsOf n lo w < 2 ^ w := Nat.mod_lt _ (Nat.two_pow_pos w)

/-! ## Going through the fields of a register

Writes, reads and hardware settings of a register treat its fields one after the other, each touching the field it is at alone. -/

/-- `g` takes the field it is at from `x` to `v f x` and leaves everything else of the state. -/
structure TouchesOwnField (a : Nat) (g : State → FldRow → State) (v : FldRow → Nat → Nat) : Prop where
  own : ∀ s f, (g s f).rd ⟨a, f.lo, f.width⟩ = v f (s.rd ⟨a, f.lo, f.width⟩)
  other : ∀ s f (k : Fld), k.key ≠ (⟨a, f.lo, f.width⟩ : Fld).key → (g s f).rd k = s.rd k
  mem : ∀ s f, (g s f).mem = s.mem
  rest : ∀ s f, (g s f).rest = s.rest

namespace TouchesOwnField

variable {a : Nat} {g : State → FldRow → State} {v : FldRow → Nat → Nat}

theorem foldl_rd_other (h : TouchesOwnField a g v) {fs : List FldRow} {k : Fld}
    (hk : ∀ f ∈ fs, k.key ≠ (⟨a, f.lo, f.width⟩ : Fld).key) (s : State) : (fs.foldl g s).rd k = s.rd k := by
  induction fs generalizing s with
  | nil => rfl
  | cons f t ih => exact (ih (fun q hq => hk q (by simp [hq])) _).trans (h.other s f k (hk f (by simp)))

theorem foldl_rd_own (h : TouchesOwnField a g v) {fs : List FldRow} (hn : (fs.map FldRow.lo).Nodup) {f : FldRow} (hf : f ∈ fs)
    (s : State) : (fs.foldl g s).rd ⟨a, f.lo, f.width⟩ = v f (s.rd ⟨a, f.lo, f.width⟩) := by
  induction fs generalizing s with
  | nil => simp at hf
  | cons q t ih =>
    obtain ⟨hq, ht⟩ := List.nodup_cons.mp hn
    have lo_ne : ∀ r ∈ t, q.lo ≠ r.lo := fun r hr e => hq (e ▸ List.mem_map_of_mem hr)
    rcases List.mem_cons.mp hf with rfl | hf
    · rw [List.foldl_cons, h.foldl_rd_other (fun r hr => by simpa [Fld.key] using lo_ne r hr), h.own]
    · rw [List.foldl_cons, ih ht hf, h.other]
      simpa [Fld.key] using (lo_ne f hf).symm

theorem foldl_mem (h : TouchesOwnField a g v) (fs : List FldRow) (s : State) : (fs.foldl g s).mem = s.mem := by
  induction fs generalizing s with
  | nil => rfl
  | cons f t ih => exact (ih _).trans (h.mem s f)

theorem foldl_rest (h : TouchesOwnField a g v) (fs : List FldRow) (s : State) : (fs.foldl g s).rest = s.rest := by
  induction fs generalizing s with
  | nil => rfl
  | cons f t ih => exact (ih _).trans (h.rest s f)

/-- A field written where a condition on its row holds. -/
theorem wr_if (p : FldRow → Prop) [DecidablePred p] (u : FldRow → Nat → Nat) :
    TouchesOwnField a (fun s f => if p f then s.wr ⟨a, f.lo, f.width⟩ (u f (s.rd ⟨a, f.lo, f.width⟩)) else s)
      (fun f x => if p f then u f x % 2 ^ f.width else x) where
  own s f := by split <;> simp
  other s f k hk := by
    split
    · exact State.rd_wr_other s _ hk
    · rfl
  mem s f := by split <;> rfl
  rest s f := by split <;> rfl

end TouchesOwnField

/-! ## What each pass over the fields leaves (R11, R12) -/

/-- The value that a field takes by a write of the word `w` (Table 0-4). -/
def FldRow.written (w : Nat) (f : FldRow) (x : Nat) : Nat :=
  match f.acc with
  | .rw | .wo => bitsOf w f.lo f.width
  | .ro | .rc => x
  | .w1c => x &&& (2 ^ f.width - 1 - bitsOf w f.lo f.width)

theorem and_writtenMask_lt (x w : Nat) (f : FldRow) : x &&& (2 ^ f.width - 1 - bitsOf w f.lo f.width) < 2 ^ f.width := by
  have := Nat.two_pow_pos f.width
  exact Nat.and_lt_two_pow x (by omega)

theorem FldRow.written_w1c (w : Nat) (f : FldRow) (x : Nat) (h : f.acc = .w1c) :
    f.written w x = x &&& (2 ^ f.width - 1 - bitsOf w f.lo f.width) := by
  rw [FldRow.written, h]

theorem writeField_touchesOwnField (a w : Nat) : TouchesOwnField a (writeField a w) (FldRow.written w) where
  own s f := by
    unfold writeField FldRow.written
    cases f.acc <;> simp [Nat.mod_eq_of_lt, bitsOf_lt_two_pow, and_writtenMask_lt]
  other s f k hk := by
    unfold writeField
    cases f.acc <;> simp [State.rd_wr_other s _ hk]
  mem s f := by unfold writeField; cases f.acc <;> rfl
  rest s f := by unfold writeField; cases f.acc <;> rfl

theorem rd_writeReg {a : Nat} {f : FldRow} (hf : f ∈ regFields a) (w : Nat) (s : State) :
    (s.writeReg a w).rd ⟨a, f.lo, f.width⟩ = f.written w (s.rd ⟨a, f.lo, f.width⟩) :=
  (writeField_touchesOwnField a w).foldl_rd_own (regFields_lo_nodup a) hf s

/-- The pass over the fields that `hwFields` makes: those of the access code gain the bits that hardware sets. -/
theorem hwFields_touchesOwnField (acc : Acc) (a hw : Nat) :
    TouchesOwnField a
      (fun s f => let fl : Fld := ⟨a, f.lo, f.width⟩; if f.acc = acc then s.wr fl (s.rd fl ||| bitsOf hw f.lo f.width) else s)
      (fun f x => if f.acc = acc then (x ||| bitsOf hw f.lo f.width) % 2 ^ f.width else x) :=
  .wr_if (fun f => f.acc = acc) (fun f x => x ||| bitsOf hw f.lo f.width)

theorem clearRc_touchesOwnField (a : Nat) :
    TouchesOwnField a (fun s f => if f.acc = .rc then s.wr ⟨a, f.lo, f.width⟩ 0 else s)
      (fun f x => if f.acc = .rc then 0 else x) := by
  simpa using TouchesOwnField.wr_if (a := a) (fun f => f.acc = .rc) (fun _ _ => 0)

theorem rd_hwFields {a : Nat} {f : FldRow} (hf : f ∈ regFields a) (acc : Acc) (hw : Nat) (s : State) :
    (hwFields acc a hw s).rd ⟨a, f.lo, f.width⟩ =
      if f.acc = acc then (s.rd ⟨a, f.lo, f.width⟩ ||| bitsOf hw f.lo f.width) % 2 ^ f.width else s.rd ⟨a, f.lo, f.width⟩ :=
  (hwFields_touchesOwnField acc a hw).foldl_rd_own (regFields_lo_nodup a) hf s

theorem rd_clearRc {a : Nat} {f : FldRow} (hf : f ∈ regFields a) (s : State) :
    (s.clearRc a).rd ⟨a, f.lo, f.width⟩ = if f.acc = .rc then 0 else s.rd ⟨a, f.lo, f.width⟩ :=
  (clearRc_touchesOwnField a).foldl_rd_own (regFields_lo_nodup a) hf s

/-- A pass over the fields of a register leaves every other field, the bytes and the rest of the state. -/
theorem TouchesOwnField.sameBut {a : Nat} {g : State → FldRow → State} {v : FldRow → Nat → Nat} (h : TouchesOwnField a g v)
    (s : State) : SameBut ((regFields a).map fun f => ⟨a, f.lo, f.width⟩) s ((regFields a).foldl g s) :=
  ⟨fun _ hk => h.foldl_rd_other (fun _ hf => hk _ (List.mem_map_of_mem hf)) s, fun x => congrArg (sget 0 · x) (h.foldl_mem _ s)⟩

theorem SameBut.trans {fs : List Fld} {s t u : State} (h : SameBut fs s t) (k : SameBut fs t u) : SameBut fs s u :=
  ⟨fun g hg => (k.1 g hg).trans (h.1 g hg), fun a => (k.2 a).trans (h.2 a)⟩

theorem hwFields_sameBut (acc : Acc) (a hw : Nat) (s : State) :
    SameBut ((regFields a).map fun f => ⟨a, f.lo, f.width⟩) s (hwFields acc a hw s) := (hwFields_touchesOwnField acc a hw).sameBut s

theorem clearRc_sameBut (a : Nat) (s : State) :
    SameBut ((regFields a).map fun f => ⟨a, f.lo, f.width⟩) s (s.clearRc a) := (clearRc_touchesOwnField a).sameBut s

theorem hwFields_rest (acc : Acc) (a hw : Nat) (s : State) : (hwFields acc a hw s).rest = s.rest :=
  (hwFields_touchesOwnField acc a hw).foldl_rest _ s

theorem clearRc_rest (a : Nat) (s : State) : (s.clearRc a).rest = s.rest := (clearRc_touchesOwnField a).foldl_rest _ s

/-- A new answer is no effect on the state. -/
theorem sameBut_withAnswer (fs : List Fld) (s : State) (r : Answer) : SameBut fs s { s with answer := r } :=
  ⟨fun _ _ => rfl, fun _ => rfl⟩

theorem answerWord_sameBut (fs : List Fld) (s : State) (w : Nat) : SameBut fs s (s.answerWord w) := sameBut_withAnswer fs s _

@[simp] theorem answerWord_words (s : State) (w : Nat) : (s.answerWord w).answer.words = [BitVec.ofNat 32 w] := rfl

@[simp] theorem answerWord_rest (s : State) (w : Nat) : (s.answerWord w).rest = s.rest := rfl

/-! ## The register commands -/

theorem regWrite_of_specialWrite_none {s : State} {a w : Nat} (h : s.specialWrite a w = none) : s.regWrite a w = s.writeReg a w := by
  rw [State.regWrite, h, Option.getD_none]

theorem regRead_of_kept {s : State} {a : Nat} (hl : s.latchingRead a = none) (hd : s.derivedWord a = none) :
    s.regRead a = (s.clearRc a, fieldsWord s a (regFields a)) := by
  rw [State.regRead, hl, hd]

section
variable (s : State) {addr : Word} (value hw : Word) (size : Nat)

theorem exec_w1cRegisterWrite_aligned (ha : addr.toNat % 4 = 0) (hin : inWindows addr.toNat = true) :
    exec (.w1cRegisterWrite addr value hw) s =
      .next (hwFields .w1c addr.toNat hw.toNat (s.regWrite addr.toNat value.toNat)) :=
  if_neg (by simp [ha, hin])

theorem exec_w1cRegisterWrite_unaligned (ha : addr.toNat % 4 ≠ 0) : exec (.w1cRegisterWrite addr value hw) s = .next s :=
  if_pos (.inl ha)

theorem exec_rcRegisterRead_aligned (ha : addr.toNat % 4 = 0) (hin : inWindows addr.toNat = true) :
    exec (.rcRegisterRead addr hw) s =
      .next ((hwFields .rc addr.toNat hw.toNat (s.regRead addr.toNat).1).answerWord (s.regRead addr.toNat).2) :=
  if_neg (by simp [ha, hin])

/-- A read of a register that stands in the register file, neither latched nor derived. -/
theorem exec_rcRegisterRead_kept (ha : addr.toNat % 4 = 0) (hin : inWindows addr.toNat = true)
    (hl : s.latchingRead addr.toNat = none) (hd : s.derivedWord addr.toNat = none) :
    exec (.rcRegisterRead addr hw) s = .next ((hwFields .rc addr.toNat hw.toNat (s.clearRc addr.toNat)).answerWord
      (fieldsWord s addr.toNat (regFields addr.toNat))) := by
  rw [exec_rcRegisterRead_aligned s hw ha hin, regRead_of_kept hl hd]

theorem exec_rcRegisterRead_unaligned (ha : addr.toNat % 4 ≠ 0) : exec (.rcRegisterRead addr hw) s = .next (s.answerWord 0) :=
  if_pos (.inl ha)

/-- Whatever the address, a register read answers one word. -/
theorem exec_rcRegisterRead_answers (addr : Word) :
    ∃ (t : State) (w : Word), exec (.rcRegisterRead addr hw) s = .next t ∧ t.answer.words = [w] := by
  change ∃ t w, execRcRegisterRead addr hw s = .next t ∧ _
  unfold execRcRegisterRead
  split <;> exact ⟨_, _, rfl, rfl⟩

theorem exec_fabricAccess (m : Master) (tag : Tenant) (acc : Access) (ecc : Ecc) :
    exec (.fabricAccess m tag acc addr size value ecc) s = .next (s.fabric m tag.val acc addr.toNat size value.toNat ecc) := rfl

theorem exec_registerWrite_otherWidth (h : size ≠ 4 ∨ addr.toNat % 4 ≠ 0) : exec (.registerWrite addr size value) s = .next s :=
  if_pos (h.imp_right .inl)

end

/-! ## Accesses of another width or alignment through the fabric -/

theorem regionOf_window {a : Nat} (hlo : 0x40000000 ≤ a) (hhi : a ≤ 0x4010FFFF) : regionOf a = some .windows := by
  unfold regionOf
  repeat rw [if_neg (by omega)]
  exact if_pos ⟨hlo, hhi⟩

theorem windowAccess_otherWidth (s : State) (acc : Access) {a n : Nat} (w : Nat) (h : n ≠ 4 ∨ a % 4 ≠ 0) :
    s.windowAccess acc a n w = (s, 0) := if_pos h

@[simp] theorem leBytes_length (n v : Nat) : (leBytes n v).length = n := by
  induction n generalizing v with
  | zero => rfl
  | succ n ih => simp [leBytes, ih]

theorem leBytes_zero (n : Nat) : leBytes n 0 = List.replicate n 0 := by
  induction n with
  | zero => rfl
  | succ n ih => simp [leBytes, ih, List.replicate_succ]

theorem leNat_replicate_zero (n : Nat) : leNat (List.replicate n 0) = 0 := by
  induction n with
  | zero => rfl
  | succ n ih => rw [List.replicate_succ, leNat, ih]; rfl

theorem bytesWords_succ_of_ne_nil {bs : List Byte} (h : bs ≠ []) (k : Nat) :
    bytesWords bs (k + 1) = BitVec.ofNat 32 (leNat (bs.take 4)) :: bytesWords (bs.drop 4) k := by
  cases bs with
  | nil => exact absurd rfl h
  | cons b t => rfl

theorem eq_zero_of_mem_bytesWords_replicate {n k : Nat} {w : Word} (h : w ∈ bytesWords (List.replicate n 0) k) : w = 0 := by
  induction k generalizing n with
  | zero => simp [bytesWords] at h
  | succ k ih =>
    cases n with
    | zero => simp [bytesWords] at h
    | succ m =>
      rw [bytesWords_succ_of_ne_nil (by simp), List.take_replicate, List.drop_replicate, leNat_replicate_zero] at h
      rcases List.mem_cons.mp h with rfl | h
      · rfl
      · exact ih h

section
variable (s : State) (tag : Nat) {a n : Nat} (hlo : 0x40000000 ≤ a) (hhi : a + n ≤ 0x40110000) (hn : 1 ≤ n)
include hlo hhi hn

theorem regionOfRange_window : regionOfRange a n = some .windows := by
  have first := regionOf_window hlo (by omega)
  have last := regionOf_window (a := a + n - 1) (by omega) (by omega)
  simp [regionOfRange, first, last, Nat.ne_of_gt hn]

theorem admitsAccess_sup_window {acc : Access} (hacc : acc ≠ .fetch) : s.admitsAccess .sup acc a n = true := by
  simp [State.admitsAccess, regionOfRange_window hlo hhi hn, hacc]

theorem admitsNow_window (acc : Access) : s.admitsNow acc a n = true := by
  simp [State.admitsNow, regionOf_window hlo (by omega)]

theorem fabric_sup_window_write_otherWidth (v : Nat) (h : n ≠ 4 ∨ a % 4 ≠ 0) :
    s.fabric .sup tag .write a n v .clean = { s with answer := ⟨0, 0, [], false⟩ } := by
  simp [State.fabric, admitsAccess_sup_window s hlo hhi hn, admitsNow_window s hlo hhi hn, State.writeAt,
    regionOf_window hlo (by omega), windowAccess_otherWidth s .write _ h]

theorem fabric_sup_window_read_otherWidth (v : Nat) (h : n ≠ 4 ∨ a % 4 ≠ 0) :
    s.fabric .sup tag .read a n v .clean = s.answerBytes (List.replicate n 0) := by
  simp [State.fabric, admitsAccess_sup_window s hlo hhi hn, admitsNow_window s hlo hhi hn, State.readAt,
    regionOf_window hlo (by omega), windowAccess_otherWidth s .read _ h, leBytes_zero]

end

/-! ## The statements -/

theorem w1cRegisterWrite_keepsSetting : w1cSettingWins := by
  intro s addr value hw haligned hin hplain
  refine ⟨_, exec_w1cRegisterWrite_aligned s value hw haligned hin, fun f hf hacc => ?_⟩
  dsimp only
  rw [rd_hwFields hf, if_pos hacc, regWrite_of_specialWrite_none hplain, rd_writeReg hf, f.written_w1c _ _ hacc]
  exact Nat.mod_eq_of_lt (Nat.or_lt_two_pow (and_writtenMask_lt _ _ f) (bitsOf_lt_two_pow _ _ _))

theorem rcRegisterRead_clears : rcReadClears := by
  intro s addr hw haligned hin hlatch hderived
  refine ⟨_, exec_rcRegisterRead_kept s hw haligned hin hlatch hderived, answerWord_words _ _, fun f hf => ?_, ?_, ?_⟩
  · dsimp only
    rw [State.answerWord_rd, rd_hwFields hf, rd_clearRc hf]
    by_cases hacc : f.acc = .rc
    · simp [hacc, Nat.mod_eq_of_lt, bitsOf_lt_two_pow]
    · simp [hacc]
  · exact ((clearRc_sameBut _ s).trans (hwFields_sameBut .rc _ _ _)).trans (answerWord_sameBut _ _ _)
  · rw [answerWord_rest, hwFields_rest, clearRc_rest]

/-- Settles O6: writes, clearing reads and hardware settings go through the fields of a register, which have distinct lowest bits,
and the bits that hardware sets come last. -/
theorem readAndWriteOne : Obligations.ReadAndWriteOne := ⟨w1cRegisterWrite_keepsSetting, rcRegisterRead_clears⟩

/-- Settles O7: each path tests width and alignment before it reaches a register. -/
theorem otherWidthNoEffect : Obligations.OtherWidthNoEffect := by
  intro s addr value hw size tag
  refine ⟨fun _ => exec_rcRegisterRead_answers s hw addr, exec_registerWrite_otherWidth s value size, fun ha => ⟨?_, ?_⟩,
    fun hlo hhi hn h => ⟨?_, ?_⟩⟩
  · exact exec_w1cRegisterWrite_unaligned s value hw ha
  · exact ⟨_, exec_rcRegisterRead_unaligned s hw ha, answerWord_words s 0, answerWord_sameBut _ s 0, answerWord_rest s 0⟩
  · rw [exec_fabricAccess, fabric_sup_window_write_otherWidth s _ hlo hhi hn _ h]
    exact ⟨_, rfl, rfl, sameBut_withAnswer _ _ _, rfl⟩
  · rw [exec_fabricAccess, fabric_sup_window_read_otherWidth s _ hlo hhi hn _ h]
    exact ⟨_, rfl, rfl, fun _ => eq_zero_of_mem_bytesWords_replicate, sameBut_withAnswer _ _ _, rfl⟩

end Sys2Proof.Machine

/-! REAL32 patterns in the order of their numbers, FCMP on a lane, and the conditions after it (R102, R103, R104). -/

namespace Sys2Proof.Machine

/-! ## An instruction at its code word -/

theorem toNat_append_eq_add {m n : Nat} (x : BitVec m) (y : BitVec n) : (x ++ y).toNat = x.toNat * 2 ^ n + y.toNat := by
  rw [BitVec.toNat_append, ← Nat.shiftLeft_add_eq_or_of_lt y.isLt, Nat.shiftLeft_eq]

/-- The arithmetic encoding of a word with operand B is the word of Table 4-1. -/
theorem encB_eq_knWord (op : BitVec 7) (d a : Fin 16) (b : KArg) : encB op.toNat d a b = (knWord op d a b).toNat := by
  cases b <;> simp only [encB, enc, argF, argBits, knWord, toNat_append_eq_add, BitVec.toNat_ofNat] <;> omega

theorem reg_eq_knReg (ln : Lane) (r : Fin 16) : ln.reg r = knReg ln r := by
  unfold Lane.reg knReg
  cases ln.calls <;> rfl

theorem arg_f_eq_knF (ln : Lane) (b : KArg) : ln.arg .f b = knF ln b := by
  cases b with
  | reg r => exact reg_eq_knReg ln r
  | imm v => simp only [Lane.arg, knF, widen, knImm]; cases ln.ext <;> rfl

theorem atWord_of_knAt {s : State} {l : Fin 8} {w : Word} (h : knAt s l w) : s.atWord l w.toNat = true := by
  obtain ⟨hruns, hbusy, hword⟩ := h
  have hcode : s.code (s.lane l).pc = w.toNat := congrArg BitVec.toNat hword
  have hlane : (s.lane l).busy = true := hbusy
  simp [State.atWord, hruns, hlane, hcode]

/-- An instruction that changes its lane alone, where the lane stands at the instruction's word. -/
theorem knLane_of_knAt {s : State} {l : Fin 8} {w : Word} (h : knAt s l w) (g : Lane → Lane) :
    s.knLane l w.toNat g = withLane s l (g s.cxe.lanes[l]).step :=
  if_pos (atWord_of_knAt h)

theorem exec_knFcmp_of_knAt {s : State} {l : Fin 8} {a : Fin 16} {b : KArg} (h : knAt s l (knWord 0x4B 0 a b)) :
    let ln := s.cxe.lanes[l]
    exec (.knFcmp l a b) s =
      .next (withLane s l { ln with fl := ln.fl.fcmp (knReg ln a) (knF ln b), pc := ln.pc + 1, ext := none }) := by
  have hlane := knLane_of_knAt h fun ln => ln.doKnFcmp (ln.reg a) (ln.arg .f b)
  rw [← encB_eq_knWord, reg_eq_knReg, arg_f_eq_knF] at hlane
  exact congrArg Host.Outcome.next hlane

/-! ## The fields of a pattern -/

theorem toNat_extract_exponent (w : Word) : (w.extractLsb' 23 8).toNat = fExp w := by
  simp [fExp, Nat.shiftRight_eq_div_pow]

theorem toNat_extract_mantissa (w : Word) : (w.extractLsb' 0 23).toNat = fMant w := by
  simp [fMant]

theorem msb_eq_fSign (w : Word) : w.msb = fSign w := by
  have hlt := w.isLt
  rw [BitVec.msb_eq_decide, fSign, Bool.eq_iff_iff, decide_eq_true_iff, beq_iff_eq]
  omega

theorem exponent_zero_iff (w : Word) : w.extractLsb' 23 8 = 0#8 ↔ isZero w = true := by
  rw [← BitVec.toNat_inj, toNat_extract_exponent, isZero, beq_iff_eq]; rfl

theorem isNaN_iff (w : Word) : isNaN w = true ↔ realNaN w := by
  simp [isNaN, realNaN, ← BitVec.toNat_inj, toNat_extract_exponent, toNat_extract_mantissa, -BitVec.extractLsb'_toNat]

/-! ## The key of a pattern: an integer in the order of the numbers -/

/-- A pattern's bits below the sign, counted down from 0 where the sign is set; 0 for a subnormal, which is read as zero. -/
def realKey (w : Word) : Int :=
  if isZero w then 0 else if fSign w then -((w.toNat % 2 ^ 31 : Nat) : Int) else ((w.toNat % 2 ^ 31 : Nat) : Int)

theorem isZero_eq_realKey (w : Word) : isZero w = decide (realKey w = 0) := by
  rw [Bool.eq_iff_iff, decide_eq_true_iff]
  simp only [realKey, isZero, fExp, beq_iff_eq]
  split_ifs <;> omega

theorem fSign_fFlush (w : Word) : fSign (fFlush w) = fSign w := by
  unfold fFlush
  split
  · cases fSign w <;> decide
  · rfl

theorem isZero_fFlush (w : Word) : isZero (fFlush w) = isZero w := by
  unfold fFlush
  split
  · next h =>
    rw [show isZero w = true from beq_iff_eq.mpr h]
    cases fSign w <;> decide
  · rfl

/-- A flushed pattern is its key, counted from 0 or from the negative zero by its sign. -/
theorem fFlush_cases (w : Word) :
    (fSign w = false ∧ ((fFlush w).toNat : Int) = realKey w ∧ 0 ≤ realKey w ∧ realKey w < 2 ^ 31) ∨
    (fSign w = true ∧ ((fFlush w).toNat : Int) = 2 ^ 31 - realKey w ∧ -2 ^ 31 < realKey w ∧ realKey w ≤ 0) := by
  have hlt := w.isLt
  unfold fFlush realKey isZero
  cases hs : fSign w <;> by_cases hz : fExp w = 0 <;> simp [hz, fZero] <;> simp [fSign] at hs <;> omega

/-- The model's order is the order of the keys: patterns of one sign compare by their bits. -/
theorem fLt_eq_realKey (a b : Word) : fLt a b = decide (realKey a < realKey b) := by
  rw [Bool.eq_iff_iff, decide_eq_true_iff]
  simp only [fLt, isZero_fFlush, fSign_fFlush]
  rcases fFlush_cases a with ⟨hsa, ha⟩ | ⟨hsa, ha⟩ <;> rcases fFlush_cases b with ⟨hsb, hb⟩ | ⟨hsb, hb⟩ <;>
    simp [isZero_eq_realKey, hsa, hsb] <;> omega

/-- The model's equality is the equality of the keys. -/
theorem fEq_eq_realKey (a b : Word) : fEq a b = decide (realKey a = realKey b) := by
  rw [Bool.eq_iff_iff, decide_eq_true_iff]
  simp only [fEq, isZero_eq_realKey, Bool.or_eq_true, Bool.and_eq_true, decide_eq_true_iff, beq_iff_eq, ← BitVec.toNat_inj]
  rcases fFlush_cases a with ⟨_, ha⟩ | ⟨_, ha⟩ <;> rcases fFlush_cases b with ⟨_, hb⟩ | ⟨_, hb⟩ <;> omega

/-! ## The key and the number -/

/-- The number of a pattern with no sign, as a multiple of 2^-150. -/
def realMag (k : Nat) : Nat := if k / 2 ^ 23 = 0 then 2 * k else (k % 2 ^ 23 + 2 ^ 23) * 2 ^ (k / 2 ^ 23)

theorem realMag_lt_succ (k : Nat) : realMag k < realMag (k + 1) := by
  unfold realMag
  by_cases hcarry : (k + 1) % 2 ^ 23 = 0
  · rw [show (k + 1) / 2 ^ 23 = k / 2 ^ 23 + 1 by omega, hcarry, pow_succ]
    have hlast : k % 2 ^ 23 + 1 = 2 ^ 23 := by omega
    split
    · next h0 => rw [h0, if_neg (by decide)]; omega
    · calc (k % 2 ^ 23 + 2 ^ 23) * 2 ^ (k / 2 ^ 23) < (2 ^ 23 + 2 ^ 23) * 2 ^ (k / 2 ^ 23) := by gcongr; omega
        _ = (0 + 2 ^ 23) * (2 ^ (k / 2 ^ 23) * 2) := by ring
        _ = _ := (if_neg (by omega)).symm
  · rw [show (k + 1) / 2 ^ 23 = k / 2 ^ 23 by omega, show (k + 1) % 2 ^ 23 = k % 2 ^ 23 + 1 by omega]
    split
    · omega
    · gcongr; omega

/-- The number of a key, as a multiple of 2^-150. -/
def keyMag : Int → Int
  | .ofNat k => realMag k
  | .negSucc k => -realMag (k + 1)

theorem keyMag_strictMono : StrictMono keyMag := by
  refine strictMono_int_of_lt_succ fun n => ?_
  match n with
  | .ofNat k => exact Int.ofNat_lt.mpr (realMag_lt_succ k)
  | .negSucc 0 => decide
  | .negSucc (k + 1) => exact Int.neg_lt_neg (Int.ofNat_lt.mpr (realMag_lt_succ (k + 1)))

theorem keyMag_natCast (k : Nat) : keyMag k = realMag k := rfl

theorem keyMag_neg_natCast (k : Nat) : keyMag (-k) = -realMag k := by
  cases k <;> rfl

/-- The number of an operand by its key. -/
theorem realIn_eq_keyMag (w : Word) : realIn w = keyMag (realKey w) * (2 : Rat) ^ (-150 : Int) := by
  unfold realIn realKey
  by_cases hz : isZero w = true
  · rw [if_pos ((exponent_zero_iff w).mpr hz), if_pos hz]; simp [keyMag, realMag]
  · rw [if_neg (mt (exponent_zero_iff w).mp hz), if_neg hz]
    have he : fExp w ≠ 0 := by simpa [isZero] using hz
    have hmag : realMag (w.toNat % 2 ^ 31) = (fMant w + 2 ^ 23) * 2 ^ fExp w := by
      have hexp : w.toNat % 2 ^ 31 / 2 ^ 23 = fExp w := by unfold fExp; omega
      have hmant : w.toNat % 2 ^ 31 % 2 ^ 23 = fMant w := by unfold fMant; omega
      rw [realMag, hexp, hmant, if_neg he]
    simp only [realVal, toNat_extract_exponent, toNat_extract_mantissa, msb_eq_fSign, if_neg he]
    rw [max_eq_left (Nat.one_le_iff_ne_zero.mpr he), sub_eq_add_neg, zpow_add₀ two_ne_zero, zpow_natCast]
    split
    · rw [keyMag_neg_natCast, hmag]; push_cast; ring
    · rw [keyMag_natCast, hmag]; push_cast; ring

theorem realIn_lt_iff (x y : Word) : realIn x < realIn y ↔ realKey x < realKey y := by
  rw [realIn_eq_keyMag, realIn_eq_keyMag, mul_lt_mul_iff_left₀ (by positivity), Int.cast_lt, keyMag_strictMono.lt_iff_lt]

theorem realIn_inj (x y : Word) : realIn x = realIn y ↔ realKey x = realKey y := by
  rw [realIn_eq_keyMag, realIn_eq_keyMag, mul_left_inj' (by positivity), Int.cast_inj, keyMag_strictMono.injective.eq_iff]

/-! ## Order of operands that are not NaN -/

/-- Operands of equal value: finite ones of equal numbers, or the same infinity. -/
def realEq (x y : Word) : Prop := (realFinite x ∧ realFinite y ∧ realIn x = realIn y) ∨ (realInf x ∧ x = y)

/-- An operand below another: a lesser number, or another value than the infinity at that end. -/
def realLt (x y : Word) : Prop :=
  (realFinite x ∧ realFinite y ∧ realIn x < realIn y) ∨ (x ≠ y ∧ (x = 0xFF800000 ∨ y = 0x7F800000))

theorem realFinite_iff (w : Word) : realFinite w ↔ fExp w ≠ 255 := by
  rw [realFinite, ← toNat_extract_exponent, ne_eq, ← BitVec.toNat_inj]; rfl

/-- Only the patterns that are read as zero share a key. -/
theorem eq_of_realKey_eq {x y : Word} (hkey : realKey x = realKey y) (hx : realKey x ≠ 0) : x = y := by
  apply BitVec.eq_of_toNat_eq
  simp only [realKey, fSign, beq_iff_eq] at hkey hx
  split_ifs at hkey hx <;> omega

theorem realKey_ne_zero_of_realInf {w : Word} (h : realInf w) : realKey w ≠ 0 := by
  rcases h with rfl | rfl <;> decide

section
variable {w : Word} (h : ¬ realNaN w)
include h

/-- The infinities have the outermost keys. -/
theorem realKey_bounds : -0x7F800000 ≤ realKey w ∧ realKey w ≤ 0x7F800000 := by
  rw [← isNaN_iff] at h
  simp only [isNaN, fExp, fMant, Bool.and_eq_true, beq_iff_eq, bne_iff_ne] at h
  unfold realKey
  split_ifs <;> omega

theorem realFinite_or_realInf : realFinite w ∨ realInf w := by
  rw [← isNaN_iff] at h
  rw [realFinite_iff, or_iff_not_imp_left, not_not]
  intro hexp
  have hmant : fMant w = 0 := by simpa [isNaN, hexp] using h
  unfold fExp at hexp
  unfold fMant at hmant
  unfold realInf
  bv_omega

end

theorem realEq_iff_realKey {x y : Word} (hx : ¬ realNaN x) (hy : ¬ realNaN y) : realEq x y ↔ realKey x = realKey y := by
  constructor
  · rintro (⟨_, _, h⟩ | ⟨_, rfl⟩)
    · exact (realIn_inj x y).mp h
    · rfl
  · intro h
    rcases realFinite_or_realInf hx with hfx | hix
    · rcases realFinite_or_realInf hy with hfy | hiy
      · exact .inl ⟨hfx, hfy, (realIn_inj x y).mpr h⟩
      · have hxy := (eq_of_realKey_eq h.symm (realKey_ne_zero_of_realInf hiy)).symm
        exact .inr ⟨hxy ▸ hiy, hxy⟩
    · exact .inr ⟨hix, eq_of_realKey_eq h (realKey_ne_zero_of_realInf hix)⟩

theorem realLt_iff_realKey {x y : Word} (hx : ¬ realNaN x) (hy : ¬ realNaN y) : realLt x y ↔ realKey x < realKey y := by
  have hneg : realKey 0xFF800000 = -0x7F800000 := by decide
  have hpos : realKey 0x7F800000 = 0x7F800000 := by decide
  have hbx := realKey_bounds hx
  have hby := realKey_bounds hy
  constructor
  · rintro (⟨_, _, h⟩ | ⟨hne, hend⟩)
    · exact (realIn_lt_iff x y).mp h
    · have hkey : realKey x ≠ realKey y := fun h => hne (eq_of_realKey_eq h (by rcases hend with rfl | rfl <;> omega))
      rcases hend with rfl | rfl <;> omega
  · intro h
    have hne : x ≠ y := by rintro rfl; omega
    rcases realFinite_or_realInf hx with hfx | rfl | rfl
    · rcases realFinite_or_realInf hy with hfy | rfl | rfl
      · exact .inl ⟨hfx, hfy, (realIn_lt_iff x y).mpr h⟩
      · exact .inr ⟨hne, .inr rfl⟩
      · omega
    · omega
    · exact .inr ⟨hne, .inl rfl⟩

/-! ## FCMP's flags and the conditions -/

theorem fcmp_q (f : KFlags) (x y : Word) : (f.fcmp x y).q = f.q := by
  unfold KFlags.fcmp
  split_ifs <;> rfl

theorem fcmp_of_realNaN (f : KFlags) {x y : Word} (h : ¬ (¬ realNaN x ∧ ¬ realNaN y)) :
    f.fcmp x y = { f with z := false, n := false, c := false, v := true } := by
  rw [← isNaN_iff, ← isNaN_iff] at h
  exact if_pos (by simpa [or_iff_not_imp_left] using h)

theorem fcmp_of_ordered (f : KFlags) {x y : Word} (hx : ¬ realNaN x) (hy : ¬ realNaN y) :
    f.fcmp x y = { f with z := decide (realKey x = realKey y), n := decide (realKey x < realKey y),
                          c := decide (realKey y ≤ realKey x), v := false } := by
  rw [← isNaN_iff] at hx hy
  rw [KFlags.fcmp, if_neg (by simp [hx, hy]), fEq_eq_realKey, fLt_eq_realKey]
  rcases lt_trichotomy (realKey x) (realKey y) with h | h | h
  · simp [h, h.ne, h.not_ge]
  · simp [h]
  · simp [h.ne', h.not_gt, h.le]

/-- Settles O22: the keys of the operands decide FCMP's flags, and the keys stand in the order of the numbers. -/
theorem knCompareConditions : Obligations.KnCompareConditions := by
  intro s l a b hat ln x y eq lt ordered
  refine ⟨ln.fl.fcmp x y, exec_knFcmp_of_knAt hat, fcmp_q .., fun ⟨hx, hy⟩ => ?_, fun hnan => ?_⟩
  · have heq : eq ↔ realKey x = realKey y := realEq_iff_realKey hx hy
    have hlt : lt x y ↔ realKey x < realKey y := realLt_iff_realKey hx hy
    have hgt : lt y x ↔ realKey y < realKey x := realLt_iff_realKey hy hx
    rw [heq, hlt, hgt, fcmp_of_ordered _ hx hy]
    rcases lt_trichotomy (realKey x) (realKey y) with h | h | h
    · simp [knHolds, h, h.ne, h.not_ge, h.not_gt]
    · simp [knHolds, h]
    · simp [knHolds, h, h.ne', h.not_gt, h.le]
  · rw [fcmp_of_realNaN _ hnan]
    simp [knHolds]

end Sys2Proof.Machine
